-- ==== Sys2Proof/Word.lean ====
section
/-! DEFINITION. The machine's two words: the byte of its ports (11_message_formats.md, R186) and the
millisecond count of its link clock (05_link_presence_and_timing.md, R79). Every other quantity of the
J416 is an index, a count or an exact number, and is a `Nat` or an `Int`. -/

namespace Sys2Proof

/-- A character of a port: 8 data bits (Chapter 11). -/
abbrev Byte := BitVec 8

/-- A value of the link clock: a count of milliseconds that wraps from 4,294,967,295 to 0 (R79). -/
abbrev Clock := BitVec 32

end Sys2Proof
end

