-- ==== Sys2Proof/Config.lean ====
section
/-! DEFINITION. What the manual fixes for every J416 (ranges, capacities, durations), and the values that
it leaves open, which stand here as constants with no body. -/

namespace Sys2Proof.Config

/-- Highest grid step of a frequency (00_scope.md, Numbers and units). -/
def maxStep : Nat := 2097151

/-- Highest half width, search step and bin width (R2, R4, R25, R46). -/
def maxWidth : Nat := 4095

/-- Highest guard of a band group (R2). -/
def maxGuard : Nat := 255

/-- Highest search limit (R2, R25). -/
def maxLimit : Nat := 1024

/-- Most plan records of one band group that are not EMPTY (R8). -/
def groupCapacity : Nat := 24

/-- Most internal requests in the engine, counting a running one (R26). -/
def internalCapacity : Nat := 2

/-- Most bins in one BINS.READ (R48). -/
def binsPerRead : Nat := 64

/-- A recorded EDGE overlap above this is recorded as this (R41). -/
def maxOverlap : Int := 16635

/-- Places of the PASS queue (R164). -/
def passCapacity : Nat := 16

/-- Most bytes of a PASS payload (R165). -/
def passBytes : Nat := 16

/-- Counts of a result and of an echo mismatch run stop here (R41, R47, R130). -/
def countStop : Nat := 255

/-- The counted echo mismatch that raises TALLY_FAULT (R130). -/
def tallyFaultCount : Nat := 8

/-- Gap between characters of one frame or message, in ms (R175, R190). -/
def gapTime : Nat := 20

/-- Acknowledgement limit of a matrix order, in ms (R156). -/
def orderTime : Nat := 50

/-- Limit of a return port message, in ms (R167). -/
def messageTime : Nat := 20

/-- FREE VALUE (log entry 7). The presence bytes of a response record with more than eight optional
fields: R188 speaks of one presence byte and R186 gives it one bit per optional field, so the manual
states no layout for such a record. A response takes of it no more bytes than the record has optional
fields, which keeps it within 255 bytes (R188). -/
opaque widePresence : List Bool → List Byte

/-- FREE VALUE (log entry 13). Whether a HEARD message whose kind byte is above 1 is gathered to 12 bytes
(as a CAMERA's) or to 11: R190 gives the count for the two kinds only, and R191 has the message discarded
once it is complete. -/
opaque otherKindHasEcho : Bool

end Sys2Proof.Config
end

