-- ==== Sys2Proof/Syntax.lean ====
section
/-! DEFINITION. The commands of the J416: one constructor of `Instr` per row of spec/opcode_table.json.
A request carries the port it arrives on and the fields of its frame as raw numbers, before any clamp or
range test (R180, R186, R187): an index byte of 255 is FFh, NONE, MUTE or an absent optional index (R186);
a choice byte counts its values from 0 in the order of the field's own table (R186). -/

namespace Sys2Proof

/-- The two request ports (10.1). -/
inductive Port where
  | primary
  | service
deriving DecidableEq, Repr, Inhabited

/-- The five input ports that carry messages (R183, R189). -/
inductive InPort where
  | receiver
  | mixer
  | keypanel
  | matrix
  | ret
deriving DecidableEq, Repr, Inhabited

/-- Damage to one character of the service port (R175). -/
inductive CharacterError where
  | parity
  | noStop
deriving DecidableEq, Repr, Inhabited

/-- Damage to one byte of an input port (R190). -/
inductive ByteError where
  | parity
  | noStop
  | unknownType
deriving DecidableEq, Repr, Inhabited

/-- The candidate of CHECK.START: explicit, or a plan record (R24). -/
inductive CheckTarget where
  | explicit (centre halfWidth group : Nat)
  | record (index : Nat)
deriving DecidableEq, Repr, Inhabited

/-- The optional parameters of LINK.ENROLL and LINK.SET (R72, R74); `none` is omitted. -/
structure LinkParams where
  floor : Option Nat
  fadeTime : Option Nat
  lossTime : Option Nat
  autoRetune : Option Nat
  retuneDelay : Option Nat
deriving DecidableEq, Repr, Inhabited

/-- The fields of a HEARD message as received (R189). `echo` is the echo byte of a report of kind CAMERA. -/
structure HeardReport where
  receiver : Nat
  ident : Nat
  kind : Nat
  freq : Nat
  level : Int
  margin : Nat
  echo : Option Nat
deriving DecidableEq, Repr, Inhabited

/-- The 56 requests in the order of the request index (10.6). -/
inductive RequestCode where
  | groupSet | groupGet | planPut | planDrop | planGet | planList
  | checkStart | findStart | checkRead | checkCancel
  | surveySetup | surveyStart | surveyStop | surveyRead | binsRead | binsClear
  | linkNote | linkEnroll | linkSet | linkRetire | linkErase | linkGet | linkProbe | linkChanges
  | directoryPin | directoryAdmit | directoryGet | captureRead
  | clockRead | linkTimers
  | linkRetune | linkHalt | retuneLimit | retuneGet | retuneQueue
  | tallyMap | tallyOverride | tallySources | tallyGet | lampSet | lampGet
  | keySet | keyPress | keyLift | keyGet | feedDefault | feedGet | matrixGet
  | returnPass | returnGet
  | authorityYield | causeRead | causeClear | causeMask | portFaults | runRestart
deriving DecidableEq, Repr, Inhabited

/-- A command: one row of spec/opcode_table.json. -/
inductive Instr where
  /-- HARDWARE_RESET -/
  | hardwareReset
  /-- GROUP_SET (R2) -/
  | groupSet (p : Port) (group lower upper spacingGuard productGuard twoTone threeTone searchStep searchLimit : Nat)
  /-- GROUP_GET (R3) -/
  | groupGet (p : Port) (group : Nat)
  /-- PLAN_PUT (R16) -/
  | planPut (p : Port) (record state centre halfWidth group : Nat)
  /-- PLAN_DROP (R17) -/
  | planDrop (p : Port) (record : Nat)
  /-- PLAN_GET (R18) -/
  | planGet (p : Port) (record : Nat)
  /-- PLAN_LIST (R19); a group of 255 is absent. -/
  | planList (p : Port) (group : Nat)
  /-- CHECK_START (R24) -/
  | checkStart (p : Port) (target : CheckTarget)
  /-- FIND_START (R25) -/
  | findStart (p : Port) (group lower upper step halfWidth limit : Nat)
  /-- CHECK_READ (R30) -/
  | checkRead (p : Port) (slot : Nat)
  /-- CHECK_CANCEL (R31) -/
  | checkCancel (p : Port) (slot : Nat)
  /-- ENGINE_START (R27) -/
  | engineStart
  /-- CANDIDATE_EVALUATION (R28) -/
  | candidateEvaluation
  /-- SURVEY_SETUP (R46) -/
  | surveySetup (p : Port) (start width : Nat) (hot : Int)
  /-- SURVEY_START (R51) -/
  | surveyStart (p : Port) (job receiver firstBin count mode : Nat) (watch : Int)
  /-- SURVEY_STOP (R52) -/
  | surveyStop (p : Port) (job : Nat)
  /-- SURVEY_READ (R53) -/
  | surveyRead (p : Port) (job : Nat)
  /-- BINS_READ (R48) -/
  | binsRead (p : Port) (first last : Nat)
  /-- BINS_CLEAR (R49) -/
  | binsClear (p : Port) (first last : Nat)
  /-- SAMPLE (R54) -/
  | sample (receiver : Nat) (level : Int)
  /-- LINK_NOTE (R71) -/
  | linkNote (p : Port) (index ident kind : Nat)
  /-- LINK_ENROLL (R72, R73); an output of 255 is no output. -/
  | linkEnroll (p : Port) (index ident kind record : Nat) (params : LinkParams) (output : Nat)
  /-- LINK_SET (R74) -/
  | linkSet (p : Port) (index : Nat) (params : LinkParams)
  /-- LINK_RETIRE (R75) -/
  | linkRetire (p : Port) (index : Nat)
  /-- LINK_ERASE (R76) -/
  | linkErase (p : Port) (index : Nat)
  /-- LINK_GET (R77) -/
  | linkGet (p : Port) (index : Nat)
  /-- LINK_PROBE (R66) -/
  | linkProbe (p : Port) (ident : Nat)
  /-- LINK_CHANGES (R62, R184) -/
  | linkChanges (p : Port)
  /-- DIRECTORY_PIN (R63) -/
  | directoryPin (p : Port) (bound : Nat)
  /-- DIRECTORY_ADMIT (R64) -/
  | directoryAdmit (p : Port) (setting : Nat)
  /-- DIRECTORY_GET (R64) -/
  | directoryGet (p : Port)
  /-- CAPTURE_READ (R68) -/
  | captureRead (p : Port)
  /-- HEARD (R65) -/
  | heard (report : HeardReport)
  /-- CLOCK_READ (R81) -/
  | clockRead (p : Port)
  /-- LINK_TIMERS (R98) -/
  | linkTimers (p : Port) (index : Nat)
  /-- FADE_EXPIRY (R91) -/
  | fadeExpiry (link : Nat)
  /-- LOSS_EXPIRY (R92) -/
  | lossExpiry (link : Nat)
  /-- RETUNE_DELAY_EXPIRY (R97) -/
  | retuneDelayExpiry (link : Nat)
  /-- LINK_RETUNE (R103); a target of 255 is absent. -/
  | linkRetune (p : Port) (index target keepOld : Nat)
  /-- LINK_HALT (R114) -/
  | linkHalt (p : Port) (index : Nat)
  /-- RETUNE_LIMIT_EXPIRY (R113) -/
  | retuneLimitExpiry (link : Nat)
  /-- RETUNE_LIMIT (R100) -/
  | retuneLimit (p : Port) (time : Nat)
  /-- RETUNE_GET (R118) -/
  | retuneGet (p : Port) (index : Nat)
  /-- RETUNE_QUEUE (R118) -/
  | retuneQueue (p : Port)
  /-- MIXER_TALLY_MESSAGE (R120); the flags byte as received. -/
  | mixerTallyMessage (source flags : Nat)
  /-- TALLY_MAP (R121); a link of 255 is NONE. -/
  | tallyMap (p : Port) (source link : Nat)
  /-- TALLY_OVERRIDE (R123) -/
  | tallyOverride (p : Port) (link setting : Nat)
  /-- TALLY_SOURCES (R122) -/
  | tallySources (p : Port) (first last : Nat)
  /-- TALLY_GET (R136) -/
  | tallyGet (p : Port) (link : Nat)
  /-- LAMP_SET (R133); a link of 255 is NONE. -/
  | lampSet (p : Port) (line link colour drive activeLevel : Nat)
  /-- LAMP_GET (R135) -/
  | lampGet (p : Port) (line : Nat)
  /-- KEY_SET (R138) -/
  | keySet (p : Port) (key level mode locked source : Nat) (destinations : List Nat)
  /-- KEY_DOWN (R139) -/
  | keyDown (key : Nat)
  /-- KEY_PRESS (R139) -/
  | keyPress (p : Port) (key : Nat)
  /-- KEY_UP (R140) -/
  | keyUp (key : Nat)
  /-- KEY_LIFT (R140) -/
  | keyLift (p : Port) (key : Nat)
  /-- KEY_GET (R154) -/
  | keyGet (p : Port) (key : Nat)
  /-- FEED_DEFAULT (R143); an input of 255 is NONE. -/
  | feedDefault (p : Port) (link input : Nat)
  /-- FEED_GET (R151) -/
  | feedGet (p : Port) (link : Nat)
  /-- MATRIX_GET (R159) -/
  | matrixGet (p : Port) (output : Nat)
  /-- KEY_STATUS_SEND_START (R153) -/
  | keyStatusSendStart
  /-- KEY_STATUS_SEND_END (R153) -/
  | keyStatusSendEnd
  /-- ORDER_SEND_START (R156) -/
  | orderSendStart
  /-- ORDER_ACK (R157); an input of 255 is MUTE. -/
  | orderAck (output input : Nat)
  /-- ORDER_TIMEOUT (R158) -/
  | orderTimeout
  /-- RETURN_PASS (R165) -/
  | returnPass (p : Port) (link : Nat) (payload : List Byte)
  /-- RETURN_GET (R172) -/
  | returnGet (p : Port)
  /-- RETURN_SEND_START (R166) -/
  | returnSendStart
  /-- DONE (R169) -/
  | doneMessage (number : Nat)
  /-- RETURN_TIMEOUT (R170) -/
  | returnTimeout
  /-- AUTHORITY_YIELD (R178) -/
  | authorityYield (p : Port)
  /-- CAUSE_READ (R181) -/
  | causeRead (p : Port)
  /-- CAUSE_CLEAR (R181) -/
  | causeClear (p : Port) (causes : BitVec 16)
  /-- CAUSE_MASK (R182): the causes named become unmasked. -/
  | causeMask (p : Port) (unmasked : BitVec 16)
  /-- PORT_FAULTS (R183) -/
  | portFaults (p : Port)
  /-- RUN_RESTART (R185) -/
  | runRestart (p : Port)
  /-- BAD_FRAME (R173): the bytes of a completed malformed frame. -/
  | badFrame (p : Port) (bytes : List Byte)
  /-- READ_TRANSACTION (R174): how many bytes the host clocks after the first. -/
  | readTransaction (clocked : Nat)
  /-- BREAK (R177) -/
  | lineBreak
  /-- SERVICE_CHARACTER_ERROR (R175) -/
  | serviceCharacterError (error : CharacterError)
  /-- SERVICE_GAP_EXPIRY (R175) -/
  | serviceGapExpiry
  /-- SERVICE_RESPONSE_END (R176) -/
  | serviceResponseEnd
  /-- PORT_BYTE_ERROR (R190) -/
  | portByteError (line : InPort) (error : ByteError)
  /-- INPUT_GAP_EXPIRY (R190) -/
  | inputGapExpiry (line : InPort)
  /-- MALFORMED_MESSAGE (R191): the bytes of a complete message. -/
  | malformedMessage (line : InPort) (bytes : List Byte)
deriving DecidableEq, Repr, Inhabited

end Sys2Proof
end

