-- ==== Sys2Proof/WellFormed.lean ====
section
/-! DEFINITION. Which commands can come about: every field fits the bytes its frame or message gives it
(R186, R187, R189), and the operands of the block's own events name a link. The meanings are total: they
give every command a next state, well formed or not. -/

namespace Sys2Proof

/-- A field of one byte (R186). -/
def fits8 (n : Nat) : Bool := n < 256

/-- A field of two bytes (R186). -/
def fits16 (n : Nat) : Bool := n < 65536

/-- A field of three bytes (R186). -/
def fits24 (n : Nat) : Bool := n < 16777216

/-- A signed field of one byte (R186). -/
def fitsLevel (i : Int) : Bool := -128 ≤ i && i ≤ 127

/-- An omitted parameter fits, a given one fits its width. -/
def fitsOpt (fits : Nat → Bool) : Option Nat → Bool
  | none => true
  | some n => fits n

namespace LinkParams

/-- Each parameter given fits its width (R186; log entry 8). -/
def fits (q : LinkParams) : Bool :=
  fitsOpt fits8 q.floor && fitsOpt fits16 q.fadeTime && fitsOpt fits16 q.lossTime
    && fitsOpt fits8 q.autoRetune && fitsOpt fits16 q.retuneDelay

end LinkParams

/-- A HEARD message has the bytes of R189: an echo byte exactly when its kind is CAMERA (0). -/
def HeardReport.fits (r : HeardReport) : Bool :=
  fits8 r.receiver && fits24 r.ident && fits8 r.kind && fits24 r.freq && fitsLevel r.level && fits8 r.margin
    && fitsOpt fits8 r.echo && (r.echo.isSome == (r.kind == 0))

/-- Most bytes of a frame after its length byte (R186: the length is one byte). -/
def maxFrame : Nat := 255

/-- The command can come about. -/
def Instr.wellFormed : Instr → Bool
  | .hardwareReset => true
  | .groupSet _ g lo up gs gp two three st lim =>
      fits8 g && fits24 lo && fits24 up && fits16 gs && fits16 gp && fits8 two && fits8 three && fits16 st && fits16 lim
  | .groupGet _ g => fits8 g
  | .planPut _ r st c h g => fits8 r && fits8 st && fits24 c && fits16 h && fits8 g
  | .planDrop _ r => fits8 r
  | .planGet _ r => fits8 r
  | .planList _ g => fits8 g
  | .checkStart _ (.explicit c h g) => fits24 c && fits16 h && fits8 g
  | .checkStart _ (.record r) => fits8 r
  | .findStart _ g lo up st h lim => fits8 g && fits24 lo && fits24 up && fits16 st && fits16 h && fits16 lim
  | .checkRead _ k => fits8 k
  | .checkCancel _ k => fits8 k
  | .engineStart => true
  | .candidateEvaluation => true
  | .surveySetup _ st w hot => fits24 st && fits16 w && fitsLevel hot
  | .surveyStart _ j r b c m x => fits8 j && fits8 r && fits8 b && fits16 c && fits8 m && fitsLevel x
  | .surveyStop _ j => fits8 j
  | .surveyRead _ j => fits8 j
  | .binsRead _ a b => fits8 a && fits8 b
  | .binsClear _ a b => fits8 a && fits8 b
  | .sample r x => fits8 r && fitsLevel x
  | .linkNote _ i id k => fits8 i && fits24 id && fits8 k
  | .linkEnroll _ i id k r q o => fits8 i && fits24 id && fits8 k && fits8 r && q.fits && fits8 o
  | .linkSet _ i q => fits8 i && q.fits
  | .linkRetire _ i => fits8 i
  | .linkErase _ i => fits8 i
  | .linkGet _ i => fits8 i
  | .linkProbe _ id => fits24 id
  | .linkChanges _ => true
  | .directoryPin _ b => fits8 b
  | .directoryAdmit _ b => fits8 b
  | .directoryGet _ => true
  | .captureRead _ => true
  | .heard r => r.fits
  | .clockRead _ => true
  | .linkTimers _ i => fits8 i
  | .fadeExpiry l => l < 64
  | .lossExpiry l => l < 64
  | .retuneDelayExpiry l => l < 64
  | .linkRetune _ i t k => fits8 i && fits8 t && fits8 k
  | .linkHalt _ i => fits8 i
  | .retuneLimitExpiry l => l < 64
  | .retuneLimit _ t => fits16 t
  | .retuneGet _ i => fits8 i
  | .retuneQueue _ => true
  | .mixerTallyMessage a f => fits8 a && fits8 f
  | .tallyMap _ a l => fits8 a && fits8 l
  | .tallyOverride _ l o => fits8 l && fits8 o
  | .tallySources _ a b => fits8 a && fits8 b
  | .tallyGet _ l => fits8 l
  | .lampSet _ n l c d v => fits8 n && fits8 l && fits8 c && fits8 d && fits8 v
  | .lampGet _ n => fits8 n
  | .keySet _ k v m lk src ds =>
      fits8 k && fits8 v && fits8 m && fits8 lk && fits8 src && ds.all fits8 && ds.length + 7 ≤ maxFrame
  | .keyDown k => fits8 k
  | .keyPress _ k => fits8 k
  | .keyUp k => fits8 k
  | .keyLift _ k => fits8 k
  | .keyGet _ k => fits8 k
  | .feedDefault _ l i => fits8 l && fits8 i
  | .feedGet _ l => fits8 l
  | .matrixGet _ o => fits8 o
  | .keyStatusSendStart => true
  | .keyStatusSendEnd => true
  | .orderSendStart => true
  | .orderAck o i => fits8 o && fits8 i
  | .orderTimeout => true
  | .returnPass _ l b => fits8 l && b.length + 3 ≤ maxFrame
  | .returnGet _ => true
  | .returnSendStart => true
  | .doneMessage n => fits8 n
  | .returnTimeout => true
  | .authorityYield _ => true
  | .causeRead _ => true
  | .causeClear _ _ => true
  | .causeMask _ _ => true
  | .portFaults _ => true
  | .runRestart _ => true
  | .badFrame _ _ => true
  | .readTransaction _ => true
  | .lineBreak => true
  | .serviceCharacterError _ => true
  | .serviceGapExpiry => true
  | .serviceResponseEnd => true
  | .portByteError _ _ => true
  | .inputGapExpiry _ => true
  | .malformedMessage _ _ => true

end Sys2Proof
end

