-- ==== Sys2Proof/Decode.lean ====
section
/-! DEFINITION. From bytes to commands (Chapter 11): the form of each request frame, the content test of
each port message, and the encoders that write the same bytes. The table gives no row any bits, so no word
spells a command (log entry 6). -/

namespace Sys2Proof

/-- The command a word spells by the table's bits: no row of spec/opcode_table.json has any. -/
def decodeTableWord (_nbits _w : Nat) : Option Instr := none

/-! ## Numbers of a frame (R186: most significant byte first) -/

/-- A run of bytes as a number. -/
def beNat (bs : List Byte) : Nat := bs.foldl (fun a b => 256 * a + b.toNat) 0

/-- A number in one, two or three bytes. -/
def bytes1 (n : Nat) : List Byte := [BitVec.ofNat 8 n]
def bytes2 (n : Nat) : List Byte := [BitVec.ofNat 8 (n / 256), BitVec.ofNat 8 n]
def bytes3 (n : Nat) : List Byte := [BitVec.ofNat 8 (n / 65536), BitVec.ofNat 8 (n / 256), BitVec.ofNat 8 n]

/-- The type of a request field (R186). -/
inductive FieldType where
  | u8
  | u16
  | u24
  | s8
  | list
  | params
deriving DecidableEq, Repr, Inhabited

/-- The value of a request field as received. -/
inductive Raw where
  | nat (n : Nat)
  | level (i : Int)
  | list (bs : List Byte)
  | params (q : LinkParams)
deriving DecidableEq, Repr, Inhabited

/-- One optional parameter: read when its presence bit is set (R186). -/
def takeOptional (present : Bool) (width : Nat) (bs : List Byte) : Option (Option Nat × List Byte) :=
  if present then
    if width ≤ bs.length then some (some (beNat (bs.take width)), bs.drop width) else none
  else some (none, bs)

/-- The optional parameters of LINK.ENROLL and LINK.SET after their presence byte `m` (R72, R74, R186).
A presence bit above the last optional field is malformed (R187). -/
def takeParams (m : Byte) (bs : List Byte) : Option (LinkParams × List Byte) :=
  if m.toNat ≥ 32 then none else
  (takeOptional (m.getLsbD 0) 1 bs).bind fun (floor, bs) =>
  (takeOptional (m.getLsbD 1) 2 bs).bind fun (fade, bs) =>
  (takeOptional (m.getLsbD 2) 2 bs).bind fun (loss, bs) =>
  (takeOptional (m.getLsbD 3) 1 bs).bind fun (auto, bs) =>
  (takeOptional (m.getLsbD 4) 2 bs).bind fun (delay, bs) =>
  some (⟨floor, fade, loss, auto, delay⟩, bs)

/-- One field from the front of a frame's bytes (R186, R187). -/
def takeField : FieldType → List Byte → Option (Raw × List Byte)
  | .u8, b :: bs => some (.nat b.toNat, bs)
  | .u16, a :: b :: bs => some (.nat (beNat [a, b]), bs)
  | .u24, a :: b :: c :: bs => some (.nat (beNat [a, b, c]), bs)
  | .s8, b :: bs => some (.level b.toInt, bs)
  | .list, n :: bs => if n.toNat ≤ bs.length then some (.list (bs.take n.toNat), bs.drop n.toNat) else none
  | .params, m :: bs => (takeParams m bs).map fun (q, bs) => (.params q, bs)
  | _, _ => none

/-- The fields of a frame; they exactly fill its bytes (R187). -/
def takeFields : List FieldType → List Byte → Option (List Raw)
  | [], [] => some []
  | [], _ :: _ => none
  | t :: ts, bs => (takeField t bs).bind fun (r, bs) => (takeFields ts bs).map (r :: ·)

/-- One optional parameter as bytes. -/
def optionalBytes (bytes : Nat → List Byte) : Option Nat → List Byte
  | none => []
  | some n => bytes n

/-- The presence byte: bit i is the i-th optional field in the rule's order (R186). -/
def presenceByte (present : List Bool) : Byte :=
  BitVec.ofNat 8 (present.foldr (fun b n => 2 * n + b.toNat) 0)

/-- The optional parameters with their presence byte. -/
def paramsBytes (q : LinkParams) : List Byte :=
  presenceByte [q.floor.isSome, q.fadeTime.isSome, q.lossTime.isSome, q.autoRetune.isSome, q.retuneDelay.isSome]
    :: (optionalBytes bytes1 q.floor ++ optionalBytes bytes2 q.fadeTime ++ optionalBytes bytes2 q.lossTime
      ++ optionalBytes bytes1 q.autoRetune ++ optionalBytes bytes2 q.retuneDelay)

/-- One field as bytes (R186). -/
def fieldBytes : FieldType → Raw → List Byte
  | .u8, .nat n => bytes1 n
  | .u16, .nat n => bytes2 n
  | .u24, .nat n => bytes3 n
  | .s8, .level i => [BitVec.ofInt 8 i]
  | .list, .list bs => BitVec.ofNat 8 bs.length :: bs
  | .params, .params q => paramsBytes q
  | _, _ => []

/-- The fields of a frame as bytes. -/
def fieldsBytes : List FieldType → List Raw → List Byte
  | t :: ts, r :: rs => fieldBytes t r ++ fieldsBytes ts rs
  | _, _ => []

/-! ## Request frames -/

/-- The requests in the order of the request index (10.6). -/
def requestIndex : List RequestCode :=
  [.groupSet, .groupGet, .planPut, .planDrop, .planGet, .planList,
   .checkStart, .findStart, .checkRead, .checkCancel,
   .surveySetup, .surveyStart, .surveyStop, .surveyRead, .binsRead, .binsClear,
   .linkNote, .linkEnroll, .linkSet, .linkRetire, .linkErase, .linkGet, .linkProbe, .linkChanges,
   .directoryPin, .directoryAdmit, .directoryGet, .captureRead,
   .clockRead, .linkTimers,
   .linkRetune, .linkHalt, .retuneLimit, .retuneGet, .retuneQueue,
   .tallyMap, .tallyOverride, .tallySources, .tallyGet, .lampSet, .lampGet,
   .keySet, .keyPress, .keyLift, .keyGet, .feedDefault, .feedGet, .matrixGet,
   .returnPass, .returnGet,
   .authorityYield, .causeRead, .causeClear, .causeMask, .portFaults, .runRestart]

/-- The code of a request: its position in the request index, GROUP.SET being 1 (11.1). -/
def RequestCode.number (c : RequestCode) : Nat := requestIndex.idxOf c + 1

/-- The request a code byte names; 0 and codes above 56 name none (R187). -/
def requestOfNumber (n : Nat) : Option RequestCode := if n = 0 then none else requestIndex[n - 1]?

/-- The form of a request's fields, in the order of its rule (11.1; widths by R186, and by log entry 8 for a guard, the
bin width of SURVEY.SETUP, a floor, a key's level and the pin bound, which R186's table does not name).
`kind` is the frame's first field byte, which CHECK.START's form depends on (R187). -/
def RequestCode.form (c : RequestCode) (kind : Nat) : Option (List FieldType) :=
  match c with
  | .groupSet => some [.u8, .u24, .u24, .u16, .u16, .u8, .u8, .u16, .u16]
  | .planPut => some [.u8, .u8, .u24, .u16, .u8]
  | .checkStart => if kind = 0 then some [.u8, .u24, .u16, .u8] else if kind = 1 then some [.u8, .u8] else none
  | .findStart => some [.u8, .u24, .u24, .u16, .u16, .u16]
  | .surveySetup => some [.u24, .u16, .s8]
  | .surveyStart => some [.u8, .u8, .u8, .u16, .u8, .s8]
  | .linkNote => some [.u8, .u24, .u8]
  | .linkEnroll => some [.u8, .u24, .u8, .u8, .params, .u8]
  | .linkSet => some [.u8, .params]
  | .linkProbe => some [.u24]
  | .linkRetune => some [.u8, .u8, .u8]
  | .retuneLimit | .causeClear | .causeMask => some [.u16]
  | .lampSet => some [.u8, .u8, .u8, .u8, .u8]
  | .keySet => some [.u8, .u8, .u8, .u8, .u8, .list]
  | .returnPass => some [.u8, .list]
  | .binsRead | .binsClear | .tallyMap | .tallyOverride | .tallySources | .feedDefault => some [.u8, .u8]
  | .groupGet | .planDrop | .planGet | .planList | .checkRead | .checkCancel | .surveyStop | .surveyRead
  | .linkRetire | .linkErase | .linkGet | .directoryPin | .directoryAdmit | .linkTimers | .linkHalt | .retuneGet
  | .tallyGet | .lampGet | .keyPress | .keyLift | .keyGet | .feedGet | .matrixGet => some [.u8]
  | .linkChanges | .directoryGet | .captureRead | .clockRead | .retuneQueue | .returnGet | .authorityYield
  | .causeRead | .portFaults | .runRestart => some []

/-- The command of a request with the given fields. -/
def requestCommand (p : Port) : RequestCode → List Raw → Option Instr
  | .groupSet, [.nat g, .nat lo, .nat up, .nat gs, .nat gp, .nat two, .nat three, .nat st, .nat lim] =>
      some (.groupSet p g lo up gs gp two three st lim)
  | .groupGet, [.nat g] => some (.groupGet p g)
  | .planPut, [.nat r, .nat st, .nat c, .nat h, .nat g] => some (.planPut p r st c h g)
  | .planDrop, [.nat r] => some (.planDrop p r)
  | .planGet, [.nat r] => some (.planGet p r)
  | .planList, [.nat g] => some (.planList p g)
  | .checkStart, [.nat 0, .nat c, .nat h, .nat g] => some (.checkStart p (.explicit c h g))
  | .checkStart, [.nat 1, .nat r] => some (.checkStart p (.record r))
  | .findStart, [.nat g, .nat lo, .nat up, .nat st, .nat h, .nat lim] => some (.findStart p g lo up st h lim)
  | .checkRead, [.nat k] => some (.checkRead p k)
  | .checkCancel, [.nat k] => some (.checkCancel p k)
  | .surveySetup, [.nat st, .nat w, .level hot] => some (.surveySetup p st w hot)
  | .surveyStart, [.nat j, .nat r, .nat b, .nat c, .nat m, .level x] => some (.surveyStart p j r b c m x)
  | .surveyStop, [.nat j] => some (.surveyStop p j)
  | .surveyRead, [.nat j] => some (.surveyRead p j)
  | .binsRead, [.nat a, .nat b] => some (.binsRead p a b)
  | .binsClear, [.nat a, .nat b] => some (.binsClear p a b)
  | .linkNote, [.nat i, .nat id, .nat k] => some (.linkNote p i id k)
  | .linkEnroll, [.nat i, .nat id, .nat k, .nat r, .params q, .nat o] => some (.linkEnroll p i id k r q o)
  | .linkSet, [.nat i, .params q] => some (.linkSet p i q)
  | .linkRetire, [.nat i] => some (.linkRetire p i)
  | .linkErase, [.nat i] => some (.linkErase p i)
  | .linkGet, [.nat i] => some (.linkGet p i)
  | .linkProbe, [.nat id] => some (.linkProbe p id)
  | .linkChanges, [] => some (.linkChanges p)
  | .directoryPin, [.nat b] => some (.directoryPin p b)
  | .directoryAdmit, [.nat b] => some (.directoryAdmit p b)
  | .directoryGet, [] => some (.directoryGet p)
  | .captureRead, [] => some (.captureRead p)
  | .clockRead, [] => some (.clockRead p)
  | .linkTimers, [.nat i] => some (.linkTimers p i)
  | .linkRetune, [.nat i, .nat t, .nat k] => some (.linkRetune p i t k)
  | .linkHalt, [.nat i] => some (.linkHalt p i)
  | .retuneLimit, [.nat t] => some (.retuneLimit p t)
  | .retuneGet, [.nat i] => some (.retuneGet p i)
  | .retuneQueue, [] => some (.retuneQueue p)
  | .tallyMap, [.nat a, .nat l] => some (.tallyMap p a l)
  | .tallyOverride, [.nat l, .nat o] => some (.tallyOverride p l o)
  | .tallySources, [.nat a, .nat b] => some (.tallySources p a b)
  | .tallyGet, [.nat l] => some (.tallyGet p l)
  | .lampSet, [.nat n, .nat l, .nat c, .nat d, .nat v] => some (.lampSet p n l c d v)
  | .lampGet, [.nat n] => some (.lampGet p n)
  | .keySet, [.nat k, .nat v, .nat m, .nat lk, .nat src, .list ds] =>
      some (.keySet p k v m lk src (ds.map BitVec.toNat))
  | .keyPress, [.nat k] => some (.keyPress p k)
  | .keyLift, [.nat k] => some (.keyLift p k)
  | .keyGet, [.nat k] => some (.keyGet p k)
  | .feedDefault, [.nat l, .nat i] => some (.feedDefault p l i)
  | .feedGet, [.nat l] => some (.feedGet p l)
  | .matrixGet, [.nat o] => some (.matrixGet p o)
  | .returnPass, [.nat l, .list bs] => some (.returnPass p l bs)
  | .returnGet, [] => some (.returnGet p)
  | .authorityYield, [] => some (.authorityYield p)
  | .causeRead, [] => some (.causeRead p)
  | .causeClear, [.nat c] => some (.causeClear p (BitVec.ofNat 16 c))
  | .causeMask, [.nat c] => some (.causeMask p (BitVec.ofNat 16 c))
  | .portFaults, [] => some (.portFaults p)
  | .runRestart, [] => some (.runRestart p)
  | _, _ => none

/-- The port, code and fields of a request; the other commands are no request. -/
def requestParts : Instr → Option (Port × RequestCode × List Raw)
  | .groupSet p g lo up gs gp two three st lim =>
      some (p, .groupSet, [.nat g, .nat lo, .nat up, .nat gs, .nat gp, .nat two, .nat three, .nat st, .nat lim])
  | .groupGet p g => some (p, .groupGet, [.nat g])
  | .planPut p r st c h g => some (p, .planPut, [.nat r, .nat st, .nat c, .nat h, .nat g])
  | .planDrop p r => some (p, .planDrop, [.nat r])
  | .planGet p r => some (p, .planGet, [.nat r])
  | .planList p g => some (p, .planList, [.nat g])
  | .checkStart p (.explicit c h g) => some (p, .checkStart, [.nat 0, .nat c, .nat h, .nat g])
  | .checkStart p (.record r) => some (p, .checkStart, [.nat 1, .nat r])
  | .findStart p g lo up st h lim => some (p, .findStart, [.nat g, .nat lo, .nat up, .nat st, .nat h, .nat lim])
  | .checkRead p k => some (p, .checkRead, [.nat k])
  | .checkCancel p k => some (p, .checkCancel, [.nat k])
  | .surveySetup p st w hot => some (p, .surveySetup, [.nat st, .nat w, .level hot])
  | .surveyStart p j r b c m x => some (p, .surveyStart, [.nat j, .nat r, .nat b, .nat c, .nat m, .level x])
  | .surveyStop p j => some (p, .surveyStop, [.nat j])
  | .surveyRead p j => some (p, .surveyRead, [.nat j])
  | .binsRead p a b => some (p, .binsRead, [.nat a, .nat b])
  | .binsClear p a b => some (p, .binsClear, [.nat a, .nat b])
  | .linkNote p i id k => some (p, .linkNote, [.nat i, .nat id, .nat k])
  | .linkEnroll p i id k r q o => some (p, .linkEnroll, [.nat i, .nat id, .nat k, .nat r, .params q, .nat o])
  | .linkSet p i q => some (p, .linkSet, [.nat i, .params q])
  | .linkRetire p i => some (p, .linkRetire, [.nat i])
  | .linkErase p i => some (p, .linkErase, [.nat i])
  | .linkGet p i => some (p, .linkGet, [.nat i])
  | .linkProbe p id => some (p, .linkProbe, [.nat id])
  | .linkChanges p => some (p, .linkChanges, [])
  | .directoryPin p b => some (p, .directoryPin, [.nat b])
  | .directoryAdmit p b => some (p, .directoryAdmit, [.nat b])
  | .directoryGet p => some (p, .directoryGet, [])
  | .captureRead p => some (p, .captureRead, [])
  | .clockRead p => some (p, .clockRead, [])
  | .linkTimers p i => some (p, .linkTimers, [.nat i])
  | .linkRetune p i t k => some (p, .linkRetune, [.nat i, .nat t, .nat k])
  | .linkHalt p i => some (p, .linkHalt, [.nat i])
  | .retuneLimit p t => some (p, .retuneLimit, [.nat t])
  | .retuneGet p i => some (p, .retuneGet, [.nat i])
  | .retuneQueue p => some (p, .retuneQueue, [])
  | .tallyMap p a l => some (p, .tallyMap, [.nat a, .nat l])
  | .tallyOverride p l o => some (p, .tallyOverride, [.nat l, .nat o])
  | .tallySources p a b => some (p, .tallySources, [.nat a, .nat b])
  | .tallyGet p l => some (p, .tallyGet, [.nat l])
  | .lampSet p n l c d v => some (p, .lampSet, [.nat n, .nat l, .nat c, .nat d, .nat v])
  | .lampGet p n => some (p, .lampGet, [.nat n])
  | .keySet p k v m lk src ds =>
      some (p, .keySet, [.nat k, .nat v, .nat m, .nat lk, .nat src, .list (ds.map (BitVec.ofNat 8))])
  | .keyPress p k => some (p, .keyPress, [.nat k])
  | .keyLift p k => some (p, .keyLift, [.nat k])
  | .keyGet p k => some (p, .keyGet, [.nat k])
  | .feedDefault p l i => some (p, .feedDefault, [.nat l, .nat i])
  | .feedGet p l => some (p, .feedGet, [.nat l])
  | .matrixGet p o => some (p, .matrixGet, [.nat o])
  | .returnPass p l bs => some (p, .returnPass, [.nat l, .list bs])
  | .returnGet p => some (p, .returnGet, [])
  | .authorityYield p => some (p, .authorityYield, [])
  | .causeRead p => some (p, .causeRead, [])
  | .causeClear p c => some (p, .causeClear, [.nat c.toNat])
  | .causeMask p c => some (p, .causeMask, [.nat c.toNat])
  | .portFaults p => some (p, .portFaults, [])
  | .runRestart p => some (p, .runRestart, [])
  | _ => none

/-- The command a request frame's code and fields spell; `none` when the frame is malformed (R187). -/
def decodeBody (p : Port) (code : Byte) (fields : List Byte) : Option Instr :=
  (requestOfNumber code.toNat).bind fun c =>
  (c.form (fields.headD 0).toNat).bind fun form =>
  (takeFields form fields).bind (requestCommand p c)

/-- The command a complete request frame spells: its length byte, its code and its fields. `none` when the
frame is malformed (R187). -/
def decodeFrame (p : Port) : List Byte → Option Instr
  | len :: code :: fields => if len.toNat = fields.length + 1 then decodeBody p code fields else none
  | _ => none

/-- The code byte of a frame as received, 0 when none was received (R188). -/
def frameCode : List Byte → Nat
  | _ :: code :: _ => code.toNat
  | _ => 0

/-- The bytes of a frame, without the length byte, from its code and fields. -/
def bodyBytes (c : RequestCode) (raws : List Raw) : List Byte :=
  let kind := match raws with
    | .nat k :: _ => k
    | _ => 0
  bytes1 c.number ++ fieldsBytes ((c.form kind).getD []) raws

/-- The request frame of a command, with its port; the other commands have none. -/
def encodeFrame (i : Instr) : Option (Port × List Byte) :=
  (requestParts i).map fun (p, c, raws) =>
    let body := bodyBytes c raws
    (p, BitVec.ofNat 8 body.length :: body)

/-! ## Port messages -/

/-- The type bytes a port receives (R189). -/
def InPort.types : InPort → List Nat
  | .receiver => [0x48, 0x53]
  | .mixer => [0x54]
  | .keypanel => [0x44, 0x55]
  | .matrix => [0x41]
  | .ret => [0x64]

/-- The bytes of a HEARD message whose kind byte is `k` (R190; log entry 13 for a kind above 1). -/
def heardCount (k : Nat) : Nat :=
  if k = 0 then 12 else if k = 1 then 11 else if Config.otherKindHasEcho then 12 else 11

/-- The count of bytes that ends a message whose bytes so far are given; `none` when its first byte is no
type of the port (R190). -/
def messageCount (line : InPort) (bs : List Byte) : Option Nat :=
  match bs with
  | [] => none
  | t :: _ =>
    if t.toNat ∈ line.types then
      if t.toNat = 0x48 then some (if 6 ≤ bs.length then heardCount (bs.getD 5 0).toNat else 12)
      else if t.toNat ∈ [0x53, 0x54, 0x41] then some 3
      else some 2
    else none

/-- A cue or echo byte: bits 4 to 7 clear and colour 0 to 2 (R189, R191). -/
def cueByteOk (n : Nat) : Bool := n < 16 && n % 4 ≤ 2

/-- The command of a complete message, before its content is checked; `none` where the bytes are no message of
the port. -/
def messageCommand (line : InPort) (bs : List Byte) : Option Instr :=
  match line, bs with
  | .receiver, t :: r :: i1 :: i2 :: i3 :: k :: f1 :: f2 :: f3 :: x :: m :: rest =>
      if t.toNat = 0x48 then
        some (.heard ⟨r.toNat, beNat [i1, i2, i3], k.toNat, beNat [f1, f2, f3], x.toInt, m.toNat,
          rest.head?.map BitVec.toNat⟩)
      else none
  | .receiver, [t, r, x] => if t.toNat = 0x53 then some (.sample r.toNat x.toInt) else none
  | .mixer, [t, a, f] => if t.toNat = 0x54 then some (.mixerTallyMessage a.toNat f.toNat) else none
  | .keypanel, [t, k] =>
      if t.toNat = 0x44 then some (.keyDown k.toNat) else if t.toNat = 0x55 then some (.keyUp k.toNat) else none
  | .matrix, [t, o, i] => if t.toNat = 0x41 then some (.orderAck o.toNat i.toNat) else none
  | .ret, [t, n] => if t.toNat = 0x64 then some (.doneMessage n.toNat) else none
  | _, _ => none

/-- A HEARD report's content is malformed (R191). A report of kind MIC has no echo byte. -/
def HeardReport.malformed (r : HeardReport) : Bool :=
  decide (15 < r.receiver) || decide (1 < r.kind)
    || (r.kind == 0 && match r.echo with
        | none => false
        | some e => !(e == 255 || cueByteOk e))

/-- A message's content is malformed (R191). -/
def contentMalformed : Instr → Bool
  | .heard r => r.malformed
  | .sample r _ => decide (15 < r)
  | .mixerTallyMessage a f => decide (63 < a) || decide (7 < f)
  | .keyDown k => decide (31 < k)
  | .keyUp k => decide (31 < k)
  | .orderAck o i => decide (127 < o) || (decide (127 < i) && i != 255)
  | _ => false

/-- The bytes are a complete message of the port (R190). -/
def messageComplete (line : InPort) (bs : List Byte) : Bool := messageCount line bs == some bs.length

/-- The bytes are a complete message of the port with malformed content (R191). -/
def messageMalformed (line : InPort) (bs : List Byte) : Bool :=
  messageComplete line bs && match messageCommand line bs with
    | some i => contentMalformed i
    | none => false

/-- The command that a complete message is taken as: MALFORMED_MESSAGE when its content is malformed. -/
def decodeMessage (line : InPort) (bs : List Byte) : Option Instr :=
  if messageMalformed line bs then some (.malformedMessage line bs) else messageCommand line bs

/-- The message of a command, with its port (R189); the other commands have none. -/
def encodeMessage : Instr → Option (InPort × List Byte)
  | .heard r =>
      some (.receiver, bytes1 0x48 ++ bytes1 r.receiver ++ bytes3 r.ident ++ bytes1 r.kind ++ bytes3 r.freq
        ++ [BitVec.ofInt 8 r.level] ++ bytes1 r.margin ++ optionalBytes bytes1 r.echo)
  | .sample r x => some (.receiver, bytes1 0x53 ++ bytes1 r ++ [BitVec.ofInt 8 x])
  | .mixerTallyMessage a f => some (.mixer, bytes1 0x54 ++ bytes1 a ++ bytes1 f)
  | .keyDown k => some (.keypanel, bytes1 0x44 ++ bytes1 k)
  | .keyUp k => some (.keypanel, bytes1 0x55 ++ bytes1 k)
  | .orderAck o i => some (.matrix, bytes1 0x41 ++ bytes1 o ++ bytes1 i)
  | .doneMessage n => some (.ret, bytes1 0x64 ++ bytes1 n)
  | _ => none

end Sys2Proof
end

