-- ==== Sys2Proof/Machine/State.lean ====
section
/-! DEFINITION. Every piece of state the spec gives the J416, block by block, as plain data, and its value
after a hardware reset. A field that the spec calls absent in some state is a constructor's argument or an
`Option`. What the spec computes from other state (presence deadlines, member counts, hot bins, lamp pins,
the attention line) is stored once, in its sources. -/

namespace Sys2Proof.Machine

/-! ## Frequency plan (01_frequency_plan.md) -/

/-- A band group record (1.1). -/
structure BandGroup where
  lower : Nat
  upper : Nat
  spacingGuard : Nat
  productGuard : Nat
  twoTone : Bool
  threeTone : Bool
  searchStep : Nat
  searchLimit : Nat
deriving DecidableEq, Repr, Inhabited

/-- A carrier: centre, half width and group (R4). -/
structure Carrier where
  centre : Nat
  halfWidth : Nat
  group : Nat
deriving DecidableEq, Repr, Inhabited

/-- A plan record in each of its five states (1.2, R4). -/
inductive PlanRecord where
  | empty
  | reserved (c : Carrier)
  | active (c : Carrier) (owner : Nat)
  | handover (c : Carrier) (owner : Nat)
  | foreign (c : Carrier)
deriving DecidableEq, Repr, Inhabited

/-- The frequency plan block. -/
structure Plan where
  groups : Vector BandGroup 8
  records : Vector PlanRecord 96
deriving DecidableEq, Repr

/-! ## Compatibility engine (02_compatibility_arithmetic.md) -/

/-- A search: its group, window, step, half width and limit (R25, R26, R104). -/
structure Search where
  group : Nat
  lower : Nat
  upper : Nat
  step : Nat
  halfWidth : Nat
  limit : Nat
deriving DecidableEq, Repr, Inhabited

/-- A request as accepted: a check of one candidate, explicit or named by a plan record, or a search (R23). -/
inductive Job where
  | check (named : Option Nat) (candidate : Carrier)
  | find (search : Search)
deriving DecidableEq, Repr, Inhabited

/-- Who the request is for: a host check slot, or the link of an internal search (2.1). -/
inductive Client where
  | host (slot : Nat)
  | internal (link : Nat)
deriving DecidableEq, Repr, Inhabited

/-- A request in the engine. -/
structure EngineRequest where
  client : Client
  job : Job
deriving DecidableEq, Repr, Inhabited

/-- The running request with its count of candidates evaluated and its stale flag (R22, R23). -/
structure Running where
  request : EngineRequest
  evaluated : Nat
  stale : Bool
deriving DecidableEq, Repr, Inhabited

/-- The family of an intermodulation comparison (R38, R39). -/
inductive Family where
  | membersOnCandidate
  | candidateOnMember
deriving DecidableEq, Repr, Inhabited

/-- What a conflict records (2.3). A carrier number is a record index, or 96 for CANDIDATE. -/
inductive ConflictKind where
  | edge
  | spacing (victim : Nat)
  | occupied (bin : Nat)
  | im2 (family : Family) (a b victim : Nat)
  | im3 (family : Family) (a b c victim : Nat)
deriving DecidableEq, Repr, Inhabited

/-- One comparison whose overlap is above 0 (2.3). -/
structure Conflict where
  kind : ConflictKind
  overlap : Int
deriving DecidableEq, Repr, Inhabited

/-- The counts of conflicts per kind (R41). -/
structure Counts where
  edge : Nat
  spacing : Nat
  occupied : Nat
  im2 : Nat
  im3 : Nat
deriving DecidableEq, Repr, Inhabited

/-- The result of a check: its verdict is CLEAR exactly when no worst conflict is held (R41). -/
structure CheckResult where
  counts : Counts
  worst : Option Conflict
  stale : Bool
deriving DecidableEq, Repr, Inhabited

/-- The result of a search: FOUND exactly when a centre is held (R44). -/
structure FindResult where
  found : Option Nat
  tried : Nat
  lastWorst : Option Conflict
  stale : Bool
deriving DecidableEq, Repr, Inhabited

/-- A result record (2.4, 2.5). -/
inductive EngineResult where
  | check (r : CheckResult)
  | find (r : FindResult)
deriving DecidableEq, Repr, Inhabited

/-- A host check slot (R23). In RUNNING the count of candidates evaluated and the stale flag are those of the
running request. -/
inductive Slot where
  | empty
  | queued (job : Job)
  | running (job : Job)
  | done (job : Job) (result : EngineResult)
deriving DecidableEq, Repr, Inhabited

/-- The compatibility engine block. -/
structure Engine where
  queue : List EngineRequest
  running : Option Running
  slots : Vector Slot 4
deriving DecidableEq, Repr

/-! ## Occupancy survey (03_occupancy_survey.md) -/

/-- The survey window (3.1). -/
structure SurveyWindow where
  start : Nat
  width : Nat
  hot : Int
deriving DecidableEq, Repr, Inhabited

/-- The samples of a bin that is not empty (3.1.1, R47). -/
structure Samples where
  count : Nat
  last : Int
  peak : Int
deriving DecidableEq, Repr, Inhabited

/-- The mode of a survey job, with the watch level of WATCH (3.2). -/
inductive SurveyMode where
  | sweep
  | watch (level : Int)
deriving DecidableEq, Repr, Inhabited

/-- The fields a job holds in RUNNING and ENDED (3.2). -/
structure JobRun where
  receiver : Nat
  pointer : Nat
  remaining : Nat
  mode : SurveyMode
deriving DecidableEq, Repr, Inhabited

/-- The end reason of a job, with the hit bin of WATCH_HIT (3.2). -/
inductive EndReason where
  | count
  | watchHit (bin : Nat)
  | stopped
  | restart
deriving DecidableEq, Repr, Inhabited

/-- A survey job (R50). -/
inductive SurveyJob where
  | idle
  | running (run : JobRun)
  | ended (run : JobRun) (reason : EndReason)
deriving DecidableEq, Repr, Inhabited

/-- The occupancy survey block; an empty bin is `none` (R47). -/
structure Survey where
  window : SurveyWindow
  bins : Vector (Option Samples) 256
  jobs : Vector SurveyJob 4
deriving DecidableEq, Repr

/-! ## Link directory (04_link_directory.md) -/

/-- CAMERA or MIC (4.1). -/
inductive Kind where
  | camera
  | mic
deriving DecidableEq, Repr, Inhabited

/-- The kind of an enrolled link, with the two fields only a CAMERA holds (R59, R132). -/
inductive Role where
  | camera (output : Nat) (mismatch : Nat)
  | mic
deriving DecidableEq, Repr, Inhabited

/-- Presence of an enrolled link (5.2). -/
inductive Presence where
  | standby
  | live
  | fading
  | lost
deriving DecidableEq, Repr, Inhabited

/-- Last retune result (4.1). -/
inductive RetuneResult where
  | none
  | done
  | noCarrier
  | tableFull
  | groupFull
  | timeout
  | halted
  | retired
  | restart
deriving DecidableEq, Repr, Inhabited

/-- Origin of a retune (6.1). -/
inductive Origin where
  | automatic
  | requested
deriving DecidableEq, Repr, Inhabited

/-- Search place of a link in SEEKING (6.1). -/
inductive SearchPlace where
  | inEngine
  | waiting
deriving DecidableEq, Repr, Inhabited

/-- The retune record fields of SEEKING and ORDERED (6.1). -/
structure RetuneRecord where
  origin : Origin
  keepOld : Bool
  limit : Clock
deriving DecidableEq, Repr, Inhabited

/-- The retune phase with the fields present in it (R99). -/
inductive RetunePhase where
  | none
  | seeking (record : RetuneRecord) (place : SearchPlace)
  | ordered (record : RetuneRecord) (newCarrier : Nat)
deriving DecidableEq, Repr, Inhabited

/-- Tally override (R123). -/
inductive TallyOverride where
  | auto
  | dark
  | program
  | preview
deriving DecidableEq, Repr, Inhabited

/-- The presence and retune parameters of an enrolled link (4.1, R73). -/
structure LinkSettings where
  floor : Nat
  fadeTime : Nat
  lossTime : Nat
  autoRetune : Bool
  retuneDelay : Nat
deriving DecidableEq, Repr, Inhabited

/-- A NOTED entry (R59). -/
structure NotedLink where
  ident : Nat
  kind : Kind
  lastHeard : Option Clock
  lastResult : Option RetuneResult
deriving DecidableEq, Repr, Inhabited

/-- An ENROLLED entry (4.1), with its retune-delay timer (R95): `none` is stopped. -/
structure EnrolledLink where
  ident : Nat
  role : Role
  carrier : Nat
  settings : LinkSettings
  presence : Presence
  lastHeard : Option Clock
  lastGood : Option Clock
  bestReceiver : Option Nat
  lastMargin : Option Nat
  delayTimer : Option Clock
  phase : RetunePhase
  lastResult : RetuneResult
  tally : TallyOverride
deriving DecidableEq, Repr, Inhabited

/-- A link entry (R59). -/
inductive LinkEntry where
  | vacant
  | noted (n : NotedLink)
  | enrolled (e : EnrolledLink)
deriving DecidableEq, Repr, Inhabited

/-- Kind of a capture (4.4). -/
inductive CaptureKind where
  | unknown
  | mistuned
deriving DecidableEq, Repr, Inhabited

/-- A full capture slot (4.4). -/
structure Capture where
  kind : CaptureKind
  ident : Nat
  reportedKind : Kind
  receiver : Nat
  freq : Nat
  level : Int
  margin : Nat
  time : Clock
  more : Bool
deriving DecidableEq, Repr, Inhabited

/-- The link directory block. -/
structure Directory where
  entries : Vector LinkEntry 64
  pinBound : Nat
  rover : Nat
  autoAdmit : Bool
  capture : Option Capture
deriving DecidableEq, Repr

/-! ## Retune controller (06_retuning.md) -/

/-- The retune controller block, less the per-link retune records, which stand in the entries. `seekOrder`
holds the links in SEEKING, the earliest first (6.1, seeking order). -/
structure RetuneController where
  limit : Nat
  seekOrder : List Nat
  waitList : List Nat
deriving DecidableEq, Repr

/-! ## Tally unit (07_tally.md) -/

/-- The flags of one mixer source (R119). -/
structure SourceFlags where
  programme : Bool
  preview : Bool
  iso : Bool
deriving DecidableEq, Repr, Inhabited

/-- Tally colour (R124). -/
inductive Colour where
  | off
  | preview
  | program
deriving DecidableEq, Repr, Inhabited

/-- A cue state (R124). -/
structure Cue where
  colour : Colour
  iso : Bool
  talk : Bool
deriving DecidableEq, Repr, Inhabited

/-- Colour of a lamp line (7.7). -/
inductive LampColour where
  | program
  | preview
  | iso
  | talk
deriving DecidableEq, Repr, Inhabited

/-- Drive of a lamp line (7.7). -/
inductive LampDrive where
  | off
  | pushPull
  | openDrain
deriving DecidableEq, Repr, Inhabited

/-- HIGH or LOW (7.7). -/
inductive PinLevel where
  | high
  | low
deriving DecidableEq, Repr, Inhabited

/-- State of a lamp pin (R135). -/
inductive PinState where
  | released
  | drivenHigh
  | drivenLow
  | pulledLow
deriving DecidableEq, Repr, Inhabited

/-- A lamp line record (7.7); `none` is NONE. -/
structure LampLine where
  link : Option Nat
  colour : LampColour
  drive : LampDrive
  activeLevel : PinLevel
deriving DecidableEq, Repr, Inhabited

/-- The tally unit block. -/
structure Tally where
  sources : Vector SourceFlags 64
  map : Vector (Option Nat) 64
  cues : Vector Cue 64
  lamps : Vector LampLine 16
deriving DecidableEq, Repr

/-! ## Talkback feed unit (08_talkback_feeds.md) -/

/-- Mode of a key (8.1). -/
inductive KeyMode where
  | momentary
  | latch
deriving DecidableEq, Repr, Inhabited

/-- Status of a key (R152). -/
inductive KeyStatus where
  | idle
  | waiting
  | partly
  | full
deriving DecidableEq, Repr, Inhabited

/-- A key (R137); the destinations stand in ascending order. -/
structure Key where
  level : Nat
  mode : KeyMode
  locked : Bool
  source : Nat
  destinations : List Nat
  active : Bool
  status : KeyStatus
  statusPending : Bool
deriving DecidableEq, Repr, Inhabited

/-- A key waiting at an arbiter, with its level (8.2). -/
structure Waiter where
  key : Nat
  level : Nat
deriving DecidableEq, Repr, Inhabited

/-- A feed arbiter (R142): holder `none` is DEFAULT, default input `none` is NONE. The saved stack stands top
first, the pending set in ascending key order. -/
structure Arbiter where
  defaultInput : Option Nat
  holder : Option Nat
  saved : List Waiter
  waiting : List Waiter
  lastGranted : Vector (Option Nat) 8
deriving DecidableEq, Repr, Inhabited

/-- What a matrix order connects to an output (R155). -/
inductive MatrixInput where
  | input (n : Nat)
  | mute
deriving DecidableEq, Repr, Inhabited

/-- The order in flight on the matrix order port (R156). -/
structure FlyingOrder where
  output : Nat
  input : MatrixInput
  deadline : Clock
deriving DecidableEq, Repr, Inhabited

/-- A KEY STATUS message in transmission (R153). -/
structure KeyStatusMessage where
  key : Nat
  status : KeyStatus
deriving DecidableEq, Repr, Inhabited

/-- The talkback feed unit block. A confirmed input of `none` is UNKNOWN, a pending order of `none` is absent. -/
structure Talkback where
  keys : Vector Key 32
  arbiters : Vector Arbiter 64
  sending : Option KeyStatusMessage
  orders : Vector (Option MatrixInput) 128
  confirmed : Vector (Option MatrixInput) 128
  orderInFlight : Option FlyingOrder
  lastServed : Option Nat
deriving DecidableEq, Repr

/-! ## Return scheduler (09_return_channel_port.md) -/

/-- An entry of the PASS queue (R164). -/
structure PassEntry where
  link : Nat
  payload : List Byte
deriving DecidableEq, Repr, Inhabited

/-- The content of a message in flight; its constructor is the message's kind (R167). -/
inductive Content where
  | tune (centre halfWidth : Nat)
  | cue (cue : Cue)
  | pass (payload : List Byte)
deriving DecidableEq, Repr, Inhabited

/-- The message in flight on the return port (R167). -/
structure FlyingMessage where
  link : Nat
  number : Nat
  content : Content
  deadline : Clock
deriving DecidableEq, Repr, Inhabited

/-- The return scheduler block (R161). The pending sets stand in ascending order. -/
structure ReturnScheduler where
  tunePending : List Nat
  cuePending : List Nat
  passQueue : List PassEntry
  inFlight : Option FlyingMessage
  lastTune : Option Nat
  lastCue : Option Nat
  sendNumber : Nat
deriving DecidableEq, Repr

/-! ## Control block (10_control_ports_and_requests.md) -/

/-- The status codes in the order of the table of 10.3. -/
inductive Status where
  | ok
  | notReady
  | badFrame
  | badField
  | notFound
  | duplicate
  | inUse
  | badState
  | busy
  | full
  | groupFull
  | notAuthority
deriving DecidableEq, Repr, Inhabited

/-- A field of a response, by its type (R186; log entries 8 to 10). -/
inductive Field where
  | index (n : Nat)
  | choice (n : Nat)
  | flag (b : Bool)
  | small (n : Nat)
  | word (n : Nat)
  | freq (n : Nat)
  | ident (n : Nat)
  | level (i : Int)
  | clock (c : Clock)
  | causes (c : BitVec 11)
  | flags (f : SourceFlags)
  | cue (c : Cue)
  | bin (b : Option Samples)
  | size (n : Nat)
  | octet (b : Byte)
deriving DecidableEq, Repr, Inhabited

/-- A part of a response: one field, or the optional fields of a record, each absent (`[]`) or present (R188). -/
inductive Item where
  | one (f : Field)
  | optional (fs : List (List Field))
deriving DecidableEq, Repr, Inhabited

/-- A response: the code of the request, the status and, with status OK, the request's fields (10.1). -/
structure Response where
  code : Nat
  status : Status
  items : List Item
deriving DecidableEq, Repr, Inhabited

/-- Characters gathered so far, with the gap deadline (R175, R190). -/
structure Partial where
  bytes : List Byte
  deadline : Clock
deriving DecidableEq, Repr, Inhabited

/-- The two fault flags of one port (R183). -/
structure LineFaults where
  framing : Bool
  parity : Bool
deriving DecidableEq, Repr, Inhabited

/-- The thirteen port fault flags (R183). -/
structure PortFaults where
  service : LineFaults
  receiver : LineFaults
  mixer : LineFaults
  keypanel : LineFaults
  matrix : LineFaults
  ret : LineFaults
  directoryFull : Bool
deriving DecidableEq, Repr, Inhabited

/-- The control block. `causes` and `unmasked` have bit 0 for HEARD_UNKNOWN upwards in the order of the cause
table of 10.4 (R186); a masked cause has its bit of `unmasked` clear. -/
structure Control where
  owner : Port
  responseSlot : Option Response
  serviceSending : Option Response
  serviceWaiting : Option Response
  servicePartial : Option Partial
  causes : BitVec 11
  unmasked : BitVec 11
  faults : PortFaults
  changed : List Nat
deriving DecidableEq, Repr

/-- The partial messages of the five input ports (R190). -/
structure InputPorts where
  receiver : Option Partial
  mixer : Option Partial
  keypanel : Option Partial
  matrix : Option Partial
  ret : Option Partial
deriving DecidableEq, Repr

/-- A serial line on which characters arrive: the service port, or an input port. -/
inductive SerialLine where
  | service
  | port (line : InPort)
deriving DecidableEq, Repr, Inhabited

/-- What has reached a port and is not yet taken (log entry 4): an undamaged character of a serial line, or the bytes
that the primary control port received from the assertion of its select to the negation (R173). -/
inductive Arrival where
  | character (line : SerialLine) (byte : Byte)
  | transaction (bytes : List Byte)
deriving DecidableEq, Repr, Inhabited

/-- No command of the J416 stops it: a request is refused with a status (R180) and a damaged message is
discarded with a flag (R190, R191). So there is no reason for a fault, and nothing raises one; safe. -/
inductive Fault where
deriving DecidableEq, Repr

/-- Reasons for a refusal. -/
inductive Refusal where
  /-- An arm of exec that has no meaning yet; no arm is such. Safe: the model stops where the part goes on. -/
  | notModelled (mnemonic : String)
deriving DecidableEq, Repr

/-- The state of the J416. `pending` is the queue of commands waiting, `arriving` the characters and
transactions not yet taken, and `primaryOut` the bytes clocked out by the last read transaction: the model's own fields. -/
structure State where
  clock : Clock
  plan : Plan
  engine : Engine
  survey : Survey
  dir : Directory
  retune : RetuneController
  tally : Tally
  talk : Talkback
  ret : ReturnScheduler
  ctl : Control
  ports : InputPorts
  primaryOut : List Byte
  arriving : List Arrival
  pending : List Instr
deriving DecidableEq, Repr

/-! ## After a hardware reset -/

/-- R1. -/
def BandGroup.reset : BandGroup := ⟨0, 0, 0, 0, true, true, 1, 256⟩

/-- R1, R5. -/
def Plan.reset : Plan := ⟨Vector.replicate 8 .reset, Vector.replicate 96 .empty⟩

/-- R22. -/
def Engine.reset : Engine := ⟨[], none, Vector.replicate 4 .empty⟩

/-- R45, R47, R50. -/
def Survey.reset : Survey := ⟨⟨0, 1, -90⟩, Vector.replicate 256 none, Vector.replicate 4 .idle⟩

/-- R59, R63, R64, R67. -/
def Directory.reset : Directory := ⟨Vector.replicate 64 .vacant, 0, 63, false, none⟩

/-- R99, R100, R105. -/
def RetuneController.reset : RetuneController := ⟨5000, [], []⟩

/-- R124: all off. -/
def Cue.allOff : Cue := ⟨.off, false, false⟩

/-- R119. -/
def SourceFlags.clear : SourceFlags := ⟨false, false, false⟩

/-- 7.7, R133. -/
def LampLine.reset : LampLine := ⟨none, .program, .off, .high⟩

/-- R119, R121, R126, R133. -/
def Tally.reset : Tally :=
  ⟨Vector.replicate 64 .clear, Vector.replicate 64 none, Vector.replicate 64 .allOff, Vector.replicate 16 .reset⟩

/-- 8.1, R137. -/
def Key.reset : Key := ⟨7, .momentary, false, 0, [], false, .idle, false⟩

/-- 8.2, R142. -/
def Arbiter.reset : Arbiter := ⟨none, none, [], [], Vector.replicate 8 none⟩

/-- R137, R142, R153, R155. -/
def Talkback.reset : Talkback :=
  ⟨Vector.replicate 32 .reset, Vector.replicate 64 .reset, none, Vector.replicate 128 none,
   Vector.replicate 128 none, none, none⟩

/-- R161. -/
def ReturnScheduler.reset : ReturnScheduler := ⟨[], [], [], none, none, none, 0⟩

/-- R183. -/
def LineFaults.clear : LineFaults := ⟨false, false⟩

/-- R183. -/
def PortFaults.clear : PortFaults := ⟨.clear, .clear, .clear, .clear, .clear, .clear, false⟩

/-- Chapter 10, the table of what the control block holds. -/
def Control.reset : Control := ⟨.primary, none, none, none, none, 0, 0, .clear, []⟩

/-- R190. -/
def InputPorts.reset : InputPorts := ⟨none, none, none, none, none⟩

/-- The machine right after a hardware reset; the link clock is 0 (R79). -/
def State.reset : State :=
  { clock := 0, plan := .reset, engine := .reset, survey := .reset, dir := .reset, retune := .reset,
    tally := .reset, talk := .reset, ret := .reset, ctl := .reset, ports := .reset,
    primaryOut := [], arriving := [], pending := [] }

end Sys2Proof.Machine
end

