-- ==== Sys2Proof/Machine/Flags.lean ====
section
/-! DEFINITION. The causes, the mask, the attention line and the port fault flags (10.4, 10.5). -/

namespace Sys2Proof.Machine

/-- The eleven causes in the order of the table of 10.4. -/
inductive Cause where
  | heardUnknown
  | mistuned
  | presence
  | retuneEnd
  | surveyEnd
  | checkEnd
  | tallyFault
  | matrixFault
  | returnFault
  | inputFault
  | authority
deriving DecidableEq, Repr, Inhabited

/-- The bit of a cause (R186). -/
def causeBit : Cause → Nat
  | .heardUnknown => 0
  | .mistuned => 1
  | .presence => 2
  | .retuneEnd => 3
  | .surveyEnd => 4
  | .checkEnd => 5
  | .tallyFault => 6
  | .matrixFault => 7
  | .returnFault => 8
  | .inputFault => 9
  | .authority => 10

/-- The set that holds one cause. -/
def causeOnly (c : Cause) : BitVec 11 := BitVec.twoPow 11 (causeBit c)

/-- The cause is set. -/
def causeIsSet (c : Cause) (s : State) : Bool := s.ctl.causes.getLsbD (causeBit c)

/-- The cause is unmasked (R182). -/
def causeIsUnmasked (c : Cause) (s : State) : Bool := s.ctl.unmasked.getLsbD (causeBit c)

/-- Raise a cause: it is set whatever the mask, and stays set (R181). -/
def raise (c : Cause) (s : State) : State := { s with ctl.causes := s.ctl.causes ||| causeOnly c }

/-- The attention line is asserted while a cause is both set and unmasked (R182). -/
def attention (s : State) : Bool := s.ctl.causes &&& s.ctl.unmasked != 0

/-- A cause set of a request frame names only causes (R181, R182, R187). -/
def namesCauses (c : BitVec 16) : Bool := c.toNat < 2048

/-- The fault flags of a line (R183). -/
def lineFaults (f : PortFaults) : SerialLine → LineFaults
  | .service => f.service
  | .port .receiver => f.receiver
  | .port .mixer => f.mixer
  | .port .keypanel => f.keypanel
  | .port .matrix => f.matrix
  | .port .ret => f.ret

/-- Replace the fault flags of a line. -/
def setLineFaults (line : SerialLine) (v : LineFaults) (f : PortFaults) : PortFaults :=
  match line with
  | .service => { f with service := v }
  | .port .receiver => { f with receiver := v }
  | .port .mixer => { f with mixer := v }
  | .port .keypanel => { f with keypanel := v }
  | .port .matrix => { f with matrix := v }
  | .port .ret => { f with ret := v }

/-- Set a line's framing flag and raise INPUT_FAULT (R183). -/
def framingFault (line : SerialLine) (s : State) : State :=
  let f := s.ctl.faults
  raise .inputFault { s with ctl.faults := setLineFaults line { lineFaults f line with framing := true } f }

/-- Set a line's parity flag and raise INPUT_FAULT (R183). -/
def parityFault (line : SerialLine) (s : State) : State :=
  let f := s.ctl.faults
  raise .inputFault { s with ctl.faults := setLineFaults line { lineFaults f line with parity := true } f }

/-- Set DIRECTORY_FULL, which raises no cause (R70, R183). -/
def directoryFullFault (s : State) : State := { s with ctl.faults.directoryFull := true }

end Sys2Proof.Machine
end

