-- ==== Sys2Proof/Machine/Ops.lean ====
section
/-! DEFINITION. The operations that every block shares: tables of records, sets of indices, deadlines, link
entries, plan record operations (1.3), and the taking and answering of requests (10.1 to 10.3). -/

namespace Sys2Proof.Machine

/-- What a command answers. -/
abbrev Answer := Host.Outcome State Fault Refusal

/-! ## Tables -/

/-- Record `i` of a table. -/
def look {α : Type} [Inhabited α] {n : Nat} (t : Vector α n) (i : Nat) : α := t[i]?.getD default

/-- A table with record `i` replaced. -/
def put {α : Type} {n : Nat} (t : Vector α n) (i : Nat) (x : α) : Vector α n := t.setIfInBounds i x

/-- A table with every record rewritten. -/
def rewrite {α : Type} {n : Nat} (f : Nat → α → α) (t : Vector α n) : Vector α n := Vector.ofFn fun i : Fin n => f i t[i]

/-- The records of a table that satisfy a test, in ascending order of index. -/
def indicesWhere {α : Type} [Inhabited α] {n : Nat} (t : Vector α n) (test : α → Bool) : List Nat :=
  (List.range n).filter fun i => test (look t i)

/-! ## Sets of indices, in ascending order -/

/-- Add an index; one already present stays there once. -/
def setAdd (n : Nat) : List Nat → List Nat
  | [] => [n]
  | m :: ms => if n < m then n :: m :: ms else if n = m then m :: ms else m :: setAdd n ms

/-- Remove an index. -/
def setRemove (n : Nat) (l : List Nat) : List Nat := l.filter (· != n)

/-- The first index of a set after `last` in cyclic order; the lowest when `last` is none (00_scope.md,
Conventions). The set stands in ascending order. -/
def cyclicNext (last : Option Nat) (l : List Nat) : Option Nat :=
  match last with
  | none => l.head?
  | some x => (l.find? (x < ·)).or l.head?

/-! ## Deadlines -/

/-- A deadline is reached when the difference, modulo 2^32, is less than 2^31 (R80). -/
def reached (deadline now : Clock) : Bool := (now - deadline).toNat < 2 ^ 31

/-- A deadline of now plus a duration in ms (R79). -/
def deadlineAfter (duration : Nat) (s : State) : Clock := s.clock + BitVec.ofNat 32 duration

/-! ## Link entries -/

/-- The entry of a link index. -/
def entry (s : State) (l : Nat) : LinkEntry := look s.dir.entries l

/-- Replace the entry of a link index. -/
def setEntry (l : Nat) (e : LinkEntry) (s : State) : State := { s with dir.entries := put s.dir.entries l e }

/-- The enrolled link of an index, if its entry is ENROLLED. -/
def enrolledLink (s : State) (l : Nat) : Option EnrolledLink :=
  match entry s l with
  | .enrolled e => some e
  | _ => none

/-- Change an ENROLLED entry. -/
def updateLink (l : Nat) (f : EnrolledLink → EnrolledLink) (s : State) : State :=
  match entry s l with
  | .enrolled e => setEntry l (.enrolled (f e)) s
  | _ => s

/-- The return audio output of an enrolled CAMERA (4.1). -/
def cameraOutput (s : State) (l : Nat) : Option Nat :=
  match entry s l with
  | .enrolled e => match e.role with
    | .camera output _ => some output
    | .mic => none
  | _ => none

/-- The link is an ENROLLED CAMERA: an eligible destination (R137). -/
def isCamera (s : State) (l : Nat) : Bool := (cameraOutput s l).isSome

/-- The transmitter ID of an entry that is not VACANT. -/
def entryIdent : LinkEntry → Option Nat
  | .vacant => none
  | .noted n => some n.ident
  | .enrolled e => some e.ident

/-- The entry is ENROLLED. -/
def LinkEntry.isEnrolled : LinkEntry → Bool
  | .enrolled _ => true
  | _ => false

/-- The kind of an enrolled link. -/
def roleKind : Role → Kind
  | .camera _ _ => .camera
  | .mic => .mic

/-- The entry that holds a transmitter ID (R65 step 1, R66); by R60 there is at most one. -/
def probe (s : State) (ident : Nat) : Option Nat :=
  (List.range 64).find? fun i => entryIdent (entry s i) == some ident

/-- Another entry than `index` holds the ID (R71, R72). -/
def heldElsewhere (s : State) (index ident : Nat) : Bool :=
  (List.range 64).any fun i => i != index && entryIdent (entry s i) == some ident

/-- Add a link to the changed-link set (R62, R184). -/
def markChanged (l : Nat) (s : State) : State := { s with ctl.changed := setAdd l s.ctl.changed }

/-! ## Plan records -/

/-- Plan record `i`. -/
def planRecord (s : State) (i : Nat) : PlanRecord := look s.plan.records i

/-- Replace plan record `i`. -/
def setRecord (i : Nat) (r : PlanRecord) (s : State) : State := { s with plan.records := put s.plan.records i r }

/-- The carrier of a record that is not EMPTY (R4). -/
def PlanRecord.carrier : PlanRecord → Option Carrier
  | .empty => none
  | .reserved c | .active c _ | .handover c _ | .foreign c => some c

/-- The owner of an ACTIVE or HANDOVER record (R4). -/
def PlanRecord.owner : PlanRecord → Option Nat
  | .active _ o | .handover _ o => some o
  | _ => none

/-- An own carrier: ACTIVE or HANDOVER (R4, R58). -/
def PlanRecord.isOwn (r : PlanRecord) : Bool := r.owner.isSome

/-- The record is not EMPTY and belongs to the group. -/
def inGroup (g : Nat) (r : PlanRecord) : Bool :=
  match r.carrier with
  | some c => c.group == g
  | none => false

/-- The member count of a group: its records that are not EMPTY (R3, R8). -/
def memberCount (s : State) (g : Nat) : Nat := (indicesWhere s.plan.records (inGroup g)).length

/-- The occupied band of a carrier, exactly (R4). -/
def bandLow (c : Carrier) : Int := (c.centre : Int) - c.halfWidth
def bandHigh (c : Carrier) : Int := (c.centre : Int) + c.halfWidth

/-- A reported frequency lies on a record: within its occupied band, ends included (R86). -/
def liesOn (freq : Nat) (r : PlanRecord) : Bool :=
  match r.carrier with
  | some c => bandLow c ≤ freq && (freq : Int) ≤ bandHigh c
  | none => false

/-- A plan change marks the engine's running request stale, if one runs (R20, R33). -/
def markStale (s : State) : State :=
  { s with engine.running := s.engine.running.map fun r => { r with stale := true } }

/-- Bind (R10): a RESERVED record becomes ACTIVE with the link as owner; `none` is BAD_STATE. -/
def bindRecord (i link : Nat) (s : State) : Option State :=
  match planRecord s i with
  | .reserved c => some (markStale (setRecord i (.active c link) s))
  | _ => none

/-- The outcome of open from search (R11). -/
inductive OpenOutcome where
  | tableFull
  | groupFull
  | done (index : Nat) (s : State)

/-- Open from search (R11): the lowest EMPTY record becomes HANDOVER. -/
def openFromSearch (c : Carrier) (link : Nat) (s : State) : OpenOutcome :=
  match (indicesWhere s.plan.records (· == .empty)).head? with
  | none => .tableFull
  | some i =>
    if Config.groupCapacity ≤ memberCount s c.group then .groupFull
    else .done i (markStale (setRecord i (.handover c link) s))

/-- Open on target (R12): a RESERVED record becomes HANDOVER; `none` is BAD_STATE. -/
def openOnTarget (i link : Nat) (s : State) : Option State :=
  match planRecord s i with
  | .reserved c => some (markStale (setRecord i (.handover c link) s))
  | _ => none

/-- Promote (R13): the HANDOVER record becomes ACTIVE. -/
def promoteRecord (i : Nat) (s : State) : State :=
  match planRecord s i with
  | .handover c o => markStale (setRecord i (.active c o) s)
  | _ => s

/-- Release old carrier (R13): the ACTIVE record becomes EMPTY, or RESERVED when keep-old is set. -/
def releaseOldRecord (i : Nat) (keepOld : Bool) (s : State) : State :=
  match planRecord s i with
  | .active c _ => markStale (setRecord i (if keepOld then .reserved c else .empty) s)
  | _ => s

/-- Close (R14): the HANDOVER record becomes EMPTY. -/
def closeRecord (i : Nat) (s : State) : State :=
  match planRecord s i with
  | .handover _ _ => markStale (setRecord i .empty s)
  | _ => s

/-- Release (R15): the ACTIVE record becomes RESERVED. -/
def releaseRecord (i : Nat) (s : State) : State :=
  match planRecord s i with
  | .active c _ => markStale (setRecord i (.reserved c) s)
  | _ => s

/-! ## Pending sets of the return scheduler -/

/-- Set a link's TUNE pending entry (R162). -/
def setTunePending (l : Nat) (s : State) : State := { s with ret.tunePending := setAdd l s.ret.tunePending }

/-- Remove a link's TUNE pending entry (R162). -/
def removeTunePending (l : Nat) (s : State) : State := { s with ret.tunePending := setRemove l s.ret.tunePending }

/-- Set a link's CUE pending entry (R163). -/
def setCuePending (l : Nat) (s : State) : State := { s with ret.cuePending := setAdd l s.ret.cuePending }

/-- Remove a link's CUE pending entry (R163). -/
def removeCuePending (l : Nat) (s : State) : State := { s with ret.cuePending := setRemove l s.ret.cuePending }

/-! ## Requests and responses -/

/-- A request that changes records: the class "mutating" of the request index (R179, 10.6). -/
def mutating : RequestCode → Bool
  | .groupSet | .planPut | .planDrop | .surveySetup | .surveyStart | .surveyStop | .binsClear
  | .linkNote | .linkEnroll | .linkSet | .linkRetire | .linkErase | .directoryPin | .directoryAdmit
  | .linkRetune | .linkHalt | .retuneLimit | .tallyMap | .tallyOverride | .lampSet
  | .keySet | .keyPress | .keyLift | .feedDefault | .returnPass | .authorityYield | .causeMask | .runRestart => true
  | .groupGet | .planGet | .planList | .checkStart | .findStart | .checkRead | .checkCancel
  | .surveyRead | .binsRead | .linkGet | .linkProbe | .linkChanges | .directoryGet | .captureRead
  | .clockRead | .linkTimers | .retuneGet | .retuneQueue | .tallySources | .tallyGet | .lampGet
  | .keyGet | .feedGet | .matrixGet | .returnGet | .causeRead | .causeClear | .portFaults => false

/-- What a request's own rule decides: a refusal, which changes nothing, or an OK with the response's fields
and the new state (R180). -/
inductive Verdict where
  | refuse (status : Status)
  | accept (items : List Item) (s : State)

/-- Form a response on a port: the primary slot takes it, replacing an unread one (R174); the service port
begins its transmission, or holds it waiting (R176). -/
def respond (p : Port) (r : Response) (s : State) : State :=
  match p with
  | .primary => { s with ctl.responseSlot := some r }
  | .service =>
    match s.ctl.serviceSending with
    | none => { s with ctl.serviceSending := some r }
    | some _ => { s with ctl.serviceWaiting := some r }

/-- A frame has completed: the service port holds no partial frame of it any more (R175). -/
def completeFrame (p : Port) (s : State) : State :=
  match p with
  | .primary => s
  | .service => { s with ctl.servicePartial := none }

/-- The port may send the request: any port a read, the owner alone a mutating one (R179). -/
def authorised (p : Port) (code : RequestCode) (s : State) : Bool := !(mutating code) || s.ctl.owner == p

/-- Take a well-formed request and form its response, in the common order of refusals (R173, R175, R180). -/
def takeRequest (p : Port) (code : RequestCode) (rule : State → Verdict) (s : State) : State :=
  let s := completeFrame p s
  if authorised p code s then
    match rule s with
    | .refuse st => respond p ⟨code.number, st, []⟩ s
    | .accept items s' => respond p ⟨code.number, .ok, items⟩ s'
  else respond p ⟨code.number, .notAuthority, []⟩ s

/-! ## Partial messages of the input ports -/

/-- The partial message of a port (R190). -/
def portPartial (s : State) : InPort → Option Partial
  | .receiver => s.ports.receiver
  | .mixer => s.ports.mixer
  | .keypanel => s.ports.keypanel
  | .matrix => s.ports.matrix
  | .ret => s.ports.ret

/-- Replace the partial message of a port. -/
def setPortPartial (line : InPort) (v : Option Partial) (s : State) : State :=
  match line with
  | .receiver => { s with ports.receiver := v }
  | .mixer => { s with ports.mixer := v }
  | .keypanel => { s with ports.keypanel := v }
  | .matrix => { s with ports.matrix := v }
  | .ret => { s with ports.ret := v }

/-- A message has completed: the port holds no partial message of it any more (R190). -/
def completeMessage (line : InPort) (s : State) : State := setPortPartial line none s

/-- Discard a complete message with malformed content (R191). -/
def discardMalformed (line : InPort) (s : State) : State := framingFault (.port line) (completeMessage line s)

end Sys2Proof.Machine
end

