-- ==== Sys2Proof/Machine/Operands.lean ====
section
/-! DEFINITION. What the raw fields of frames and messages stand for: clamps (R180), choices (R186) and the
bytes of flags and cues (R189). -/

namespace Sys2Proof.Machine

/-- Bring a number into a range. -/
def clamp (lo hi n : Nat) : Nat := max lo (min hi n)

/-- A frequency, centre, edge or start: at most 2,097,151 (R2, R16, R24, R25, R46). -/
def clampStep (n : Nat) : Nat := min Config.maxStep n

/-- A half width, search step or bin width: 1 to 4,095. -/
def clampWidth (n : Nat) : Nat := clamp 1 Config.maxWidth n

/-- A search limit: 1 to 1,024. -/
def clampLimit (n : Nat) : Nat := clamp 1 Config.maxLimit n

/-- A level: −127 to 0 dBm (R46, R51, R54, R191). -/
def clampLevel (x : Int) : Int := max (-127) (min 0 x)

/-- A margin: 0 to 63 dB (R191). -/
def clampMargin (n : Nat) : Nat := min 63 n

/-- An index byte where FFh is NONE, MUTE or absent (R186). -/
def optIndex (n : Nat) : Option Nat := if n = 255 then none else some n

/-- A choice of on or off, in this order (R186; log entry 9). -/
def onOffChoice : Nat → Option Bool
  | 0 => some true
  | 1 => some false
  | _ => none

/-- A field that is set or clear, or yes or no (R186). -/
def flagChoice : Nat → Option Bool
  | 0 => some false
  | 1 => some true
  | _ => none

/-- CAMERA or MIC (4.1). -/
def kindChoice : Nat → Option Kind
  | 0 => some .camera
  | 1 => some .mic
  | _ => none

/-- The state a PLAN.PUT may write: RESERVED or FOREIGN, by their places in the table of 1.2 (R16). -/
def putStateChoice : Nat → Option (Carrier → PlanRecord)
  | 1 => some .reserved
  | 4 => some .foreign
  | _ => none

/-- SWEEP or WATCH, WATCH with its level (3.2, R51). -/
def surveyModeChoice (level : Int) : Nat → Option SurveyMode
  | 0 => some .sweep
  | 1 => some (.watch level)
  | _ => none

/-- A tally override (4.1, R123). -/
def overrideChoice : Nat → Option TallyOverride
  | 0 => some .auto
  | 1 => some .dark
  | 2 => some .program
  | 3 => some .preview
  | _ => none

/-- A lamp colour (7.7). -/
def lampColourChoice : Nat → Option LampColour
  | 0 => some .program
  | 1 => some .preview
  | 2 => some .iso
  | 3 => some .talk
  | _ => none

/-- A lamp drive (7.7). -/
def driveChoice : Nat → Option LampDrive
  | 0 => some .off
  | 1 => some .pushPull
  | 2 => some .openDrain
  | _ => none

/-- HIGH or LOW (7.7). -/
def pinLevelChoice : Nat → Option PinLevel
  | 0 => some .high
  | 1 => some .low
  | _ => none

/-- MOMENTARY or LATCH (8.1). -/
def keyModeChoice : Nat → Option KeyMode
  | 0 => some .momentary
  | 1 => some .latch
  | _ => none

/-- The input of a matrix message or of a default input: FFh is MUTE (R155, R189). -/
def matrixInputOf (n : Option Nat) : MatrixInput :=
  match n with
  | none => .mute
  | some i => .input i

/-- The flags byte of a tally message (R189). -/
def flagsOfByte (n : Nat) : SourceFlags := ⟨n.testBit 0, n.testBit 1, n.testBit 2⟩

/-- The cue or echo byte (R189). -/
def cueOfByte (n : Nat) : Cue :=
  ⟨match n % 4 with
    | 0 => .off
    | 1 => .preview
    | _ => .program,
   n.testBit 2, n.testBit 3⟩

/-- The echo a report carries: none for kind MIC, and none for an echo byte of FFh (R129, R189). -/
def reportEcho (r : HeardReport) : Option Cue :=
  if r.kind = 0 then
    match r.echo with
    | some e => if e = 255 then none else some (cueOfByte e)
    | none => none
  else none

/-- The kind a report declares (R189). -/
def reportKind (r : HeardReport) : Kind := if r.kind = 0 then .camera else .mic

/-- The defaults of LINK.ENROLL's omitted parameters (R72). -/
def defaultSettings : LinkSettings := ⟨12, 300, 2000, false, 1000⟩

/-- Parameters given replace the values held, clamped; the loss time is then not below the fade time (R73,
R74). `none` when the auto-retune choice is neither on nor off (log entry 11). -/
def applyParams (held : LinkSettings) (q : LinkParams) : Option LinkSettings :=
  let fade := (q.fadeTime.map (clamp 10 10000)).getD held.fadeTime
  let loss := (q.lossTime.map (clamp 100 60000)).getD held.lossTime
  let build (auto : Bool) : LinkSettings :=
    { floor := (q.floor.map (min 63)).getD held.floor
      fadeTime := fade
      lossTime := max loss fade
      autoRetune := auto
      retuneDelay := (q.retuneDelay.map (min 10000)).getD held.retuneDelay }
  match q.autoRetune with
  | none => some (build held.autoRetune)
  | some n => (onOffChoice n).map build

end Sys2Proof.Machine
end

