-- ==== Sys2Proof/Machine/Formats.lean ====
section
/-! DEFINITION. What responses carry and how responses and outgoing messages are laid out in bytes (R186,
R188, R189). Where a rule lists a record's fields, the order here is the rule's. A choice is numbered from 0
in the order of its table (R186). -/

namespace Sys2Proof.Machine

/-! ## Bytes of fields and frames -/

/-- A signed level in one byte (R186). -/
def levelByte (x : Int) : Byte := BitVec.ofInt 8 x

/-- The flags byte of a source (R189). -/
def flagsByte (f : SourceFlags) : Byte := presenceByte [f.programme, f.preview, f.iso]

/-- The number of a colour (R189). -/
def colourNumber : Colour → Nat
  | .off => 0
  | .preview => 1
  | .program => 2

/-- The cue byte (R189). -/
def cueByte (c : Cue) : Byte := BitVec.ofNat 8 (colourNumber c.colour + 4 * c.iso.toNat + 8 * c.talk.toNat)

/-- A number in four bytes, most significant first (R186). -/
def bytes4 (n : Nat) : List Byte := BitVec.ofNat 8 (n / 16777216) :: bytes3 n

/-- A field in bytes (R186). -/
def Field.bytes : Field → List Byte
  | .index n | .choice n | .small n | .size n => bytes1 n
  | .flag b => bytes1 b.toNat
  | .word n => bytes2 n
  | .freq n | .ident n => bytes3 n
  | .level i => [levelByte i]
  | .clock c => bytes4 c.toNat
  | .causes c => bytes2 c.toNat
  | .flags f => [flagsByte f]
  | .cue c => [cueByte c]
  | .bin none => bytes1 0
  | .bin (some b) => bytes1 b.count ++ [levelByte b.last, levelByte b.peak]
  | .octet b => [b]

/-- The presence bytes before a record's optional fields: one byte with one bit per field, bit 0 the first
(R186, R188); for more than eight fields a free value of at most one byte per field (log entry 7). -/
def presenceBytes (present : List Bool) : List Byte :=
  if present.length ≤ 8 then [presenceByte present] else (Config.widePresence present).take present.length

/-- A part of a response in bytes (R188). -/
def Item.bytes : Item → List Byte
  | .one f => f.bytes
  | .optional fs => presenceBytes (fs.map fun f => !f.isEmpty) ++ fs.flatMap fun f => f.flatMap Field.bytes

/-- The position of a status in the table of 10.3 (R188). -/
def statusNumber : Status → Nat
  | .ok => 0
  | .notReady => 1
  | .badFrame => 2
  | .badField => 3
  | .notFound => 4
  | .duplicate => 5
  | .inUse => 6
  | .badState => 7
  | .busy => 8
  | .full => 9
  | .groupFull => 10
  | .notAuthority => 11

/-- A response frame (R188): its length byte, the code, the status byte and the fields. -/
def Response.frame (r : Response) : List Byte :=
  let body := bytes1 r.code ++ bytes1 (statusNumber r.status) ++ r.items.flatMap Item.bytes
  BitVec.ofNat 8 body.length :: body

/-- The NOT_READY response of a read transaction (R174, R188). -/
def notReadyResponse : Response := ⟨0, .notReady, []⟩

/-! ## Numbers of choices -/

/-- On or off, in this order (log entry 9). -/
def onOffNumber (b : Bool) : Nat := if b then 0 else 1

def kindNumber : Kind → Nat
  | .camera => 0
  | .mic => 1

def presenceNumber : Presence → Nat
  | .standby => 0
  | .live => 1
  | .fading => 2
  | .lost => 3

def resultNumber : RetuneResult → Nat
  | .none => 0
  | .done => 1
  | .noCarrier => 2
  | .tableFull => 3
  | .groupFull => 4
  | .timeout => 5
  | .halted => 6
  | .retired => 7
  | .restart => 8

def phaseNumber : RetunePhase → Nat
  | .none => 0
  | .seeking _ _ => 1
  | .ordered _ _ => 2

def overrideNumber : TallyOverride → Nat
  | .auto => 0
  | .dark => 1
  | .program => 2
  | .preview => 3

def lifecycleNumber : LinkEntry → Nat
  | .vacant => 0
  | .noted _ => 1
  | .enrolled _ => 2

def originNumber : Origin → Nat
  | .automatic => 0
  | .requested => 1

def placeNumber : SearchPlace → Nat
  | .inEngine => 0
  | .waiting => 1

def statusOfKeyNumber : KeyStatus → Nat
  | .idle => 0
  | .waiting => 1
  | .partly => 2
  | .full => 3

/-- The authority owner in CAUSE.READ (R181). No table lists its values: PRIMARY is 0 and SERVICE 1 (log entry 21). -/
def portNumber : Port → Nat
  | .primary => 0
  | .service => 1

def planStateNumber : PlanRecord → Nat
  | .empty => 0
  | .reserved _ => 1
  | .active _ _ => 2
  | .handover _ _ => 3
  | .foreign _ => 4

/-! ## Items -/

/-- An index that may be NONE (R186). -/
def optIndexField (n : Option Nat) : Field := .index (n.getD 255)

/-- An optional field. -/
def maybe {α : Type} (f : α → Field) : Option α → List Field
  | none => []
  | some a => [f a]

/-- A list of indices: a count, then the indices (R186). -/
def indexList (l : List Nat) : List Item := .one (.size l.length) :: l.map fun n => .one (.index n)

/-- The fields of a band group, in the order of GROUP.SET (R2, R3). -/
def groupItems (g : BandGroup) : List Item :=
  [.one (.freq g.lower), .one (.freq g.upper), .one (.word g.spacingGuard), .one (.word g.productGuard),
   .one (.choice (onOffNumber g.twoTone)), .one (.choice (onOffNumber g.threeTone)),
   .one (.word g.searchStep), .one (.word g.searchLimit)]

/-- A plan record (R16, R18). -/
def planItems (r : PlanRecord) : List Item :=
  let c := r.carrier
  [.one (.choice (planStateNumber r)),
   .optional [maybe .freq (c.map Carrier.centre), maybe .word (c.map Carrier.halfWidth),
     maybe .index (c.map Carrier.group), maybe .index r.owner]]

/-- The candidate of a check as held (R24). -/
def candidateItems (named : Option Nat) (c : Carrier) : List Item :=
  [.optional [maybe .index named], .one (.freq c.centre), .one (.word c.halfWidth), .one (.index c.group)]

/-- The parameters of a host search as held, in the order of FIND.START (R25). -/
def searchItems (q : Search) : List Item :=
  [.one (.index q.group), .one (.freq q.lower), .one (.freq q.upper), .one (.word q.step),
   .one (.word q.halfWidth), .one (.word q.limit)]

/-- The number of a kind of conflict (2.3). -/
def conflictKindNumber : ConflictKind → Nat
  | .edge => 0
  | .spacing _ => 1
  | .occupied _ => 2
  | .im2 _ _ _ _ => 3
  | .im3 _ _ _ _ _ => 4

def familyNumber : Family → Nat
  | .membersOnCandidate => 0
  | .candidateOnMember => 1

/-- The fields of a worst conflict (R41): kind, family, overlap, A, B, C3, victim. The overlap takes two bytes (log
entry 8), and CANDIDATE, which R39 and R42 count as 96 in an order only, is sent as 96 (log entry 20). -/
def conflictFields : Option Conflict → List (List Field)
  | none => [[], [], [], [], [], [], []]
  | some c =>
    let kind : List Field := [.choice (conflictKindNumber c.kind)]
    let overlap : List Field := [.word c.overlap.toNat]
    match c.kind with
    | .edge => [kind, [], overlap, [], [], [], []]
    | .spacing v => [kind, [], overlap, [], [], [], [.index v]]
    | .occupied b => [kind, [], overlap, [], [], [], [.index b]]
    | .im2 f a b v => [kind, [.choice (familyNumber f)], overlap, [.index a], [.index b], [], [.index v]]
    | .im3 f a b c v =>
        [kind, [.choice (familyNumber f)], overlap, [.index a], [.index b], [.index c], [.index v]]

/-- The fields of a request as held in a slot (R23): kind, CHECK being 0 and FIND 1 (log entry 21), the candidate's
record, centre, half width and group of a CHECK, and the parameters of a FIND. -/
def jobFields : Job → List (List Field)
  | .check named c =>
      [[.choice 0], maybe .index named, [.freq c.centre], [.word c.halfWidth], [.index c.group],
       [], [], [], [], [], []]
  | .find q =>
      [[.choice 1], [], [], [], [],
       [.index q.group], [.freq q.lower], [.freq q.upper], [.word q.step], [.word q.halfWidth], [.word q.limit]]

/-- The fields of a result record (R41, R44) in a slot: a check's, then a search's. -/
def resultFields : Option EngineResult → List (List Field)
  | none => List.replicate 25 []
  | some (.check r) =>
      [[.choice (if r.worst.isSome then 1 else 0)],
       [.word r.counts.edge], [.word r.counts.spacing], [.word r.counts.occupied],
       [.word r.counts.im2], [.word r.counts.im3]] ++ conflictFields r.worst ++ [[.flag r.stale]]
        ++ List.replicate 11 []
  | some (.find r) =>
      List.replicate 14 [] ++
      [[.choice (if r.found.isSome then 0 else 1)], maybe .freq r.found, [.word r.tried]]
        ++ conflictFields r.lastWorst ++ [[.flag r.stale]]

/-- What CHECK.READ returns of a slot (R30): its state, and the fields present in the state. `ahead` counts the
requests before it in the queue, a number of two bytes (log entry 8); `progress` is the running request's count and
stale flag. -/
def slotItems (slot : Slot) (ahead : Nat) (progress : Nat × Bool) : List Item :=
  match slot with
  | .empty => [.one (.choice 0), .optional (List.replicate 39 [])]
  | .queued job => [.one (.choice 1), .optional (jobFields job ++ [[.word ahead], [], []] ++ resultFields none)]
  | .running job =>
      [.one (.choice 2),
       .optional (jobFields job ++ [[], [.word progress.1], [.flag progress.2]] ++ resultFields none)]
  | .done job result => [.one (.choice 3), .optional (jobFields job ++ [[], [], []] ++ resultFields (some result))]

/-- The survey window (R46, R48). The bin width takes two bytes (log entry 8). -/
def windowItems (w : SurveyWindow) : List Item :=
  [.one (.freq w.start), .one (.word w.width), .one (.level w.hot)]

/-- The fields of a job's run. -/
def runFields (r : JobRun) : List (List Field) :=
  [[.index r.receiver], [.index r.pointer], [.word r.remaining],
   [.choice (match r.mode with
     | .sweep => 0
     | .watch _ => 1)],
   match r.mode with
     | .sweep => []
     | .watch x => [.level x]]

/-- The number of an end reason (3.2). -/
def endReasonNumber : EndReason → Nat
  | .count => 0
  | .watchHit _ => 1
  | .stopped => 2
  | .restart => 3

/-- A survey job record (R53). -/
def jobItems : SurveyJob → List Item
  | .idle => [.one (.choice 0), .optional [[], [], [], [], [], [], []]]
  | .running r => [.one (.choice 1), .optional (runFields r ++ [[], []])]
  | .ended r why =>
      [.one (.choice 2),
       .optional (runFields r ++ [[.choice (endReasonNumber why)],
         match why with
         | .watchHit b => [.index b]
         | _ => []])]

/-- A link entry (R77): its lifecycle and the fields of the table of 4.1 in the table's order. -/
def entryItems (e : LinkEntry) : List Item :=
  match e with
  | .vacant => [.one (.choice 0), .optional (List.replicate 19 [])]
  | .noted n =>
      [.one (.choice 1),
       .optional [[.ident n.ident], [.choice (kindNumber n.kind)], maybe .clock n.lastHeard,
         [], [], [], [], [], [], [], [], [], [], [], [],
         maybe (fun r => .choice (resultNumber r)) n.lastResult, [], [], []]]
  | .enrolled e =>
      [.one (.choice 2),
       .optional [[.ident e.ident], [.choice (kindNumber (roleKind e.role))], maybe .clock e.lastHeard,
         [.index e.carrier],
         match e.phase with
           | .ordered _ r => [.index r]
           | _ => [],
         [.choice (presenceNumber e.presence)], maybe .clock e.lastGood, maybe .index e.bestReceiver,
         maybe .small e.lastMargin, [.small e.settings.floor], [.word e.settings.fadeTime],
         [.word e.settings.lossTime], [.choice (onOffNumber e.settings.autoRetune)],
         [.word e.settings.retuneDelay], [.choice (phaseNumber e.phase)], [.choice (resultNumber e.lastResult)],
         match e.role with
           | .camera o _ => [.index o]
           | .mic => [],
         [.choice (overrideNumber e.tally)],
         match e.role with
           | .camera _ m => [.word m]
           | .mic => []]]

/-- The capture slot (R68): empty or full, and the fields of 4.4. -/
def captureItems : Option Capture → List Item
  | none => [.one (.choice 0), .optional (List.replicate 9 [])]
  | some c =>
      [.one (.choice 1),
       .optional [[.choice (match c.kind with
           | .unknown => 0
           | .mistuned => 1)],
         [.ident c.ident], [.choice (kindNumber c.reportedKind)], [.index c.receiver], [.freq c.freq],
         [.level c.level], [.small c.margin], [.clock c.time], [.flag c.more]]]

/-- The number of a pin state. No table lists them: the order is that of R135 (log entry 21). -/
def pinNumber : PinState → Nat
  | .released => 0
  | .drivenHigh => 1
  | .drivenLow => 2
  | .pulledLow => 3

/-- A lamp line record, whether it is lit, and its pin (R133, R135). -/
def lampItems (r : LampLine) (lit : Bool) (pin : PinState) : List Item :=
  [.one (optIndexField r.link),
   .one (.choice (match r.colour with
     | .program => 0
     | .preview => 1
     | .iso => 2
     | .talk => 3)),
   .one (.choice (match r.drive with
     | .off => 0
     | .pushPull => 1
     | .openDrain => 2)),
   .one (.choice (match r.activeLevel with
     | .high => 0
     | .low => 1)),
   .one (.flag lit), .one (.choice (pinNumber pin))]

/-- A key (R138, R154). -/
def keyItems (k : Key) : List Item :=
  [.one (.small k.level),
   .one (.choice (match k.mode with
     | .momentary => 0
     | .latch => 1)),
   .one (.flag k.locked), .one (.index k.source)] ++ indexList k.destinations
    ++ [.one (.flag k.active), .one (.choice (statusOfKeyNumber k.status)), .one (.flag k.statusPending)]

/-- Keys with their levels (R151). -/
def waiterItems (l : List Waiter) : List Item :=
  .one (.size l.length) :: l.flatMap fun w => [.one (.index w.key), .one (.small w.level)]

/-- A feed arbiter (R151); `output` is the return audio output of an eligible destination. FEED.DEFAULT answers with
the same items (R143, log entry 10). -/
def arbiterItems (output : Option Nat) (a : Arbiter) : List Item :=
  [.one (.flag output.isSome), .optional [maybe .index output], .one (optIndexField a.defaultInput),
   .one (optIndexField a.holder)] ++ waiterItems a.saved ++ waiterItems a.waiting
    ++ a.lastGranted.toList.map fun k => .one (optIndexField k)

/-- A matrix input as an index, MUTE being FFh (R186). -/
def matrixField : MatrixInput → Field
  | .input n => .index n
  | .mute => .index 255

/-- The kind of a message in flight (9.1). No table lists its values: TUNE, CUE, PASS (log entry 21). -/
def contentNumber : Content → Nat
  | .tune _ _ => 0
  | .cue _ => 1
  | .pass _ => 2

/-- The content of a message in flight. -/
def contentFields : Content → List Field
  | .tune c h => [.freq c, .word h]
  | .cue c => [.cue c]
  | .pass b => .size b.length :: b.map .octet

/-- The message in flight (R172). -/
def flyingItems (m : Option FlyingMessage) : Item :=
  .optional [maybe (fun m => .choice (contentNumber m.content)) m, maybe (fun m => .index m.link) m,
    maybe (fun m => .small m.number) m,
    match m with
      | none => []
      | some m => contentFields m.content,
    maybe (fun m => .clock m.deadline) m]

/-- The thirteen port fault flags, in the order of R183. -/
def faultItems (f : PortFaults) : List Item :=
  [f.service.framing, f.service.parity, f.receiver.framing, f.receiver.parity, f.mixer.framing, f.mixer.parity,
   f.keypanel.framing, f.keypanel.parity, f.matrix.framing, f.matrix.parity, f.ret.framing, f.ret.parity,
   f.directoryFull].map fun b => .one (.flag b)

/-! ## Messages out (R189) -/

/-- A matrix input byte. -/
def matrixByte : MatrixInput → Nat
  | .input n => n
  | .mute => 255

/-- KEY STATUS. -/
def keyStatusBytes (m : KeyStatusMessage) : List Byte :=
  bytes1 0x4B ++ bytes1 m.key ++ bytes1 (statusOfKeyNumber m.status)

/-- ORDER. -/
def orderBytes (o : FlyingOrder) : List Byte := bytes1 0x4F ++ bytes1 o.output ++ bytes1 (matrixByte o.input)

/-- TUNE, CUE or PASS. -/
def returnBytes (m : FlyingMessage) : List Byte :=
  match m.content with
  | .tune c h => bytes1 0x71 ++ bytes1 m.number ++ bytes1 m.link ++ bytes3 c ++ bytes2 h
  | .cue c => bytes1 0x72 ++ bytes1 m.number ++ bytes1 m.link ++ [cueByte c]
  | .pass b => bytes1 0x73 ++ bytes1 m.number ++ bytes1 m.link ++ bytes1 b.length ++ b

end Sys2Proof.Machine
end

