-- ==== Sys2Proof/Machine/Conflicts.lean ====
section
/-! DEFINITION. The compatibility engine's arithmetic: hot bins (3.4), the five kinds of comparison (2.3) and
the worst conflict (2.4), in exact integers (R34). -/

namespace Sys2Proof.Machine

/-- A carrier of an evaluation, with its number: a record index, or 96 for the candidate (R39). -/
structure Party where
  number : Nat
  centre : Int
  half : Int
deriving DecidableEq, Repr, Inhabited

/-- The number of CANDIDATE (R39, R42). -/
def candidateNumber : Nat := 96

/-- The candidate as a party. -/
def candidateParty (c : Carrier) : Party := ⟨candidateNumber, c.centre, c.halfWidth⟩

/-- The member set S: the records of the group that are not EMPTY, less the record that names the candidate
(R34). -/
def members (s : State) (group : Nat) (named : Option Nat) : List Party :=
  (List.range 96).filterMap fun i =>
    if named = some i then none
    else match (planRecord s i).carrier with
      | some c => if c.group = group then some ⟨i, c.centre, c.halfWidth⟩ else none
      | none => none

/-- The lowest and highest step of bin `i` (R45). -/
def binLow (w : SurveyWindow) (i : Nat) : Int := w.start + i * w.width
def binHigh (w : SurveyWindow) (i : Nat) : Int := w.start + (i + 1) * w.width - 1

/-- Two closed intervals have a step in common (R57). -/
def intersects (lo hi lo' hi' : Int) : Bool := lo ≤ hi' && lo' ≤ hi

/-- An own carrier's occupied band meets bin `i` (R57, R58). -/
def shielded (s : State) (i : Nat) : Bool :=
  (List.range 96).any fun r =>
    let rec_ := planRecord s r
    rec_.isOwn && match rec_.carrier with
      | some c => intersects (binLow s.survey.window i) (binHigh s.survey.window i) (bandLow c) (bandHigh c)
      | none => false

/-- Bin `i` is hot (R57). -/
def isHot (s : State) (i : Nat) : Bool :=
  match look s.survey.bins i with
  | none => false
  | some b => 1 ≤ b.count && s.survey.window.hot ≤ b.peak && !(shielded s i)

/-- A comparison gives a conflict when its overlap is above 0 (2.3). -/
def conflictOf (kind : ConflictKind) (overlap : Int) : List Conflict := if 0 < overlap then [⟨kind, overlap⟩] else []

/-- R35. -/
def edgeOverlap (g : BandGroup) (c : Party) : Int :=
  max 0 (g.lower - (c.centre - c.half)) + max 0 (c.centre + c.half - g.upper)

/-- R36. -/
def spacingOverlap (g : BandGroup) (c s : Party) : Int := c.half + s.half + g.spacingGuard - |c.centre - s.centre|

/-- R37: the steps that the candidate's guarded band and a bin share. -/
def occupiedOverlap (g : BandGroup) (w : SurveyWindow) (c : Party) (bin : Nat) : Int :=
  max 0 (min (c.centre + c.half + g.spacingGuard) (binHigh w bin)
    - max (c.centre - c.half - g.spacingGuard) (binLow w bin) + 1)

/-- R38: the product 2·fa − fb against a victim. -/
def im2Overlap (g : BandGroup) (a b v : Party) : Int :=
  2 * a.half + b.half + v.half + g.productGuard - |2 * a.centre - b.centre - v.centre|

/-- R39: the product fa + fb − fc against a victim. -/
def im3Overlap (g : BandGroup) (a b c v : Party) : Int :=
  a.half + b.half + c.half + v.half + g.productGuard - |a.centre + b.centre - c.centre - v.centre|

/-- The members that are none of the given numbers. -/
def without (ms : List Party) (out : List Nat) : List Party := ms.filter fun m => !(out.contains m.number)

/-- The unordered pairs of members, lower number first. -/
def pairs (ms : List Party) : List (Party × Party) :=
  ms.flatMap fun a => (ms.filter fun b => a.number < b.number).map fun b => (a, b)

/-- R35. -/
def edgeConflicts (g : BandGroup) (c : Party) : List Conflict := conflictOf .edge (edgeOverlap g c)

/-- R36. -/
def spacingConflicts (g : BandGroup) (c : Party) (ms : List Party) : List Conflict :=
  ms.flatMap fun m => conflictOf (.spacing m.number) (spacingOverlap g c m)

/-- R37. -/
def occupiedConflicts (s : State) (g : BandGroup) (c : Party) : List Conflict :=
  ((List.range 256).filter (isHot s)).flatMap fun b =>
    conflictOf (.occupied b) (occupiedOverlap g s.survey.window c b)

/-- R38: family (i), then family (ii). -/
def im2Conflicts (g : BandGroup) (c : Party) (ms : List Party) : List Conflict :=
  if g.twoTone then
    (ms.flatMap fun a => (without ms [a.number]).flatMap fun b =>
      conflictOf (.im2 .membersOnCandidate a.number b.number c.number) (im2Overlap g a b c))
    ++ (ms.flatMap fun m => (without ms [m.number]).flatMap fun v =>
      conflictOf (.im2 .candidateOnMember c.number m.number v.number) (im2Overlap g c m v)
      ++ conflictOf (.im2 .candidateOnMember m.number c.number v.number) (im2Overlap g m c v))
  else []

/-- R39: family (i), then family (ii) with the candidate in the pair, then with the candidate as third carrier.
The pair is recorded in ascending order, CANDIDATE counting as 96. -/
def im3Conflicts (g : BandGroup) (c : Party) (ms : List Party) : List Conflict :=
  if g.threeTone then
    ((pairs ms).flatMap fun (a, b) => (without ms [a.number, b.number]).flatMap fun d =>
      conflictOf (.im3 .membersOnCandidate a.number b.number d.number c.number) (im3Overlap g a b d c))
    ++ (ms.flatMap fun a => (without ms [a.number]).flatMap fun d =>
      (without ms [a.number, d.number]).flatMap fun v =>
        conflictOf (.im3 .candidateOnMember a.number c.number d.number v.number) (im3Overlap g a c d v))
    ++ ((pairs ms).flatMap fun (a, b) => (without ms [a.number, b.number]).flatMap fun v =>
      conflictOf (.im3 .candidateOnMember a.number b.number c.number v.number) (im3Overlap g a b c v))
  else []

/-- Every conflict of one evaluation of a candidate (R28, R34). -/
def conflicts (s : State) (named : Option Nat) (cand : Carrier) : List Conflict :=
  let g := look s.plan.groups cand.group
  let c := candidateParty cand
  let ms := members s cand.group named
  edgeConflicts g c ++ spacingConflicts g c ms ++ occupiedConflicts s g c ++ im2Conflicts g c ms
    ++ im3Conflicts g c ms

/-- What decides among conflicts of equal overlap: kind, family, then the tuple (A, B, C3, victim) (R42). -/
def tieKey : ConflictKind → List Nat
  | .edge => [0, 0, 0, 0, 0, 0]
  | .spacing v => [1, 0, 0, 0, 0, v]
  | .occupied b => [2, 0, 0, 0, 0, b]
  | .im2 f a b v => [3, familyNumber f, a, b, 0, v]
  | .im3 f a b c v => [4, familyNumber f, a, b, c, v]

/-- Lexicographic order of keys of one length. -/
def keyBefore : List Nat → List Nat → Bool
  | x :: xs, y :: ys => x < y || (x == y && keyBefore xs ys)
  | _, _ => false

/-- The first conflict is worse than the second (R42). -/
def worse (x y : Conflict) : Bool :=
  decide (y.overlap < x.overlap) || (x.overlap == y.overlap && keyBefore (tieKey x.kind) (tieKey y.kind))

/-- The worst conflict of a list (R42), at its exact overlap. -/
def worstOf : List Conflict → Option Conflict
  | [] => none
  | c :: cs => match worstOf cs with
    | none => some c
    | some d => some (if worse d c then d else c)

/-- The worst conflict as recorded: an EDGE overlap above 16,635 is recorded as 16,635 (R41). -/
def recorded (c : Conflict) : Conflict :=
  match c.kind with
  | .edge => { c with overlap := min c.overlap Config.maxOverlap }
  | _ => c

/-- The number of conflicts of a kind, which stops at 255 (R41). -/
def countKind (n : Nat) (cs : List Conflict) : Nat :=
  min Config.countStop (cs.countP fun c => conflictKindNumber c.kind == n)

/-- The counts per kind (R41). -/
def countsOf (cs : List Conflict) : Counts :=
  ⟨countKind 0 cs, countKind 1 cs, countKind 2 cs, countKind 3 cs, countKind 4 cs⟩

/-- Candidate `i` of a search (R43). -/
def searchCandidate (q : Search) (i : Nat) : Carrier := ⟨q.lower + q.halfWidth + i * q.step, q.halfWidth, q.group⟩

/-- The search stops before candidate `i` (R43). -/
def searchStops (q : Search) (i : Nat) : Bool :=
  decide (q.upper < q.lower + q.halfWidth + i * q.step + q.halfWidth) || decide (q.limit ≤ i)

end Sys2Proof.Machine
end

