-- ==== Sys2Proof/Machine/EngineQueue.lean ====
section
/-! DEFINITION. The engine queue with the seek wait list before it, what a search result makes of a retune, and how
requests leave the engine and start in it (R26, R27, R29, R32, R99 to R109). -/

namespace Sys2Proof.Machine

/-! ## The engine queue -/

/-- The request is the internal request of a link. -/
def isInternal (r : EngineRequest) : Bool :=
  match r.client with
  | .internal _ => true
  | .host _ => false

/-- A request joins the tail of the engine queue (R26). -/
def enqueue (r : EngineRequest) (s : State) : State := { s with engine.queue := s.engine.queue ++ [r] }

/-- The requests in the engine, the running one first. -/
def engineRequests (s : State) : List EngineRequest :=
  (s.engine.running.map Running.request).toList ++ s.engine.queue

/-- The engine's count of internal requests, counting a running one (R26). -/
def internalCount (s : State) : Nat := (engineRequests s).countP isInternal

/-- Take a link's internal request out of the engine (R32): removed from the queue, or abandoned. -/
def cancelInternal (l : Nat) (s : State) : State :=
  { s with
    engine.queue := s.engine.queue.filter fun r => r.client != .internal l
    engine.running := s.engine.running.filter fun r => r.request.client != .internal l }

/-! ## Searches and the seek wait list -/

/-- The carrier of a link's plan record; a link's carrier record is never EMPTY (R6). -/
def linkCarrier (s : State) (e : EnrolledLink) : Carrier := (planRecord s e.carrier).carrier.getD default

/-- The search of a link, with its parameters read from the plan at the moment of queueing (R104). -/
def linkSearch (s : State) (e : EnrolledLink) : Search :=
  let c := linkCarrier s e
  let g := look s.plan.groups c.group
  ⟨c.group, g.lower, g.upper, g.searchStep, c.halfWidth, g.searchLimit⟩

/-- Write the search place of a link in SEEKING. -/
def setPlace (place : SearchPlace) (l : Nat) (s : State) : State :=
  updateLink l (fun e => { e with phase := match e.phase with
    | .seeking r _ => .seeking r place
    | p => p }) s

/-- Queue a link's search in the engine: its place becomes IN_ENGINE (R104). -/
def queueSearch (l : Nat) (s : State) : State :=
  match entry s l with
  | .enrolled e => setPlace .inEngine l (enqueue ⟨.internal l, .find (linkSearch s e)⟩ s)
  | _ => s

/-- Whether `a` entered SEEKING before `b` (6.1, seeking order). -/
def seeksBefore (s : State) (a b : Nat) : Bool := s.retune.seekOrder.idxOf a < s.retune.seekOrder.idxOf b

/-- A link joins the seek wait list at the place its seeking order gives it (R104, R106). -/
def joinWaitList (l : Nat) (s : State) : State :=
  let earlier := s.retune.waitList.takeWhile fun m => seeksBefore s m l
  let later := s.retune.waitList.dropWhile fun m => seeksBefore s m l
  setPlace .waiting l { s with retune.waitList := earlier ++ l :: later }

/-- Place the search of a link that enters SEEKING (R104). -/
def placeSearch (l : Nat) (s : State) : State :=
  if internalCount s < Config.internalCapacity then queueSearch l s else joinWaitList l s

/-- Serve the seek wait list when the engine reports that an internal request has left it (R105). -/
def serveWaitList (s : State) : State :=
  match s.retune.waitList with
  | [] => s
  | l :: rest =>
    if internalCount s < Config.internalCapacity then queueSearch l { s with retune.waitList := rest } else s

/-! ## Starting and ending a retune -/

/-- Start a retune without a target (R102, R103). -/
def startSeeking (origin : Origin) (keepOld : Bool) (l : Nat) (s : State) : State :=
  let rec_ : RetuneRecord := ⟨origin, keepOld, deadlineAfter s.retune.limit s⟩
  let s := updateLink l (fun e => { e with phase := .seeking rec_ .waiting }) s
  placeSearch l (markChanged l { s with retune.seekOrder := s.retune.seekOrder ++ [l] })

/-- Enter ORDERED with a new carrier (R109). -/
def enterOrdered (rec_ : RetuneRecord) (newCarrier l : Nat) (s : State) : State :=
  let s := updateLink l (fun e => { e with phase := .ordered rec_ newCarrier }) s
  let s := { s with
    retune.seekOrder := setRemove l s.retune.seekOrder
    retune.waitList := setRemove l s.retune.waitList }
  markChanged l (if isCamera s l then setTunePending l s else s)

/-- End a retune with a result: phase NONE, no retune record, RETUNE_END raised (R101, R107). -/
def endRetune (result : RetuneResult) (l : Nat) (s : State) : State :=
  let s := updateLink l (fun e => { e with phase := .none, lastResult := result }) s
  let s := { s with
    retune.seekOrder := setRemove l s.retune.seekOrder
    retune.waitList := setRemove l s.retune.waitList }
  raise .retuneEnd (markChanged l s)

/-- The retune controller acts on a search result (R106 to R108). The link is in SEEKING; a result for any other
link has nothing to act on. -/
def applySearchResult (l : Nat) (r : FindResult) (s : State) : State :=
  match entry s l with
  | .enrolled e => match e.phase with
    | .seeking rec_ _ =>
      if r.stale then joinWaitList l s
      else match r.found with
        | none => endRetune .noCarrier l s
        | some centre =>
          let c := linkCarrier s e
          match openFromSearch ⟨centre, c.halfWidth, c.group⟩ l s with
          | .tableFull => endRetune .tableFull l s
          | .groupFull => endRetune .groupFull l s
          | .done i s' => enterOrdered rec_ i l s'
    | _ => s
  | _ => s

/-! ## Requests that leave the engine, and the start of the head -/

/-- Host check slot `k`. -/
def slotAt (s : State) (k : Nat) : Slot := look s.engine.slots k

/-- Replace host check slot `k`. -/
def setSlot (k : Nat) (v : Slot) (s : State) : State := { s with engine.slots := put s.engine.slots k v }

/-- A completed request's result is delivered (R29): a host slot becomes DONE with CHECK_END; an internal search's
result goes to the retune controller, and the seek wait list is then served (R105). Nothing runs meanwhile. -/
def deliverResult (r : EngineRequest) (result : EngineResult) (s : State) : State :=
  let s := { s with engine.running := none }
  match r.client with
  | .host k => raise .checkEnd (setSlot k (.done r.job result) s)
  | .internal l =>
    serveWaitList (match result with
      | .find f => applySearchResult l f s
      | .check _ => s)

/-- The head of the queue becomes the running request, its stale flag clear; a host slot becomes RUNNING (R27). -/
def beginRequest (r : EngineRequest) (rest : List EngineRequest) (s : State) : State :=
  let s := { s with engine.queue := rest, engine.running := some ⟨r, 0, false⟩ }
  match r.client with
  | .host k => setSlot k (.running r.job) s
  | .internal _ => s

/-- The job is a search that tries no candidate (R43). -/
def triesNone : Job → Bool
  | .find q => searchStops q 0
  | .check _ _ => false

/-- The engine starts the head of its queue (R27). A search that tries no candidate completes in its start, with the
result NONE, and the engine then starts the next head (R29), as often as `starts` says. -/
def startHeads : Nat → State → State
  | 0, s => s
  | starts + 1, s =>
    match s.engine.running, s.engine.queue with
    | none, r :: rest =>
      let s := beginRequest r rest s
      if triesNone r.job then startHeads starts (deliverResult r (.find ⟨none, 0, none, false⟩) s) else s
    | _, _ => s

/-- The engine starts the head of its queue when no request runs (R27). Each start takes a request from the queue, and
each completion brings at most one from the seek wait list, so their lengths bound the starts of one event. -/
def startHead (s : State) : State := startHeads (s.engine.queue.length + s.retune.waitList.length) s

/-- A request completes with its result; the engine then starts the head of its queue, in the same event (R29, log
entry 19). -/
def completeRequest (r : EngineRequest) (result : EngineResult) (s : State) : State :=
  startHead (deliverResult r result s)

/-- A link's internal request runs. -/
def internalRuns (s : State) (l : Nat) : Bool := s.engine.running.any fun r => r.request.client == .internal l

/-- Cancel a link's internal request when its retune is aborted (R32, R112): the engine's report that a request has
left is served (R105), and where the request ran the engine starts the head of its queue, in the same event (log
entry 19). -/
def cancelSearch (l : Nat) (s : State) : State :=
  let left := serveWaitList (cancelInternal l s)
  if internalRuns s l then startHead left else left

end Sys2Proof.Machine
end

