-- ==== Sys2Proof/Machine/RetuneController.lean ====
section
/-! DEFINITION. How a retune is aborted and completed, and the commands of the retune controller (Chapter 6). -/

namespace Sys2Proof.Machine

/-! ## Aborting and completing a retune -/

/-- Abort a link's retune from the phase it is in (R112). Phase NONE has nothing to abort. -/
def abortRetune (result : RetuneResult) (l : Nat) (s : State) : State :=
  match entry s l with
  | .enrolled e => match e.phase with
    | .none => s
    | .seeking _ .inEngine => cancelSearch l (endRetune result l s)
    | .seeking _ .waiting => endRetune result l s
    | .ordered _ newCarrier => endRetune result l (removeTunePending l (closeRecord newCarrier s))
  | _ => s

/-- Complete a retune on the new carrier (R111, R13). -/
def completeRetune (rec_ : RetuneRecord) (newCarrier l : Nat) (s : State) : State :=
  match entry s l with
  | .enrolled e =>
    let s := releaseOldRecord e.carrier rec_.keepOld (promoteRecord newCarrier s)
    let s := updateLink l (fun e => { e with carrier := newCarrier }) s
    endRetune .done l (removeTunePending l s)
  | _ => s

/-! ## Commands -/

/-- LINK.RETUNE (R103). A keep-old byte that is neither set nor clear is BAD_FIELD (log entry 11). -/
def linkRetuneRule (index target keepOld : Nat) (s : State) : Verdict :=
  let t := optIndex target
  if 63 < index || (t.any (95 < ·)) then .refuse .badField
  else match flagChoice keepOld with
    | none => .refuse .badField
    | some keep => match entry s index with
      | .enrolled e => match e.phase with
        | .none =>
          let stopped := updateLink index (fun e => { e with delayTimer := none }) s
          match t with
          | none =>
            let s' := startSeeking .requested keep index stopped
            .accept [.one (.choice 1), .optional [[]]] s'
          | some r =>
            match openOnTarget r index stopped with
            | none => .refuse .badState
            | some s' =>
              .accept [.one (.choice 2), .optional [[.index r]]]
                (enterOrdered ⟨.requested, keep, deadlineAfter s.retune.limit s⟩ r index s')
        | _ => .refuse .busy
      | _ => .refuse .badState

/-- LINK_RETUNE -/
def execLinkRetune (p : Port) (index target keepOld : Nat) (s : State) : Answer :=
  .next (takeRequest p .linkRetune (linkRetuneRule index target keepOld) s)

/-- LINK.HALT (R114). -/
def linkHaltRule (index : Nat) (s : State) : Verdict :=
  if 63 < index then .refuse .badField
  else match entry s index with
    | .enrolled e => match e.phase with
      | .none => .refuse .badState
      | _ => .accept [] (abortRetune .halted index s)
    | _ => .refuse .badState

/-- LINK_HALT -/
def execLinkHalt (p : Port) (index : Nat) (s : State) : Answer :=
  .next (takeRequest p .linkHalt (linkHaltRule index) s)

/-- The limit deadline of a link in SEEKING or ORDERED (R100). -/
def limitDeadline (e : EnrolledLink) : Option Clock :=
  match e.phase with
  | .none => none
  | .seeking r _ | .ordered r _ => some r.limit

/-- RETUNE_LIMIT_EXPIRY (R113): taken when the limit deadline is reached (log entry 1). -/
def execRetuneLimitExpiry (link : Nat) (s : State) : Answer :=
  .next (match enrolledLink s link with
    | some e => match limitDeadline e with
      | some d => if reached d s.clock then abortRetune .timeout link s else s
      | none => s
    | none => s)

/-- RETUNE.LIMIT (R100). -/
def retuneLimitRule (time : Nat) (s : State) : Verdict :=
  let t := clamp 500 30000 time
  .accept [.one (.word t)] { s with retune.limit := t }

/-- RETUNE_LIMIT -/
def execRetuneLimit (p : Port) (time : Nat) (s : State) : Answer :=
  .next (takeRequest p .retuneLimit (retuneLimitRule time) s)

/-- What RETUNE.GET carries (R118). The position on the seek wait list takes one byte, as a link index does (log
entry 8). -/
def retuneItems (s : State) (l : Nat) (e : EnrolledLink) : List Item :=
  let head : List Item := [.one (.choice (phaseNumber e.phase)), .one (.choice (resultNumber e.lastResult))]
  let common (r : RetuneRecord) : List (List Field) :=
    [[.choice (originNumber r.origin)], [.flag r.keepOld], [.clock r.limit]]
  match e.phase with
  | .none => head ++ [.optional [[], [], [], [], [], []]]
  | .seeking r .inEngine => head ++ [.optional (common r ++ [[.choice (placeNumber .inEngine)], [], []])]
  | .seeking r .waiting =>
      head ++ [.optional (common r ++ [[.choice (placeNumber .waiting)],
        [.index (s.retune.waitList.idxOf l)], []])]
  | .ordered r n => head ++ [.optional (common r ++ [[], [], [.index n]])]

/-- RETUNE.GET (R118). -/
def retuneGetRule (index : Nat) (s : State) : Verdict :=
  if 63 < index then .refuse .badField
  else match entry s index with
    | .enrolled e => .accept (retuneItems s index e) s
    | _ => .refuse .badState

/-- RETUNE_GET -/
def execRetuneGet (p : Port) (index : Nat) (s : State) : Answer :=
  .next (takeRequest p .retuneGet (retuneGetRule index) s)

/-- The links whose searches are in the engine, in the engine's order (R118). -/
def searchingLinks (s : State) : List Nat :=
  (engineRequests s).filterMap fun r => match r.client with
    | .internal l => some l
    | .host _ => none

/-- RETUNE.QUEUE (R118). -/
def retuneQueueRule (s : State) : Verdict :=
  .accept (.one (.word s.retune.limit) :: (indexList (searchingLinks s) ++ indexList s.retune.waitList)) s

/-- RETUNE_QUEUE -/
def execRetuneQueue (p : Port) (s : State) : Answer := .next (takeRequest p .retuneQueue retuneQueueRule s)

end Sys2Proof.Machine
end

