-- ==== Sys2Proof/Machine/Engine.lean ====
section
/-! DEFINITION. The compatibility engine's slots, its requests and its two events (2.1, 2.4, 2.5). -/

namespace Sys2Proof.Machine

/-- The lowest-numbered EMPTY slot (R24, R25). -/
def freeSlot (s : State) : Option Nat := (indicesWhere s.engine.slots (· == .empty)).head?

/-- Accept a host request: the slot becomes QUEUED and the request joins the tail of the queue (R24, R25). -/
def queueHost (k : Nat) (job : Job) (s : State) : State := enqueue ⟨.host k, job⟩ (setSlot k (.queued job) s)

/-- CHECK.START (R24). -/
def checkStartRule (target : CheckTarget) (s : State) : Verdict :=
  let take (named : Option Nat) (c : Carrier) : Verdict :=
    match freeSlot s with
    | none => .refuse .busy
    | some k => .accept (.one (.index k) :: candidateItems named c) (queueHost k (.check named c) s)
  match target with
  | .explicit centre halfWidth group =>
    if 7 < group then .refuse .badField else take none ⟨clampStep centre, clampWidth halfWidth, group⟩
  | .record i =>
    if 95 < i then .refuse .badField
    else match (planRecord s i).carrier with
      | none => .refuse .badState
      | some c => take (some i) c

/-- CHECK_START -/
def execCheckStart (p : Port) (target : CheckTarget) (s : State) : Answer :=
  .next (takeRequest p .checkStart (checkStartRule target) s)

/-- FIND.START (R25). -/
def findStartRule (group lower upper step halfWidth limit : Nat) (s : State) : Verdict :=
  if 7 < group then .refuse .badField
  else match freeSlot s with
    | none => .refuse .busy
    | some k =>
      let q : Search :=
        ⟨group, clampStep lower, clampStep upper, clampWidth step, clampWidth halfWidth, clampLimit limit⟩
      .accept (.one (.index k) :: searchItems q) (queueHost k (.find q) s)

/-- FIND_START -/
def execFindStart (p : Port) (group lower upper step halfWidth limit : Nat) (s : State) : Answer :=
  .next (takeRequest p .findStart (findStartRule group lower upper step halfWidth limit) s)

/-- The requests that wait ahead of a slot's request (R30). -/
def aheadOf (k : Nat) (s : State) : Nat := (s.engine.queue.takeWhile fun r => r.client != .host k).length

/-- The running request's count of candidates evaluated and its stale flag (R23, R30). -/
def runningProgress (s : State) : Nat × Bool :=
  match s.engine.running with
  | some r => (r.evaluated, r.stale)
  | none => (0, false)

/-- CHECK.READ (R30). -/
def checkReadRule (k : Nat) (s : State) : Verdict :=
  if 3 < k then .refuse .badField
  else
    let slot := slotAt s k
    .accept (slotItems slot (aheadOf k s) (runningProgress s)) (match slot with
      | .done _ _ => setSlot k .empty s
      | _ => s)

/-- CHECK_READ -/
def execCheckRead (p : Port) (slot : Nat) (s : State) : Answer := .next (takeRequest p .checkRead (checkReadRule slot) s)

/-- CHECK.CANCEL (R31). After a running request is abandoned the engine starts the head of its queue, in the same event
(log entry 19). -/
def checkCancelRule (k : Nat) (s : State) : Verdict :=
  if 3 < k then .refuse .badField
  else match slotAt s k with
    | .empty => .refuse .badState
    | .queued _ =>
      .accept [] (setSlot k .empty { s with
        engine.queue := s.engine.queue.filter fun r => r.client != .host k })
    | .running _ =>
      .accept [] (startHead (setSlot k .empty { s with
        engine.running := s.engine.running.filter fun r => r.request.client != .host k }))
    | .done _ _ => .accept [] (setSlot k .empty s)

/-- CHECK_CANCEL -/
def execCheckCancel (p : Port) (slot : Nat) (s : State) : Answer :=
  .next (takeRequest p .checkCancel (checkCancelRule slot) s)

/-- ENGINE_START (R27): taken when no request runs and one waits (log entry 1), after a request has joined the queue of
an idle engine (log entry 19). -/
def execEngineStart (s : State) : Answer := .next (startHead s)

/-- The result of a check from its conflicts (R41). -/
def checkResult (cs : List Conflict) (stale : Bool) : CheckResult := ⟨countsOf cs, (worstOf cs).map recorded, stale⟩

/-- One candidate evaluation of the running request, and its completion where it decides the result (R28, R29,
R43, R44). -/
def evaluateRunning (s : State) : State :=
  match s.engine.running with
  | none => s
  | some r => match r.request.job with
    | .check named c => completeRequest r.request (.check (checkResult (conflicts s named c) r.stale)) s
    | .find q =>
      let c := searchCandidate q r.evaluated
      let cs := conflicts s none c
      let tried := r.evaluated + 1
      if cs.isEmpty then completeRequest r.request (.find ⟨some c.centre, tried, none, r.stale⟩) s
      else if searchStops q tried then
        completeRequest r.request (.find ⟨none, tried, (worstOf cs).map recorded, r.stale⟩) s
      else { s with engine.running := some { r with evaluated := tried } }

/-- CANDIDATE_EVALUATION (R28): taken while a request runs (log entry 1). -/
def execCandidateEvaluation (s : State) : Answer := .next (evaluateRunning s)

end Sys2Proof.Machine
end

