-- ==== Sys2Proof/Machine/FrequencyPlan.lean ====
section
/-! DEFINITION. The requests on band groups and plan records (Chapter 1). -/

namespace Sys2Proof.Machine

/-- GROUP.SET (R2). A switch byte that is neither on nor off is BAD_FIELD (log entry 11). -/
def groupSetRule (group lower upper spacingGuard productGuard twoTone threeTone searchStep searchLimit : Nat)
    (s : State) : Verdict :=
  if 7 < group then .refuse .badField
  else match onOffChoice twoTone, onOffChoice threeTone with
    | some two, some three =>
      let lo := clampStep lower
      let up := clampStep upper
      if up < lo then .refuse .badField
      else
        let g : BandGroup := ⟨lo, up, min Config.maxGuard spacingGuard, min Config.maxGuard productGuard, two, three,
          clampWidth searchStep, clampLimit searchLimit⟩
        .accept (groupItems g) (markStale { s with plan.groups := put s.plan.groups group g })
    | _, _ => .refuse .badField

/-- GROUP_SET -/
def execGroupSet (p : Port) (group lower upper spacingGuard productGuard twoTone threeTone searchStep searchLimit : Nat)
    (s : State) : Answer :=
  .next (takeRequest p .groupSet
    (groupSetRule group lower upper spacingGuard productGuard twoTone threeTone searchStep searchLimit) s)

/-- GROUP.GET (R3). -/
def groupGetRule (group : Nat) (s : State) : Verdict :=
  if 7 < group then .refuse .badField
  else .accept (groupItems (look s.plan.groups group) ++ [.one (.word (memberCount s group))]) s

/-- GROUP_GET -/
def execGroupGet (p : Port) (group : Nat) (s : State) : Answer := .next (takeRequest p .groupGet (groupGetRule group) s)

/-- The record would be added to the group's count: it is EMPTY, or in another group (R8, R16). -/
def joinsGroup (r : PlanRecord) (g : Nat) : Bool := !(inGroup g r)

/-- PLAN.PUT (R16). -/
def planPutRule (record state centre halfWidth group : Nat) (s : State) : Verdict :=
  if 95 < record || 7 < group then .refuse .badField
  else match putStateChoice state with
    | none => .refuse .badField
    | some build =>
      let r := planRecord s record
      if r.isOwn then .refuse .inUse
      else if joinsGroup r group && Config.groupCapacity ≤ memberCount s group then .refuse .groupFull
      else
        let r' := build ⟨clampStep centre, clampWidth halfWidth, group⟩
        .accept (planItems r') (markStale (setRecord record r' s))

/-- PLAN_PUT -/
def execPlanPut (p : Port) (record state centre halfWidth group : Nat) (s : State) : Answer :=
  .next (takeRequest p .planPut (planPutRule record state centre halfWidth group) s)

/-- PLAN.DROP (R17). -/
def planDropRule (record : Nat) (s : State) : Verdict :=
  if 95 < record then .refuse .badField
  else match planRecord s record with
    | .active _ _ | .handover _ _ => .refuse .inUse
    | .empty => .refuse .badState
    | .reserved _ | .foreign _ => .accept [] (markStale (setRecord record .empty s))

/-- PLAN_DROP -/
def execPlanDrop (p : Port) (record : Nat) (s : State) : Answer := .next (takeRequest p .planDrop (planDropRule record) s)

/-- PLAN.GET (R18). -/
def planGetRule (record : Nat) (s : State) : Verdict :=
  if 95 < record then .refuse .badField else .accept (planItems (planRecord s record)) s

/-- PLAN_GET -/
def execPlanGet (p : Port) (record : Nat) (s : State) : Answer := .next (takeRequest p .planGet (planGetRule record) s)

/-- The records that are not EMPTY, of one group where one is given (R19). -/
def listedRecords (s : State) (group : Option Nat) : List Nat :=
  indicesWhere s.plan.records fun r => match group with
    | none => r.carrier.isSome
    | some g => inGroup g r

/-- PLAN.LIST (R19). -/
def planListRule (group : Nat) (s : State) : Verdict :=
  let g := optIndex group
  if g.any (7 < ·) then .refuse .badField else .accept (indexList (listedRecords s g)) s

/-- PLAN_LIST -/
def execPlanList (p : Port) (group : Nat) (s : State) : Answer := .next (takeRequest p .planList (planListRule group) s)

end Sys2Proof.Machine
end

