-- ==== Sys2Proof/Machine/OccupancySurvey.lean ====
section
/-! DEFINITION. The occupancy survey: its requests and the filing of SAMPLE reports (Chapter 3). -/

namespace Sys2Proof.Machine

/-- Survey job `j`. -/
def jobAt (s : State) (j : Nat) : SurveyJob := look s.survey.jobs j

/-- Replace survey job `j`. -/
def setJob (j : Nat) (v : SurveyJob) (s : State) : State := { s with survey.jobs := put s.survey.jobs j v }

/-- The job is RUNNING. -/
def SurveyJob.isRunning : SurveyJob → Bool
  | .running _ => true
  | _ => false

/-- The job is RUNNING with the receiver. -/
def SurveyJob.runsOn (receiver : Nat) : SurveyJob → Bool
  | .running r => r.receiver == receiver
  | _ => false

/-- SURVEY.SETUP (R46). -/
def surveySetupRule (start width : Nat) (hot : Int) (s : State) : Verdict :=
  if (List.range 4).any fun j => (jobAt s j).isRunning then .refuse .busy
  else
    let w : SurveyWindow := ⟨clampStep start, clampWidth width, clampLevel hot⟩
    .accept (windowItems w) { s with survey.window := w, survey.bins := Vector.replicate 256 none }

/-- SURVEY_SETUP -/
def execSurveySetup (p : Port) (start width : Nat) (hot : Int) (s : State) : Answer :=
  .next (takeRequest p .surveySetup (surveySetupRule start width hot) s)

/-- The count of a job: 0, and any above 256, is taken as 256 (R51). -/
def jobCount (n : Nat) : Nat := if n = 0 then 256 else min 256 n

/-- SURVEY.START (R51). -/
def surveyStartRule (job receiver firstBin count mode : Nat) (watch : Int) (s : State) : Verdict :=
  if 3 < job || 15 < receiver || 255 < firstBin then .refuse .badField
  else match surveyModeChoice (clampLevel watch) mode with
    | none => .refuse .badField
    | some m =>
      if (jobAt s job).isRunning then .refuse .busy
      else if (List.range 4).any fun j => (jobAt s j).runsOn receiver then .refuse .inUse
      else
        let j : SurveyJob := .running ⟨receiver, firstBin, jobCount count, m⟩
        .accept (jobItems j) (setJob job j s)

/-- SURVEY_START -/
def execSurveyStart (p : Port) (job receiver firstBin count mode : Nat) (watch : Int) (s : State) : Answer :=
  .next (takeRequest p .surveyStart (surveyStartRule job receiver firstBin count mode watch) s)

/-- SURVEY.STOP (R52). -/
def surveyStopRule (job : Nat) (s : State) : Verdict :=
  if 3 < job then .refuse .badField
  else match jobAt s job with
    | .running r => .accept [] (setJob job (.ended r .stopped) s)
    | _ => .refuse .badState

/-- SURVEY_STOP -/
def execSurveyStop (p : Port) (job : Nat) (s : State) : Answer := .next (takeRequest p .surveyStop (surveyStopRule job) s)

/-- SURVEY.READ (R53). -/
def surveyReadRule (job : Nat) (s : State) : Verdict :=
  if 3 < job then .refuse .badField else .accept (jobItems (jobAt s job)) s

/-- SURVEY_READ -/
def execSurveyRead (p : Port) (job : Nat) (s : State) : Answer := .next (takeRequest p .surveyRead (surveyReadRule job) s)

/-- The indices from `first` to `last`, both ends included, in ascending order. -/
def indexRun (first last : Nat) : List Nat := (List.range (last + 1 - first)).map (first + ·)

/-- BINS.READ (R48). -/
def binsReadRule (first last : Nat) (s : State) : Verdict :=
  if 255 < first || 255 < last then .refuse .badField
  else if last < first then .refuse .badField
  else if Config.binsPerRead < last + 1 - first then .refuse .badField
  else .accept (windowItems s.survey.window ++
    (indexRun first last).map fun b => .one (.bin (look s.survey.bins b))) s

/-- BINS_READ -/
def execBinsRead (p : Port) (first last : Nat) (s : State) : Answer :=
  .next (takeRequest p .binsRead (binsReadRule first last) s)

/-- BINS.CLEAR (R49). -/
def binsClearRule (first last : Nat) (s : State) : Verdict :=
  if 255 < first || 255 < last || last < first then .refuse .badField
  else .accept [] { s with
    survey.bins := rewrite (fun b v => if first ≤ b && b ≤ last then none else v) s.survey.bins }

/-- BINS_CLEAR -/
def execBinsClear (p : Port) (first last : Nat) (s : State) : Answer :=
  .next (takeRequest p .binsClear (binsClearRule first last) s)

/-- A bin takes a sample (R47). -/
def fileInBin (x : Int) : Option Samples → Samples
  | none => ⟨1, x, x⟩
  | some b => ⟨min Config.countStop (b.count + 1), x, max b.peak x⟩

/-- The state of a job after filing a sample: its end tests (R55). `r` has its new pointer and remaining. -/
def afterFiling (r : JobRun) (bin : Nat) (x : Int) : SurveyJob :=
  if r.remaining = 0 then .ended r .count
  else match r.mode with
    | .sweep => .running r
    | .watch level => if level ≤ x then .ended r (.watchHit bin) else .running r

/-- A RUNNING job files a sample (R54, R55). -/
def fileSample (j : Nat) (r : JobRun) (x : Int) (s : State) : State :=
  let r' : JobRun := { r with pointer := if r.pointer = 255 then 0 else r.pointer + 1, remaining := r.remaining - 1 }
  let job := afterFiling r' r.pointer x
  let s := setJob j job { s with
    survey.bins := put s.survey.bins r.pointer (some (fileInBin x (look s.survey.bins r.pointer))) }
  if job.isRunning then s else raise .surveyEnd s

/-- A well-formed SAMPLE report is filed by the RUNNING job of its receiver, or discarded (R54, R56). -/
def takeSample (receiver : Nat) (x : Int) (s : State) : State :=
  match (List.range 4).find? fun j => (jobAt s j).runsOn receiver with
  | none => s
  | some j => match jobAt s j with
    | .running r => fileSample j r x s
    | _ => s

/-- SAMPLE: malformed content is discarded (R191), and the level clamped (R54). -/
def execSample (receiver : Nat) (level : Int) (s : State) : Answer :=
  .next (if contentMalformed (.sample receiver level) then discardMalformed .receiver s
    else takeSample receiver (clampLevel level) (completeMessage .receiver s))

end Sys2Proof.Machine
end

