-- ==== Sys2Proof/Machine/TallyUnit.lean ====
section
/-! DEFINITION. The tally unit: sources, map, overrides, cue states, echo comparison and lamp lines (Chapter 7). -/

namespace Sys2Proof.Machine

/-- The flags of a mixer source (R119). -/
def sourceFlags (s : State) (a : Nat) : SourceFlags := look s.tally.sources a

/-- The tally map's entry of a source; `none` is NONE (R121). -/
def mapEntry (s : State) (a : Nat) : Option Nat := look s.tally.map a

/-- The cue state held for a link (R124). -/
def heldCue (s : State) (l : Nat) : Cue := look s.tally.cues l

/-- The sources mapped to a link, in ascending order (R124, R136). -/
def mappedSources (s : State) (l : Nat) : List Nat := (List.range 64).filter fun a => mapEntry s a == some l

/-- Some mapped source of the link has the flag. -/
def anyMapped (s : State) (l : Nat) (flag : SourceFlags → Bool) : Bool :=
  (mappedSources s l).any fun a => flag (sourceFlags s a)

/-- The talk flag: the holder of the link's feed arbiter is a key (R124). -/
def feedIsKey (s : State) (l : Nat) : Bool := (look s.talk.arbiters l).holder.isSome

/-- The cue state of a link, computed from its inputs (R124). -/
def computedCue (s : State) (l : Nat) : Cue :=
  match entry s l with
  | .enrolled e =>
    let talk := feedIsKey s l
    let iso := anyMapped s l SourceFlags.iso
    match e.tally with
    | .auto =>
      ⟨if anyMapped s l SourceFlags.programme then .program
        else if anyMapped s l SourceFlags.preview then .preview
        else .off, iso, talk⟩
    | .program => ⟨.program, iso, talk⟩
    | .preview => ⟨.preview, iso, talk⟩
    | .dark => ⟨.off, false, talk⟩
  | _ => .allOff

/-- A cue change of the link is delivered: it is an ENROLLED CAMERA in LIVE or FADING (R127). -/
def cueDelivered (s : State) (l : Nat) : Bool :=
  isCamera s l && match enrolledLink s l with
    | some e => e.presence == .live || e.presence == .fading
    | none => false

/-- Recompute a link's cue state; a change replaces the one held and sets CUE pending as R127 states (R125). -/
def recomputeCue (l : Nat) (s : State) : State :=
  let c := computedCue s l
  if c = heldCue s l then s
  else
    let s := { s with tally.cues := put s.tally.cues l c }
    if cueDelivered s l then setCuePending l s else s

/-- Recompute the cue states of several links, one after another. -/
def recomputeCues (ls : List Nat) (s : State) : State := ls.foldl (fun s l => recomputeCue l s) s

/-! ## Lamp lines -/

/-- Lamp line record `n` (R133). -/
def lampLine (s : State) (n : Nat) : LampLine := look s.tally.lamps n

/-- The cue state shows the colour of a lamp line (R134). -/
def showsColour (c : Cue) : LampColour → Bool
  | .program => c.colour == .program
  | .preview => c.colour == .preview
  | .iso => c.iso
  | .talk => c.talk

/-- A lamp line is lit (R134). -/
def lampLit (s : State) (n : Nat) : Bool :=
  let r := lampLine s n
  match r.link with
  | none => false
  | some l => (entry s l).isEnrolled && showsColour (heldCue s l) r.colour

/-- The pin of a lamp line by its drive, active level and lit state (R134). -/
def pinOf (drive : LampDrive) (active : PinLevel) (lit : Bool) : PinState :=
  match drive, active, lit with
  | .off, _, _ => .released
  | .pushPull, .high, true => .drivenHigh
  | .pushPull, .high, false => .drivenLow
  | .pushPull, .low, true => .drivenLow
  | .pushPull, .low, false => .drivenHigh
  | .openDrain, .low, true => .pulledLow
  | .openDrain, .low, false => .released
  | .openDrain, .high, true => .released
  | .openDrain, .high, false => .pulledLow

/-- The pin of lamp line `n` (R134). -/
def lampPin (s : State) (n : Nat) : PinState :=
  let r := lampLine s n
  pinOf r.drive r.activeLevel (lampLit s n)

/-! ## Echo -/

/-- Write the echo mismatch count of an enrolled CAMERA (R132). -/
def setMismatch (l count : Nat) (s : State) : State :=
  updateLink l (fun e => { e with role := match e.role with
    | .camera o _ => .camera o count
    | .mic => .mic }) s

/-- The message in flight is a CUE for the link (R130, R168). -/
def cueInFlight (s : State) (l : Nat) : Bool :=
  match s.ret.inFlight with
  | some m => m.link == l && (match m.content with
    | .cue _ => true
    | _ => false)
  | none => false

/-- A CUE is pending or in flight for the link (R130). -/
def cueOnTheWay (s : State) (l : Nat) : Bool := s.ret.cuePending.contains l || cueInFlight s l

/-- The echo comparison (R129, R130). A report without an echo, and a link that is no CAMERA, have none. -/
def compareEcho (l : Nat) (echo : Option Cue) (s : State) : State :=
  match enrolledLink s l, echo with
  | some e, some c => match e.role with
    | .mic => s
    | .camera _ count =>
      if c = heldCue s l then setMismatch l 0 s
      else if cueOnTheWay s l then s
      else
        let n := min Config.countStop (count + 1)
        let s := setCuePending l (setMismatch l n s)
        if n = Config.tallyFaultCount then raise .tallyFault s else s
  | _, _ => s

/-! ## Commands -/

/-- A well-formed mixer tally message (R120). -/
def takeTally (a : Nat) (f : SourceFlags) (s : State) : State :=
  if f = sourceFlags s a then s
  else
    let s := { s with tally.sources := put s.tally.sources a f }
    match mapEntry s a with
    | some l => recomputeCue l s
    | none => s

/-- MIXER_TALLY_MESSAGE (R120, R191). -/
def execMixerTallyMessage (source flags : Nat) (s : State) : Answer :=
  .next (if contentMalformed (.mixerTallyMessage source flags) then discardMalformed .mixer s
    else takeTally source (flagsOfByte flags) (completeMessage .mixer s))

/-- TALLY.MAP (R121). -/
def tallyMapRule (source link : Nat) (s : State) : Verdict :=
  let l := optIndex link
  if 63 < source || l.any (63 < ·) then .refuse .badField
  else
    let before := mapEntry s source
    let s := { s with tally.map := put s.tally.map source l }
    .accept [.one (optIndexField l)] (recomputeCues (before.toList ++ l.toList) s)

/-- TALLY_MAP -/
def execTallyMap (p : Port) (source link : Nat) (s : State) : Answer :=
  .next (takeRequest p .tallyMap (tallyMapRule source link) s)

/-- TALLY.OVERRIDE (R123). -/
def tallyOverrideRule (link setting : Nat) (s : State) : Verdict :=
  if 63 < link then .refuse .badField
  else match overrideChoice setting with
    | none => .refuse .badField
    | some o => match entry s link with
      | .enrolled e =>
        let s := recomputeCue link (setEntry link (.enrolled { e with tally := o }) s)
        .accept [.one (.choice (overrideNumber o)), .one (.cue (heldCue s link))] s
      | _ => .refuse .badState

/-- TALLY_OVERRIDE -/
def execTallyOverride (p : Port) (link setting : Nat) (s : State) : Answer :=
  .next (takeRequest p .tallyOverride (tallyOverrideRule link setting) s)

/-- TALLY.SOURCES (R122). -/
def tallySourcesRule (first last : Nat) (s : State) : Verdict :=
  if 63 < first || 63 < last || last < first then .refuse .badField
  else .accept ((indexRun first last).flatMap fun a =>
    [.one (.flags (sourceFlags s a)), .one (optIndexField (mapEntry s a))]) s

/-- TALLY_SOURCES -/
def execTallySources (p : Port) (first last : Nat) (s : State) : Answer :=
  .next (takeRequest p .tallySources (tallySourcesRule first last) s)

/-- What TALLY.GET carries (R136). -/
def tallyItems (s : State) (l : Nat) : List Item :=
  let sources := mappedSources s l
  let e := enrolledLink s l
  let mismatch : Option Nat := e.bind fun e => match e.role with
    | .camera _ m => some m
    | .mic => none
  [.one (.choice (lifecycleNumber (entry s l))), .one (.cue (heldCue s l)), .one (.size sources.length)]
    ++ (sources.flatMap fun a => [.one (.index a), .one (.flags (sourceFlags s a))])
    ++ [.optional [maybe (fun e => .choice (overrideNumber e.tally)) e, maybe .word mismatch,
        maybe (fun _ => .flag (s.ret.cuePending.contains l)) mismatch,
        maybe (fun _ => .flag (cueInFlight s l)) mismatch]]

/-- TALLY.GET (R136). -/
def tallyGetRule (link : Nat) (s : State) : Verdict :=
  if 63 < link then .refuse .badField else .accept (tallyItems s link) s

/-- TALLY_GET -/
def execTallyGet (p : Port) (link : Nat) (s : State) : Answer := .next (takeRequest p .tallyGet (tallyGetRule link) s)

/-- LAMP.SET (R133). -/
def lampSetRule (line link colour drive activeLevel : Nat) (s : State) : Verdict :=
  let l := optIndex link
  if 15 < line || l.any (63 < ·) then .refuse .badField
  else match lampColourChoice colour, driveChoice drive, pinLevelChoice activeLevel with
    | some c, some d, some v =>
      let r : LampLine := ⟨l, c, d, v⟩
      let s := { s with tally.lamps := put s.tally.lamps line r }
      .accept (lampItems r (lampLit s line) (lampPin s line)) s
    | _, _, _ => .refuse .badField

/-- LAMP_SET -/
def execLampSet (p : Port) (line link colour drive activeLevel : Nat) (s : State) : Answer :=
  .next (takeRequest p .lampSet (lampSetRule line link colour drive activeLevel) s)

/-- LAMP.GET (R135). -/
def lampGetRule (line : Nat) (s : State) : Verdict :=
  if 15 < line then .refuse .badField
  else .accept (lampItems (lampLine s line) (lampLit s line) (lampPin s line)) s

/-- LAMP_GET -/
def execLampGet (p : Port) (line : Nat) (s : State) : Answer := .next (takeRequest p .lampGet (lampGetRule line) s)

end Sys2Proof.Machine
end

