-- ==== Sys2Proof/Machine/TalkbackFeeds.lean ====
section
/-! DEFINITION. The talkback feed unit: keys, feed arbiters, key status and matrix orders (Chapter 8). -/

namespace Sys2Proof.Machine

/-- Key `k` (R137). -/
def keyAt (s : State) (k : Nat) : Key := look s.talk.keys k

/-- Replace key `k`. -/
def setKey (k : Nat) (v : Key) (s : State) : State := { s with talk.keys := put s.talk.keys k v }

/-- The feed arbiter of a link (R142). -/
def arbiterAt (s : State) (l : Nat) : Arbiter := look s.talk.arbiters l

/-- Replace the feed arbiter of a link. -/
def setArbiter (l : Nat) (v : Arbiter) (s : State) : State := { s with talk.arbiters := put s.talk.arbiters l v }

/-! ## Matrix orders -/

/-- Place an order for an output: it joins the pending set or replaces the output's pending order (R155). -/
def placeOrder (output : Nat) (input : MatrixInput) (s : State) : State :=
  { s with talk.orders := put s.talk.orders output (some input) }

/-- What an arbiter's return audio carries: its holder's source, or its default input, NONE meaning mute
(R147). -/
def feedInput (s : State) (a : Arbiter) : MatrixInput :=
  match a.holder with
  | some k => .input (keyAt s k).source
  | none => matrixInputOf a.defaultInput

/-- Place the order of a link's arbiter for its return audio output, when it is an eligible destination (R147). -/
def orderFeed (l : Nat) (s : State) : State :=
  match cameraOutput s l with
  | some o => placeOrder o (feedInput s (arbiterAt s l)) s
  | none => s

/-! ## Roles -/

/-- The key holds the saved or pending role in a list. -/
def waits (k : Nat) (l : List Waiter) : Bool := l.any fun w => w.key == k

/-- The key holds a role at an arbiter (R144). -/
def hasRole (k : Nat) (a : Arbiter) : Bool := a.holder == some k || waits k a.saved || waits k a.waiting

/-- Remove a key from a stack or pending set; the order of the others is kept (R145). -/
def dropWaiter (k : Nat) (l : List Waiter) : List Waiter := l.filter fun w => w.key != k

/-- Add a key to the pending set, which stands in ascending key order (R144, R151). -/
def addWaiter (w : Waiter) : List Waiter → List Waiter
  | [] => [w]
  | v :: vs => if w.key < v.key then w :: v :: vs else v :: addWaiter w vs

/-- A request by key `k` at the arbiter of an eligible destination (R144). -/
def requestFeed (k l : Nat) (s : State) : State :=
  let a := arbiterAt s l
  let key := keyAt s k
  if hasRole k a then s
  else match a.holder with
    | none => orderFeed l (setArbiter l { a with holder := some k } s)
    | some h =>
      let holder := keyAt s h
      if key.level < holder.level && !holder.locked then
        orderFeed l (setArbiter l { a with holder := some k, saved := ⟨h, holder.level⟩ :: a.saved } s)
      else setArbiter l { a with waiting := addWaiter ⟨k, key.level⟩ a.waiting } s

/-- The numerically lowest level among the candidates of a selection: the saved top and the pending keys (R146). -/
def bestLevel (a : Arbiter) : Option Nat := ((a.saved.head?.toList ++ a.waiting).map Waiter.level).min?

/-- The pending key that wins at a level: the first after the last granted key of the level, in cyclic order
(R146). -/
def waitingWinner (a : Arbiter) (level : Nat) : Option Nat :=
  cyclicNext (look a.lastGranted level) ((a.waiting.filter fun w => w.level == level).map Waiter.key)

/-- Selection at an arbiter whose holder role is vacated (R146). -/
def selectHolder (a : Arbiter) : Arbiter :=
  match bestLevel a with
  | none => { a with holder := none }
  | some level =>
    match a.saved with
    | top :: rest =>
      if top.level = level then { a with holder := some top.key, saved := rest } else grantWaiting a level
    | [] => grantWaiting a level
where
  /-- The winner leaves the pending set, becomes the holder and is the last granted key of its level. -/
  grantWaiting (a : Arbiter) (level : Nat) : Arbiter :=
    match waitingWinner a level with
    | none => { a with holder := none }
    | some k =>
      { a with holder := some k, waiting := dropWaiter k a.waiting, lastGranted := put a.lastGranted level (some k) }

/-- A withdrawal by key `k` at the arbiter of a destination (R145). -/
def withdrawFeed (k l : Nat) (s : State) : State :=
  let a := arbiterAt s l
  if a.holder = some k then orderFeed l (setArbiter l (selectHolder a) s)
  else if waits k a.saved then setArbiter l { a with saved := dropWaiter k a.saved } s
  else if waits k a.waiting then setArbiter l { a with waiting := dropWaiter k a.waiting } s
  else s

/-- A cleared arbiter keeps its default input (R149). -/
def clearedArbiter (a : Arbiter) : Arbiter := { Arbiter.reset with defaultInput := a.defaultInput }

/-! ## Key status -/

/-- The eligible destinations of a key, in ascending order (R137). -/
def eligibleDestinations (s : State) (k : Nat) : List Nat := (keyAt s k).destinations.filter (isCamera s)

/-- The status of a key by its active state and its roles (R152). -/
def computedStatus (s : State) (k : Nat) : KeyStatus :=
  if (keyAt s k).active then
    let ds := eligibleDestinations s k
    let held := ds.filter fun l => (arbiterAt s l).holder == some k
    if held.isEmpty then .waiting else if held.length = ds.length then .full else .partly
  else .idle

/-- Recompute a key's status at the end of an event; a change sets its status pending flag (R152). -/
def refreshStatus (k : Nat) (s : State) : State :=
  let v := computedStatus s k
  let key := keyAt s k
  if v = key.status then s else setKey k { key with status := v, statusPending := true } s

/-- Recompute every key's status at the end of an event (R152). -/
def refreshStatuses (s : State) : State := (List.range 32).foldl (fun s k => refreshStatus k s) s

/-! ## Keys going down and up -/

/-- A key becomes active: it requests its eligible destinations in ascending order; the cue states and the key
statuses follow at the end of the event (R141, R147, R152). -/
def activateKey (k : Nat) (s : State) : State :=
  let s := setKey k { keyAt s k with active := true } s
  let ds := eligibleDestinations s k
  refreshStatuses (recomputeCues ds (ds.foldl (fun s l => requestFeed k l s) s))

/-- A key becomes inactive: it withdraws from its destinations in ascending order (R141). -/
def deactivateKey (k : Nat) (s : State) : State :=
  let s := setKey k { keyAt s k with active := false } s
  let ds := eligibleDestinations s k
  refreshStatuses (recomputeCues ds (ds.foldl (fun s l => withdrawFeed k l s) s))

/-- A key goes down (R139). -/
def pressKey (k : Nat) (s : State) : State :=
  let key := keyAt s k
  match key.mode, key.active with
  | _, false => activateKey k s
  | .latch, true => deactivateKey k s
  | .momentary, true => s

/-- A key goes up (R140). -/
def liftKey (k : Nat) (s : State) : State :=
  let key := keyAt s k
  match key.mode, key.active with
  | .momentary, true => deactivateKey k s
  | _, _ => s

/-! ## Eligibility -/

/-- A newly enrolled CAMERA's arbiter is seeded: the default order, then the requests of the active keys whose
destinations contain the link, in ascending key order (R148). -/
def seedArbiter (l : Nat) (s : State) : State :=
  let s := orderFeed l (setArbiter l (clearedArbiter (arbiterAt s l)) s)
  let ks := indicesWhere s.talk.keys fun key => key.active && key.destinations.contains l
  ks.foldl (fun s k => requestFeed k l s) s

/-- The arbiter of a CAMERA that is retired or erased is cleared, and its output muted (R149). -/
def clearArbiter (l output : Nat) (s : State) : State :=
  placeOrder output .mute (setArbiter l (clearedArbiter (arbiterAt s l)) s)

/-! ## Commands -/

/-- KEY.SET (R138). A locked byte that is neither yes nor no is BAD_FIELD (log entry 11). -/
def keySetRule (key level mode locked source : Nat) (destinations : List Nat) (s : State) : Verdict :=
  if 31 < key || 127 < source || destinations.any (63 < ·) || 64 < destinations.length || !destinations.Nodup then
    .refuse .badField
  else match keyModeChoice mode, flagChoice locked with
    | some m, some lk =>
      let k := keyAt s key
      if k.active then .refuse .busy
      else
        let k' : Key := { k with
          level := min 7 level, mode := m, locked := lk, source := source,
          destinations := (List.range 64).filter destinations.contains }
        .accept (keyItems k') (setKey key k' s)
    | _, _ => .refuse .badField

/-- KEY_SET -/
def execKeySet (p : Port) (key level mode locked source : Nat) (destinations : List Nat) (s : State) : Answer :=
  .next (takeRequest p .keySet (keySetRule key level mode locked source destinations) s)

/-- What KEY.PRESS and KEY.LIFT carry: the key's active state and status after the event (R139, R140). -/
def pressedItems (s : State) (k : Nat) : List Item :=
  [.one (.flag (keyAt s k).active), .one (.choice (statusOfKeyNumber (keyAt s k).status))]

/-- KEY_DOWN (R139, R191). -/
def execKeyDown (key : Nat) (s : State) : Answer :=
  .next (if contentMalformed (.keyDown key) then discardMalformed .keypanel s
    else pressKey key (completeMessage .keypanel s))

/-- KEY.PRESS (R139). -/
def keyPressRule (key : Nat) (s : State) : Verdict :=
  if 31 < key then .refuse .badField
  else .accept (pressedItems (pressKey key s) key) (pressKey key s)

/-- KEY_PRESS -/
def execKeyPress (p : Port) (key : Nat) (s : State) : Answer := .next (takeRequest p .keyPress (keyPressRule key) s)

/-- KEY_UP (R140, R191). -/
def execKeyUp (key : Nat) (s : State) : Answer :=
  .next (if contentMalformed (.keyUp key) then discardMalformed .keypanel s
    else liftKey key (completeMessage .keypanel s))

/-- KEY.LIFT (R140). -/
def keyLiftRule (key : Nat) (s : State) : Verdict :=
  if 31 < key then .refuse .badField
  else .accept (pressedItems (liftKey key s) key) (liftKey key s)

/-- KEY_LIFT -/
def execKeyLift (p : Port) (key : Nat) (s : State) : Answer := .next (takeRequest p .keyLift (keyLiftRule key) s)

/-- The role a key holds at a destination, numbered in the order of R154: holder, saved, pending or none (log
entry 21). -/
def roleNumber (k : Nat) (a : Arbiter) : Nat :=
  if a.holder = some k then 0 else if waits k a.saved then 1 else if waits k a.waiting then 2 else 3

/-- What KEY.GET lists while the key is active (R154): a list of the eligible destinations, each as its link index and
the role there. That the link index stands before each role is the model's choice (log entry 10). -/
def rolesField (s : State) (k : Nat) : List Field :=
  if (keyAt s k).active then
    let ds := eligibleDestinations s k
    .size ds.length :: ds.flatMap fun l => [.index l, .choice (roleNumber k (arbiterAt s l))]
  else []

/-- KEY.GET (R154). -/
def keyGetRule (key : Nat) (s : State) : Verdict :=
  if 31 < key then .refuse .badField
  else .accept (keyItems (keyAt s key) ++ [.optional [rolesField s key]]) s

/-- KEY_GET -/
def execKeyGet (p : Port) (key : Nat) (s : State) : Answer := .next (takeRequest p .keyGet (keyGetRule key) s)

/-- FEED.DEFAULT (R143). "The arbiter as it stands" is answered with the items of FEED.GET: eligibility, output and
the five fields (log entry 10). -/
def feedDefaultRule (link input : Nat) (s : State) : Verdict :=
  let i := optIndex input
  if 63 < link || i.any (127 < ·) then .refuse .badField
  else
    let a : Arbiter := { arbiterAt s link with defaultInput := i }
    let s := setArbiter link a s
    let s := if a.holder = none then orderFeed link s else s
    .accept (arbiterItems (cameraOutput s link) a) s

/-- FEED_DEFAULT -/
def execFeedDefault (p : Port) (link input : Nat) (s : State) : Answer :=
  .next (takeRequest p .feedDefault (feedDefaultRule link input) s)

/-- FEED.GET (R151). -/
def feedGetRule (link : Nat) (s : State) : Verdict :=
  if 63 < link then .refuse .badField else .accept (arbiterItems (cameraOutput s link) (arbiterAt s link)) s

/-- FEED_GET -/
def execFeedGet (p : Port) (link : Nat) (s : State) : Answer := .next (takeRequest p .feedGet (feedGetRule link) s)

/-- What MATRIX.GET carries, in the order of R159: the output's pending order and confirmed input, whether the order
in flight is for this output, that order's input and deadline, and the last served output. The output's record and the
order in flight are two records, each with its own presence byte (log entry 10). -/
def matrixItems (s : State) (o : Nat) : List Item :=
  let flight := s.talk.orderInFlight.filter fun f => f.output == o
  [.optional [maybe matrixField (look s.talk.orders o), maybe matrixField (look s.talk.confirmed o)],
   .one (.flag flight.isSome),
   .optional [maybe (fun f => matrixField f.input) flight, maybe (fun f => .clock f.deadline) flight],
   .one (optIndexField s.talk.lastServed)]

/-- MATRIX.GET (R159). -/
def matrixGetRule (output : Nat) (s : State) : Verdict :=
  if 127 < output then .refuse .badField else .accept (matrixItems s output) s

/-- MATRIX_GET -/
def execMatrixGet (p : Port) (output : Nat) (s : State) : Answer :=
  .next (takeRequest p .matrixGet (matrixGetRule output) s)

/-- The keypanel port begins a send when it is not transmitting and a status pending flag is set (R153). -/
def startKeyStatus (s : State) : State :=
  match s.talk.sending, (indicesWhere s.talk.keys Key.statusPending).head? with
  | none, some k =>
    let key := keyAt s k
    let s := setKey k { key with statusPending := false } s
    { s with talk.sending := some ⟨k, key.status⟩ }
  | _, _ => s

/-- KEY_STATUS_SEND_START (R153; log entry 1). -/
def execKeyStatusSendStart (s : State) : Answer := .next (startKeyStatus s)

/-- KEY_STATUS_SEND_END (R153): the port is free for the next. -/
def execKeyStatusSendEnd (s : State) : Answer := .next { s with talk.sending := none }

/-- The matrix order port begins a send when it has no order in flight and an order is pending (R156). -/
def startOrder (s : State) : State :=
  match s.talk.orderInFlight, cyclicNext s.talk.lastServed (indicesWhere s.talk.orders Option.isSome) with
  | none, some o =>
    match look s.talk.orders o with
    | some i =>
      { s with
        talk.orders := put s.talk.orders o none
        talk.orderInFlight := some ⟨o, i, deadlineAfter Config.orderTime s⟩
        talk.lastServed := some o }
    | none => s
  | _, _ => s

/-- ORDER_SEND_START (R156; log entry 1). -/
def execOrderSendStart (s : State) : Answer := .next (startOrder s)

/-- A well-formed ORDER ACK ends the order in flight that it names, and is otherwise discarded (R157). -/
def takeOrderAck (output : Nat) (input : MatrixInput) (s : State) : State :=
  match s.talk.orderInFlight with
  | some f =>
    if f.output = output ∧ f.input = input then
      { s with talk.orderInFlight := none, talk.confirmed := put s.talk.confirmed output (some input) }
    else s
  | none => s

/-- ORDER_ACK (R157, R191). -/
def execOrderAck (output input : Nat) (s : State) : Answer :=
  .next (if contentMalformed (.orderAck output input) then discardMalformed .matrix s
    else takeOrderAck output (matrixInputOf (optIndex input)) (completeMessage .matrix s))

/-- ORDER_TIMEOUT (R158): taken when the deadline of the order in flight is reached (log entry 1). -/
def execOrderTimeout (s : State) : Answer :=
  .next (match s.talk.orderInFlight with
    | some f =>
      if reached f.deadline s.clock then
        raise .matrixFault { s with
          talk.orderInFlight := none, talk.confirmed := put s.talk.confirmed f.output none }
      else s
    | none => s)

end Sys2Proof.Machine
end

