-- ==== Sys2Proof/Machine/ReturnPort.lean ====
section
/-! DEFINITION. The return scheduler: pass-through data, the start and the end of a send (Chapter 9). -/

namespace Sys2Proof.Machine

/-! ## Pass-through -/

/-- RETURN.PASS (R165): the response carries the number of entries ahead of the new one, in two bytes (log
entry 8). -/
def returnPassRule (link : Nat) (payload : List Byte) (s : State) : Verdict :=
  if 63 < link || payload.isEmpty || Config.passBytes < payload.length then .refuse .badField
  else if !(isCamera s link) then .refuse .badState
  else if Config.passCapacity ≤ s.ret.passQueue.length then .refuse .full
  else .accept [.one (.word s.ret.passQueue.length)]
    { s with ret.passQueue := s.ret.passQueue ++ [⟨link, payload⟩] }

/-- RETURN_PASS -/
def execReturnPass (p : Port) (link : Nat) (payload : List Byte) (s : State) : Answer :=
  .next (takeRequest p .returnPass (returnPassRule link payload) s)

/-- The entries of the PASS queue for a link are removed, the order of the others kept (R164). -/
def removePasses (l : Nat) (s : State) : State :=
  { s with ret.passQueue := s.ret.passQueue.filter fun e => e.link != l }

/-- What RETURN.GET carries (R172). -/
def returnItems (r : ReturnScheduler) : List Item :=
  indexList r.tunePending ++ indexList r.cuePending
    ++ [.one (optIndexField r.lastTune), .one (optIndexField r.lastCue), .one (.size r.passQueue.length)]
    ++ (r.passQueue.flatMap fun e => [.one (.index e.link), .one (.size e.payload.length)])
    ++ [.one (.small r.sendNumber), flyingItems r.inFlight]

/-- RETURN.GET (R172). -/
def returnGetRule (s : State) : Verdict := .accept (returnItems s.ret) s

/-- RETURN_GET -/
def execReturnGet (p : Port) (s : State) : Answer := .next (takeRequest p .returnGet returnGetRule s)

/-! ## Sending -/

/-- The new carrier of a link in ORDERED (4.1). -/
def newCarrierOf (s : State) (l : Nat) : Option Nat :=
  match enrolledLink s l with
  | some e => match e.phase with
    | .ordered _ n => some n
    | _ => none
  | none => none

/-- The content of a TUNE (R167): the centre and half width of the link's new carrier. A link with a TUNE pending
has one (R162; log entry 12). -/
def tuneContent (s : State) (l : Nat) : Content :=
  let c := (((newCarrierOf s l).map (planRecord s)).bind PlanRecord.carrier).getD default
  .tune c.centre c.halfWidth

/-- Put a message in flight (R167): it takes the send number, which rises by 1 and goes from 255 to 0. -/
def fly (l : Nat) (content : Content) (s : State) : State :=
  { s with
    ret.inFlight := some ⟨l, s.ret.sendNumber, content, deadlineAfter Config.messageTime s⟩
    ret.sendNumber := (s.ret.sendNumber + 1) % 256 }

/-- The return port starts a send when it has no message in flight and something waits: a TUNE before a CUE, a CUE
before a PASS, links of one kind in rotation (R166). -/
def startReturn (s : State) : State :=
  match s.ret.inFlight with
  | some _ => s
  | none => match cyclicNext s.ret.lastTune s.ret.tunePending with
    | some l => fly l (tuneContent s l) (removeTunePending l { s with ret.lastTune := some l })
    | none => match cyclicNext s.ret.lastCue s.ret.cuePending with
      | some l => fly l (.cue (heldCue s l)) (removeCuePending l { s with ret.lastCue := some l })
      | none => match s.ret.passQueue with
        | [] => s
        | e :: rest => fly e.link (.pass e.payload) { s with ret.passQueue := rest }

/-- RETURN_SEND_START (R166, R167; log entry 1). -/
def execReturnSendStart (s : State) : Answer := .next (startReturn s)

/-! ## The end of a message -/

/-- DONE ends the message in flight that has its number, and is otherwise discarded (R169). -/
def takeDone (number : Nat) (s : State) : State :=
  match s.ret.inFlight with
  | some m => if m.number = number then { s with ret.inFlight := none } else s
  | none => s

/-- DONE (R169); every send number is well formed (R191). -/
def execDoneMessage (number : Nat) (s : State) : Answer := .next (takeDone number (completeMessage .ret s))

/-- The link is an enrolled CAMERA in ORDERED (R162, R170). -/
def tuneWanted (s : State) (l : Nat) : Bool := isCamera s l && (newCarrierOf s l).isSome

/-- The abandoned message's link is set pending again, by the message's kind (R170). -/
def requeue (m : FlyingMessage) (s : State) : State :=
  match m.content with
  | .tune _ _ => if tuneWanted s m.link then setTunePending m.link s else s
  | .cue _ => if cueDelivered s m.link then setCuePending m.link s else s
  | .pass _ => s

/-- RETURN_TIMEOUT (R170): taken when the deadline of the message in flight is reached (log entry 1). -/
def execReturnTimeout (s : State) : Answer :=
  .next (match s.ret.inFlight with
    | some m =>
      if reached m.deadline s.clock then requeue m (raise .returnFault { s with ret.inFlight := none }) else s
    | none => s)

end Sys2Proof.Machine
end

