-- ==== Sys2Proof/Machine/Presence.lean ====
section
/-! DEFINITION. The presence supervisor: deadlines, reports on an enrolled link, expiries and the reading of timers
(Chapter 5), and the capture slot that a mistuned report fills (4.4). -/

namespace Sys2Proof.Machine

/-! ## Deadlines -/

/-- The fade deadline: last good plus the fade time, watched in LIVE (R83). -/
def fadeDeadline (e : EnrolledLink) : Option Clock :=
  match e.presence with
  | .live => e.lastGood.map fun t => t + BitVec.ofNat 32 e.settings.fadeTime
  | _ => none

/-- Last heard plus the loss time (R83). -/
def lossTimeEnd (e : EnrolledLink) : Option Clock := e.lastHeard.map fun t => t + BitVec.ofNat 32 e.settings.lossTime

/-- The loss deadline: watched in LIVE and FADING (R83). -/
def lossDeadline (e : EnrolledLink) : Option Clock :=
  match e.presence with
  | .live | .fading => lossTimeEnd e
  | _ => none

/-- A deadline that is watched is reached (R80). -/
def watchedReached (d : Option Clock) (s : State) : Bool := d.any fun d => reached d s.clock

/-! ## The capture slot -/

/-- A capture event (R67): the slot takes the report, "more" is set when it was full, and the kind's cause is
raised. Level and margin are clamped as the report is taken (R191). -/
def capture (kind : CaptureKind) (r : HeardReport) (s : State) : State :=
  let c : Capture := {
    kind := kind, ident := r.ident, reportedKind := reportKind r, receiver := r.receiver, freq := r.freq,
    level := clampLevel r.level, margin := clampMargin r.margin, time := s.clock, more := s.dir.capture.isSome }
  raise (match kind with
    | .unknown => .heardUnknown
    | .mistuned => .mistuned) { s with dir.capture := some c }

/-! ## Presence -/

/-- Write a link's presence. A change adds the link to the changed-link set; a change into or out of LOST raises
PRESENCE; an entry of a CAMERA into LIVE sets CUE pending (R84, R85, R127). -/
def setPresence (l : Nat) (p : Presence) (s : State) : State :=
  match enrolledLink s l with
  | none => s
  | some e =>
    if e.presence = p then s
    else
      let s := markChanged l (updateLink l (fun e => { e with presence := p }) s)
      let s := if e.presence = .lost || p = .lost then raise .presence s else s
      if p = .live && isCamera s l then setCuePending l s else s

/-- Stop the retune-delay timer (R96). -/
def stopDelay (l : Nat) (s : State) : State := updateLink l (fun e => { e with delayTimer := none }) s

/-- The presence fields that every report on a carrier writes (R87, R88). -/
def noteReport (l receiver margin : Nat) (s : State) : State :=
  updateLink l (fun e => { e with
    lastHeard := some s.clock, bestReceiver := some receiver, lastMargin := some margin }) s

/-- A good report (R87). -/
def goodReport (l receiver margin : Nat) (s : State) : State :=
  let s := updateLink l (fun e => { e with lastGood := some s.clock }) (noteReport l receiver margin s)
  setPresence l .live (stopDelay l s)

/-- The presence a weak report leaves (R88). -/
def weakPresence : Presence → Presence
  | .standby => .fading
  | .lost => .fading
  | .live => .live
  | .fading => .fading

/-- A weak report (R88). -/
def weakReport (l receiver margin : Nat) (s : State) : State :=
  let s := noteReport l receiver margin s
  match enrolledLink s l with
  | some e => setPresence l (weakPresence e.presence) s
  | none => s

/-! ## Reports for an enrolled link -/

/-- Where a report for an enrolled link lies (R86). -/
inductive Lies where
  | onNewCarrier (record : RetuneRecord) (newCarrier : Nat)
  | onCarrier
  | mistuned
deriving DecidableEq, Repr, Inhabited

/-- The new carrier is tested first, when there is one, and then the carrier (R86). -/
def whereLies (s : State) (e : EnrolledLink) (freq : Nat) : Lies :=
  let old : Lies := if liesOn freq (planRecord s e.carrier) then .onCarrier else .mistuned
  match e.phase with
  | .ordered rec_ n => if liesOn freq (planRecord s n) then .onNewCarrier rec_ n else old
  | _ => old

/-- A report on a carrier of the link is applied to presence: good or weak by the floor (R87, R88). -/
def applyPresence (l : Nat) (e : EnrolledLink) (r : HeardReport) (s : State) : State :=
  let m := clampMargin r.margin
  if e.settings.floor ≤ m then goodReport l r.receiver m s else weakReport l r.receiver m s

/-- The report completes the retune: a good report on the new carrier (R87, R111). -/
def completes (e : EnrolledLink) (r : HeardReport) : Bool := e.settings.floor ≤ clampMargin r.margin

/-- A report whose ID an ENROLLED entry holds: presence, then the retune, then the echo (R65 step 2, R86 to R89,
R111, R129). -/
def reportEnrolled (l : Nat) (e : EnrolledLink) (r : HeardReport) (s : State) : State :=
  match whereLies s e r.freq with
  | .mistuned => capture .mistuned r s
  | .onCarrier => compareEcho l (reportEcho r) (applyPresence l e r s)
  | .onNewCarrier rec_ n =>
    let s := applyPresence l e r s
    compareEcho l (reportEcho r) (if completes e r then completeRetune rec_ n l s else s)

/-! ## Expiries -/

/-- A fade expiry that takes the link to FADING starts the retune-delay timer, or with a retune delay of 0 the
automatic retune itself (R91, R95, R102). -/
def startDelay (l : Nat) (e : EnrolledLink) (s : State) : State :=
  if e.settings.autoRetune && e.phase == .none then
    if e.settings.retuneDelay = 0 then startSeeking .automatic false l s
    else updateLink l (fun e => { e with delayTimer := some (deadlineAfter e.settings.retuneDelay s) }) s
  else s

/-- The fade expiry of a LIVE link (R91). -/
def fade (l : Nat) (e : EnrolledLink) (s : State) : State :=
  if watchedReached (lossDeadline e) s then setPresence l .lost s
  else startDelay l e (setPresence l .fading s)

/-- FADE_EXPIRY (R91): taken when the link's fade deadline is watched and reached (log entry 1). -/
def execFadeExpiry (link : Nat) (s : State) : Answer :=
  .next (match enrolledLink s link with
    | some e => if watchedReached (fadeDeadline e) s then fade link e s else s
    | none => s)

/-- LOSS_EXPIRY (R92): taken when a FADING link's loss deadline is reached (log entry 1). A LIVE link takes its fade
expiry instead. -/
def execLossExpiry (link : Nat) (s : State) : Answer :=
  .next (match enrolledLink s link with
    | some e =>
      if e.presence = .fading && watchedReached (lossDeadline e) s then setPresence link .lost (stopDelay link s)
      else s
    | none => s)

/-- RETUNE_DELAY_EXPIRY (R97): taken when the running timer's deadline is reached (log entry 1). The timer runs only
in phase NONE. -/
def execRetuneDelayExpiry (link : Nat) (s : State) : Answer :=
  .next (match enrolledLink s link with
    | some e =>
      if watchedReached e.delayTimer s then
        let s := stopDelay link s
        if e.phase = .none then startSeeking .automatic false link s else s
      else s
    | none => s)

/-! ## Requests -/

/-- CLOCK.READ (R81). -/
def clockReadRule (s : State) : Verdict := .accept [.one (.clock s.clock)] s

/-- CLOCK_READ -/
def execClockRead (p : Port) (s : State) : Answer := .next (takeRequest p .clockRead clockReadRule s)

/-- What LINK.TIMERS carries (R98). -/
def timerItems (s : State) (e : EnrolledLink) : List Item :=
  [.one (.clock s.clock), .one (.choice (presenceNumber e.presence)),
   .optional [maybe .clock (fadeDeadline e), maybe .clock (lossDeadline e), maybe .clock e.delayTimer]]

/-- LINK.TIMERS (R98). -/
def linkTimersRule (index : Nat) (s : State) : Verdict :=
  if 63 < index then .refuse .badField
  else match entry s index with
    | .enrolled e => .accept (timerItems s e) s
    | _ => .refuse .badState

/-- LINK_TIMERS -/
def execLinkTimers (p : Port) (index : Nat) (s : State) : Answer :=
  .next (takeRequest p .linkTimers (linkTimersRule index) s)

end Sys2Proof.Machine
end

