-- ==== Sys2Proof/Machine/Directory.lean ====
section
/-! DEFINITION. The link directory: its requests, HEARD reports and admission (Chapter 4). -/

namespace Sys2Proof.Machine

/-! ## Entries -/

/-- The NOTED entry of LINK.NOTE (R71): the last heard time and the kept retune result stay when the entry was
NOTED with the same ID. -/
def notedEntry (e : LinkEntry) (ident : Nat) (kind : Kind) : LinkEntry :=
  match e with
  | .noted n =>
    if n.ident = ident then .noted ⟨ident, kind, n.lastHeard, n.lastResult⟩ else .noted ⟨ident, kind, none, none⟩
  | _ => .noted ⟨ident, kind, none, none⟩

/-- The entry is NOTED with the ID: rewriting it with that ID is no change that LINK.CHANGES reports (R62). -/
def notedAs (e : LinkEntry) (ident : Nat) : Bool :=
  match e with
  | .noted n => n.ident == ident
  | _ => false

/-- LINK.NOTE (R71). -/
def linkNoteRule (index ident kind : Nat) (s : State) : Verdict :=
  if 63 < index then .refuse .badField
  else match kindChoice kind with
    | none => .refuse .badField
    | some k =>
      let e := entry s index
      if e.isEnrolled then .refuse .inUse
      else if heldElsewhere s index ident then .refuse .duplicate
      else
        let e' := notedEntry e ident k
        let s' := setEntry index e' s
        .accept (entryItems e') (if notedAs e ident then s' else markChanged index s')

/-- LINK_NOTE -/
def execLinkNote (p : Port) (index ident kind : Nat) (s : State) : Answer :=
  .next (takeRequest p .linkNote (linkNoteRule index ident kind) s)

/-- Another ENROLLED CAMERA holds the return audio output (R72). -/
def outputHeldElsewhere (s : State) (index output : Nat) : Bool :=
  (List.range 64).any fun i => i != index && cameraOutput s i == some output

/-- The kind of an enrollment with the output of a CAMERA; `none` is BAD_FIELD. A MIC's output byte is ignored
(R72). -/
def enrollRole (kind output : Nat) : Option Role :=
  match kindChoice kind with
  | some .camera => if 127 < output then none else some (.camera output 0)
  | some .mic => some .mic
  | none => none

/-- The output of a role. -/
def roleOutput : Role → Option Nat
  | .camera o _ => some o
  | .mic => none

/-- A newly enrolled link (R73). -/
def enrolledEntry (ident : Nat) (role : Role) (record : Nat) (settings : LinkSettings) : EnrolledLink :=
  { ident := ident, role := role, carrier := record, settings := settings, presence := .standby
    lastHeard := none, lastGood := none, bestReceiver := none, lastMargin := none, delayTimer := none
    phase := .none, lastResult := .none, tally := .auto }

/-- A link that is a CAMERA becomes an eligible destination: its arbiter is seeded (R148). -/
def becomeDestination (l : Nat) (s : State) : State := if isCamera s l then seedArbiter l s else s

/-- The key statuses follow a change of eligibility of a CAMERA (R148, R149, R152). -/
def statusesAfter (camera : Bool) (s : State) : State := if camera then refreshStatuses s else s

/-- The steps of an accepted LINK.ENROLL after the bind (R73). -/
def enroll (index : Nat) (e : EnrolledLink) (s : State) : State :=
  let s := markChanged index (setEntry index (.enrolled e) s)
  statusesAfter (isCamera s index) (recomputeCue index (becomeDestination index s))

/-- LINK.ENROLL (R72, R73). An auto-retune byte that is neither on nor off is BAD_FIELD (log entry 11). -/
def linkEnrollRule (index ident kind record : Nat) (params : LinkParams) (output : Nat) (s : State) : Verdict :=
  if 63 < index || 95 < record then .refuse .badField
  else match enrollRole kind output, applyParams defaultSettings params with
    | some role, some settings =>
      if (entry s index).isEnrolled then .refuse .inUse
      else if heldElsewhere s index ident then .refuse .duplicate
      else if (roleOutput role).any (outputHeldElsewhere s index) then .refuse .duplicate
      else match bindRecord record index s with
        | none => .refuse .badState
        | some s' =>
          let e := enrolledEntry ident role record settings
          .accept (entryItems (.enrolled e)) (enroll index e s')
    | _, _ => .refuse .badField

/-- LINK_ENROLL -/
def execLinkEnroll (p : Port) (index ident kind record : Nat) (params : LinkParams) (output : Nat) (s : State) :
    Answer :=
  .next (takeRequest p .linkEnroll (linkEnrollRule index ident kind record params output) s)

/-- The entry after LINK.SET: the new parameters, and the retune-delay timer stopped when auto-retune is off
(R74, R96). -/
def withSettings (settings : LinkSettings) (e : EnrolledLink) : EnrolledLink :=
  { e with settings := settings, delayTimer := if settings.autoRetune then e.delayTimer else none }

/-- LINK.SET (R74). An auto-retune byte that is neither on nor off is BAD_FIELD (log entry 11). -/
def linkSetRule (index : Nat) (params : LinkParams) (s : State) : Verdict :=
  if 63 < index || (params.autoRetune.any fun n => (onOffChoice n).isNone) then .refuse .badField
  else match entry s index with
    | .enrolled e => match applyParams e.settings params with
      | some settings =>
        let e' := withSettings settings e
        .accept (entryItems (.enrolled e')) (setEntry index (.enrolled e') s)
      | none => .refuse .badField
    | _ => .refuse .badState

/-- LINK_SET -/
def execLinkSet (p : Port) (index : Nat) (params : LinkParams) (s : State) : Answer :=
  .next (takeRequest p .linkSet (linkSetRule index params) s)

/-! ## Retiring and erasing -/

/-- The NOTED entry that a retirement leaves (R75 step 3). -/
def retiredEntry (e : EnrolledLink) : LinkEntry :=
  .noted ⟨e.ident, roleKind e.role, e.lastHeard, some e.lastResult⟩

/-- The feed side of a retirement: a CAMERA's arbiter is cleared and its output muted (R149). -/
def leaveDestination (l : Nat) (output : Option Nat) (s : State) : State :=
  match output with
  | some o => clearArbiter l o s
  | none => s

/-- A link's cue state becomes all off (R126). -/
def darken (l : Nat) (s : State) : State := { s with tally.cues := put s.tally.cues l .allOff }

/-- The entry of a link after its retune is aborted: the ACTIVE record is released and the entry becomes NOTED
(R75 steps 2 and 3). -/
def unbind (l : Nat) (s : State) : State :=
  match enrolledLink s l with
  | some e => setEntry l (retiredEntry e) (releaseRecord e.carrier s)
  | none => s

/-- The steps of R75 on an enrolled link. -/
def retire (l : Nat) (s : State) : State :=
  let output := cameraOutput s l
  let s := darken l (unbind l (abortRetune .retired l s))
  let s := removePasses l (removeCuePending l (leaveDestination l output s))
  markChanged l (statusesAfter output.isSome s)

/-- LINK.RETIRE (R75). -/
def linkRetireRule (index : Nat) (s : State) : Verdict :=
  if 63 < index then .refuse .badField
  else if (entry s index).isEnrolled then .accept [] (retire index s)
  else .refuse .badState

/-- LINK_RETIRE -/
def execLinkRetire (p : Port) (index : Nat) (s : State) : Answer :=
  .next (takeRequest p .linkRetire (linkRetireRule index) s)

/-- The entry becomes VACANT (R76). -/
def vacate (l : Nat) (s : State) : State := markChanged l (setEntry l .vacant s)

/-- LINK.ERASE (R76). -/
def linkEraseRule (index : Nat) (s : State) : Verdict :=
  if 63 < index then .refuse .badField
  else match entry s index with
    | .vacant => .refuse .badState
    | .noted _ => .accept [] (vacate index s)
    | .enrolled _ => .accept [] (vacate index (retire index s))

/-- LINK_ERASE -/
def execLinkErase (p : Port) (index : Nat) (s : State) : Answer :=
  .next (takeRequest p .linkErase (linkEraseRule index) s)

/-! ## Reads and settings -/

/-- LINK.GET (R77). -/
def linkGetRule (index : Nat) (s : State) : Verdict :=
  if 63 < index then .refuse .badField else .accept (entryItems (entry s index)) s

/-- LINK_GET -/
def execLinkGet (p : Port) (index : Nat) (s : State) : Answer := .next (takeRequest p .linkGet (linkGetRule index) s)

/-- LINK.PROBE (R66). -/
def linkProbeRule (ident : Nat) (s : State) : Verdict :=
  match probe s ident with
  | none => .refuse .notFound
  | some i => .accept [.one (.index i), .one (.choice (lifecycleNumber (entry s i)))] s

/-- LINK_PROBE -/
def execLinkProbe (p : Port) (ident : Nat) (s : State) : Answer :=
  .next (takeRequest p .linkProbe (linkProbeRule ident) s)

/-- LINK.CHANGES (R62, R184). -/
def linkChangesRule (s : State) : Verdict := .accept (indexList s.ctl.changed) { s with ctl.changed := [] }

/-- LINK_CHANGES -/
def execLinkChanges (p : Port) (s : State) : Answer := .next (takeRequest p .linkChanges linkChangesRule s)

/-- DIRECTORY.PIN (R63). -/
def directoryPinRule (bound : Nat) (s : State) : Verdict :=
  if 48 < bound then .refuse .badField else .accept [] { s with dir.pinBound := bound, dir.rover := 63 }

/-- DIRECTORY_PIN -/
def execDirectoryPin (p : Port) (bound : Nat) (s : State) : Answer :=
  .next (takeRequest p .directoryPin (directoryPinRule bound) s)

/-- DIRECTORY.ADMIT (R64). -/
def directoryAdmitRule (setting : Nat) (s : State) : Verdict :=
  match onOffChoice setting with
  | none => .refuse .badField
  | some b => .accept [] { s with dir.autoAdmit := b }

/-- DIRECTORY_ADMIT -/
def execDirectoryAdmit (p : Port) (setting : Nat) (s : State) : Answer :=
  .next (takeRequest p .directoryAdmit (directoryAdmitRule setting) s)

/-- DIRECTORY.GET (R64). -/
def directoryGetRule (s : State) : Verdict :=
  .accept [.one (.index s.dir.pinBound), .one (.index s.dir.rover), .one (.choice (onOffNumber s.dir.autoAdmit)),
    .one (.choice s.dir.capture.isSome.toNat)] s

/-- DIRECTORY_GET -/
def execDirectoryGet (p : Port) (s : State) : Answer := .next (takeRequest p .directoryGet directoryGetRule s)

/-- CAPTURE.READ (R68). -/
def captureReadRule (s : State) : Verdict := .accept (captureItems s.dir.capture) { s with dir.capture := none }

/-- CAPTURE_READ -/
def execCaptureRead (p : Port) (s : State) : Answer := .next (takeRequest p .captureRead captureReadRule s)

/-! ## HEARD reports -/

/-- The entries in the order that admission looks at them (R69): from the rover down to the pin bound, then from 63
down to the entry just above the rover. -/
def admissionOrder (rover pinBound : Nat) : List Nat :=
  (indexRun pinBound rover).reverse ++ (indexRun (rover + 1) 63).reverse

/-- The entry that admission claims (R69): the first that is VACANT or NOTED. -/
def claimable (s : State) : Option Nat :=
  (admissionOrder s.dir.rover s.dir.pinBound).find? fun i => !(entry s i).isEnrolled

/-- Admission of a stranger (R69, R70). -/
def admitStranger (r : HeardReport) (s : State) : State :=
  match claimable s with
  | some i => markChanged i (setEntry i (.noted ⟨r.ident, reportKind r, some s.clock, none⟩) s)
  | none => directoryFullFault s

/-- The rover's step (R63). -/
def moveRover (s : State) : State :=
  { s with dir.rover := if s.dir.rover = s.dir.pinBound then 63 else s.dir.rover - 1 }

/-- What a well-formed HEARD report does before the rover moves (R65 steps 1 to 4). -/
def handleReport (r : HeardReport) (s : State) : State :=
  match probe s r.ident with
  | some i => match entry s i with
    | .enrolled e => reportEnrolled i e r s
    | .noted n => setEntry i (.noted { n with lastHeard := some s.clock }) s
    | .vacant => s
  | none =>
    let s := capture .unknown r s
    if s.dir.autoAdmit then admitStranger r s else s

/-- HEARD (R65): malformed content is discarded (R191). -/
def execHeard (report : HeardReport) (s : State) : Answer :=
  .next (if contentMalformed (.heard report) then discardMalformed .receiver s
    else moveRover (handleReport report (completeMessage .receiver s)))

end Sys2Proof.Machine
end

