-- ==== Sys2Proof/Machine/ControlPorts.lean ====
section
/-! DEFINITION. The control block's own requests, the events of the two request ports (Chapter 10) and the damage
on the input ports (R190, R191). -/

namespace Sys2Proof.Machine

/-! ## Authority and causes -/

/-- AUTHORITY.YIELD (R178), after the common test that the port holds authority (R180). -/
def authorityYieldRule (p : Port) (s : State) : Verdict :=
  match p with
  | .primary => .refuse .badState
  | .service => .accept [] (raise .authority { s with ctl.owner := .primary })

/-- AUTHORITY_YIELD -/
def execAuthorityYield (p : Port) (s : State) : Answer :=
  .next (takeRequest p .authorityYield (authorityYieldRule p) s)

/-- CAUSE.READ (R181). The attention line's state is sent as 1 for asserted and 0 for negated, and the owner as 0 for
PRIMARY: no table lists the bytes of either (log entry 21, DESIGN CHOICE). -/
def causeReadRule (s : State) : Verdict :=
  .accept [.one (.causes s.ctl.causes), .one (.causes s.ctl.unmasked), .one (.flag (attention s)),
    .one (.choice (portNumber s.ctl.owner))] s

/-- CAUSE_READ -/
def execCauseRead (p : Port) (s : State) : Answer := .next (takeRequest p .causeRead causeReadRule s)

/-- CAUSE.CLEAR (R181). -/
def causeClearRule (causes : BitVec 16) (s : State) : Verdict :=
  if namesCauses causes then
    let left := s.ctl.causes &&& ~~~(causes.setWidth 11)
    .accept [.one (.causes left)] { s with ctl.causes := left }
  else .refuse .badField

/-- CAUSE_CLEAR -/
def execCauseClear (p : Port) (causes : BitVec 16) (s : State) : Answer :=
  .next (takeRequest p .causeClear (causeClearRule causes) s)

/-- CAUSE.MASK (R182). -/
def causeMaskRule (unmasked : BitVec 16) (s : State) : Verdict :=
  if namesCauses unmasked then .accept [] { s with ctl.unmasked := unmasked.setWidth 11 } else .refuse .badField

/-- CAUSE_MASK -/
def execCauseMask (p : Port) (unmasked : BitVec 16) (s : State) : Answer :=
  .next (takeRequest p .causeMask (causeMaskRule unmasked) s)

/-- PORT.FAULTS (R183). -/
def portFaultsRule (s : State) : Verdict := .accept (faultItems s.ctl.faults) { s with ctl.faults := .clear }

/-- PORT_FAULTS -/
def execPortFaults (p : Port) (s : State) : Answer := .next (takeRequest p .portFaults portFaultsRule s)

/-! ## Frames -/

/-- The bytes have completed a frame on the port: on the primary port a request transaction has ended that received
a byte and whose first byte is not that of a read transaction (R173, R187); on the service port the count of the
length byte has been received (R175). -/
def frameEnded : Port → List Byte → Bool
  | _, [] => false
  | .primary, b :: _ => b != 0
  | .service, b :: rest => rest.length == b.toNat

/-- A frame has ended and is malformed (R187). -/
def frameMalformed (p : Port) (bytes : List Byte) : Bool := frameEnded p bytes && (decodeFrame p bytes).isNone

/-- The command that a completed frame is taken as: the request it spells, or BAD_FRAME (R173, R175, R187). -/
def frameCommand (p : Port) (bytes : List Byte) : Instr := (decodeFrame p bytes).getD (.badFrame p bytes)

/-- The command that a transaction of the primary control port is taken as when its select is negated. A first byte
of 00h makes it a read transaction, which clocks the bytes after the first (log entry 5); every other first byte is the
length byte of a request frame (R187); a transaction without a byte is no frame (R173). -/
def transactionCommand : List Byte → Option Instr
  | [] => none
  | b :: rest => some (if b = 0#8 then .readTransaction rest.length else frameCommand .primary (b :: rest))

/-- A malformed frame is answered BAD_FRAME with its code as received (R173, R175, R188). -/
def answerBadFrame (p : Port) (bytes : List Byte) (s : State) : State :=
  respond p ⟨frameCode bytes, .badFrame, []⟩ (completeFrame p s)

/-- BAD_FRAME (R173): bytes that are no complete malformed frame are no such event (log entry 1). -/
def execBadFrame (p : Port) (bytes : List Byte) (s : State) : Answer :=
  .next (if frameMalformed p bytes then answerBadFrame p bytes s else s)

/-- The bytes the host receives when it clocks that many (R174, R187). -/
def clockedOut (r : Response) (clocked : Nat) : List Byte :=
  (r.frame ++ List.replicate clocked (0xFF#8)).take clocked

/-- READ_TRANSACTION (R174): the slot's response, or NOT_READY, is clocked out, and the slot emptied. -/
def execReadTransaction (clocked : Nat) (s : State) : Answer :=
  .next { s with
    primaryOut := clockedOut (s.ctl.responseSlot.getD notReadyResponse) clocked
    ctl.responseSlot := none }

/-! ## The service port -/

/-- The partial frame of the service port is discarded (R175). -/
def discardPartial (s : State) : State := { s with ctl.servicePartial := none }

/-- A break takes authority from the primary port (R177). -/
def takeAuthority (s : State) : State :=
  match s.ctl.owner with
  | .primary => raise .authority { s with ctl.owner := .service }
  | .service => s

/-- BREAK (R177). -/
def execLineBreak (s : State) : Answer := .next (takeAuthority (discardPartial s))

/-- SERVICE_CHARACTER_ERROR (R175). -/
def execServiceCharacterError (error : CharacterError) (s : State) : Answer :=
  .next (match error with
    | .parity => parityFault .service (discardPartial s)
    | .noStop => framingFault .service (discardPartial s))

/-- SERVICE_GAP_EXPIRY (R175): taken when the gap deadline of a partial frame is reached (log entry 1). -/
def execServiceGapExpiry (s : State) : Answer :=
  .next (match s.ctl.servicePartial with
    | some f => if reached f.deadline s.clock then framingFault .service (discardPartial s) else s
    | none => s)

/-- SERVICE_RESPONSE_END (R176): taken when a response is in transmission (log entry 1); the waiting response, if any,
begins transmission. -/
def execServiceResponseEnd (s : State) : Answer :=
  .next (match s.ctl.serviceSending with
    | some _ => { s with ctl.serviceSending := s.ctl.serviceWaiting, ctl.serviceWaiting := none }
    | none => s)

/-! ## The input ports -/

/-- PORT_BYTE_ERROR (R190). A byte is a first byte only when no partial message is held (log entry 1). -/
def execPortByteError (line : InPort) (error : ByteError) (s : State) : Answer :=
  .next (match error with
    | .parity => parityFault (.port line) (setPortPartial line none s)
    | .noStop => framingFault (.port line) (setPortPartial line none s)
    | .unknownType => if (portPartial s line).isNone then framingFault (.port line) s else s)

/-- INPUT_GAP_EXPIRY (R190): taken when the gap deadline of a partial message is reached (log entry 1). -/
def execInputGapExpiry (line : InPort) (s : State) : Answer :=
  .next (match portPartial s line with
    | some m => if reached m.deadline s.clock then framingFault (.port line) (setPortPartial line none s) else s
    | none => s)

/-- MALFORMED_MESSAGE (R191): bytes that are no complete message with malformed content are no such event (log
entry 1). -/
def execMalformedMessage (line : InPort) (bytes : List Byte) (s : State) : Answer :=
  .next (if messageMalformed line bytes then discardMalformed line s else s)

end Sys2Proof.Machine
end

