-- ==== Sys2Proof/Machine/Restart.lean ====
section
/-! DEFINITION. The warm restart (R185) and the hardware reset. -/

namespace Sys2Proof.Machine

/-! ## What a warm restart makes of each record -/

/-- HANDOVER records become EMPTY (R5). -/
def PlanRecord.restarted : PlanRecord → PlanRecord
  | .handover _ _ => .empty
  | r => r

/-- A RUNNING job ends with RESTART (R50). -/
def SurveyJob.restarted : SurveyJob → SurveyJob
  | .running r => .ended r .restart
  | j => j

/-- The echo mismatch count of a CAMERA becomes 0 (R61, R132). -/
def Role.restarted : Role → Role
  | .camera o _ => .camera o 0
  | .mic => .mic

/-- The result of an aborted retune is RESTART (R116). -/
def resultRestarted : RetunePhase → RetuneResult → RetuneResult
  | .none, r => r
  | .seeking _ _, _ => .restart
  | .ordered _ _, _ => .restart

/-- An ENROLLED entry (R61, R82, R95, R116). -/
def EnrolledLink.restarted (e : EnrolledLink) : EnrolledLink :=
  { e with
    role := e.role.restarted
    presence := .standby
    delayTimer := none
    phase := .none
    lastResult := resultRestarted e.phase e.lastResult }

/-- A link entry: VACANT and NOTED entries are unchanged (R61). -/
def LinkEntry.restarted : LinkEntry → LinkEntry
  | .enrolled e => .enrolled e.restarted
  | e => e

/-- A key becomes inactive and IDLE; one that was not IDLE has its status pending flag set (R150). -/
def Key.restarted (k : Key) : Key :=
  { k with active := false, status := .idle, statusPending := k.statusPending || k.status != .idle }

/-! ## The restart block by block -/

/-- R5, R22, R47, R50. -/
def restartPlanEngineSurvey (s : State) : State :=
  { s with
    plan.records := rewrite (fun _ => PlanRecord.restarted) s.plan.records
    engine := .reset
    survey.bins := Vector.replicate 256 none
    survey.jobs := rewrite (fun _ => SurveyJob.restarted) s.survey.jobs }

/-- R61, R105, R116. -/
def restartLinks (s : State) : State :=
  { s with
    dir.entries := rewrite (fun _ => LinkEntry.restarted) s.dir.entries
    dir.capture := none
    retune.seekOrder := []
    retune.waitList := [] }

/-- R150: keys and arbiters. -/
def restartFeeds (s : State) : State :=
  { s with
    talk.keys := rewrite (fun _ => Key.restarted) s.talk.keys
    talk.arbiters := rewrite (fun _ => clearedArbiter) s.talk.arbiters }

/-- The default orders of every enrolled CAMERA (R150). -/
def placeDefaultOrders (s : State) : State := (List.range 64).foldl (fun s l => orderFeed l s) s

/-- The mixer source table is cleared and every cue state recomputed; no CUE pending is set (R119, R126). -/
def restartTally (s : State) : State :=
  let s := { s with tally.sources := Vector.replicate 64 .clear }
  { s with tally.cues := rewrite (fun l _ => computedCue s l) s.tally.cues }

/-- R161: the pending sets and the PASS queue are emptied. -/
def restartReturn (s : State) : State :=
  { s with ret.tunePending := [], ret.cuePending := [], ret.passQueue := [] }

/-- R185: the causes and the changed-link set, after the blocks' own changes. -/
def restartControl (s : State) : State := { s with ctl.causes := 0, ctl.changed := [] }

/-- The warm restart (R185). -/
def warmRestart (s : State) : State :=
  restartControl (restartReturn (restartTally (placeDefaultOrders (restartFeeds
    (restartLinks (restartPlanEngineSurvey s))))))

/-- RUN.RESTART (R185). -/
def runRestartRule (s : State) : Verdict := .accept [] (warmRestart s)

/-- RUN_RESTART -/
def execRunRestart (p : Port) (s : State) : Answer := .next (takeRequest p .runRestart runRestartRule s)

/-- HARDWARE_RESET: every block as after reset. The command queue and the characters still on the lines are not the
part's state (log entry 16). -/
def execHardwareReset (s : State) : Answer :=
  .next { State.reset with pending := s.pending, arriving := s.arriving }

end Sys2Proof.Machine
end

