-- ==== Sys2Proof/Machine/Gathering.lean ====
section
/-! DEFINITION. What happens while no command waits: a character that has reached a serial line is gathered (R175,
R190), a transaction of the primary control port that has ended is taken (R173, R187), or the link clock counts (R79).
Log entries 3 and 4. -/

namespace Sys2Proof.Machine

/-- A command joins the queue. -/
def post (c : Instr) (s : State) : State := { s with pending := s.pending ++ [c] }

/-- The bytes of a partial frame or message. -/
def partialBytes : Option Partial → List Byte
  | some f => f.bytes
  | none => []

/-- The partial frame or message with one more character and its new gap deadline (R175, R190). -/
def extended (bytes : List Byte) (s : State) : Partial := ⟨bytes, deadlineAfter Config.gapTime s⟩

/-- The service port gathers a character; a completed frame is taken as a request or as BAD_FRAME (R175). -/
def gatherService (b : Byte) (s : State) : State :=
  let bytes := partialBytes s.ctl.servicePartial ++ [b]
  if frameEnded .service bytes then
    post (frameCommand .service bytes) (discardPartial s)
  else { s with ctl.servicePartial := some (extended bytes s) }

/-- An input port gathers a byte; a completed message is taken, and a first byte that is no type of the port is
damage (R190). -/
def gatherPort (line : InPort) (b : Byte) (s : State) : State :=
  let bytes := partialBytes (portPartial s line) ++ [b]
  match messageCount line bytes with
  | none => post (.portByteError line .unknownType) s
  | some n =>
    if bytes.length < n then setPortPartial line (some (extended bytes s)) s
    else post ((decodeMessage line bytes).getD (.malformedMessage line bytes)) (completeMessage line s)

/-- The primary control port takes a transaction whose select has been negated: a read transaction, a request or a
malformed frame, or nothing (R173, R187). -/
def takeTransaction (bytes : List Byte) (s : State) : State :=
  match transactionCommand bytes with
  | some c => post c s
  | none => s

/-- What has arrived is taken by its port: an undamaged character is gathered, a transaction taken whole. -/
def gather (a : Arrival) (s : State) : State :=
  match a with
  | .character .service b => gatherService b s
  | .character (.port line) b => gatherPort line b s
  | .transaction bytes => takeTransaction bytes s

/-- The link clock counts one millisecond (R79). -/
def tick (s : State) : State := { s with clock := s.clock + 1 }

/-- What the block does while no command waits. -/
def idle (s : State) : State :=
  match s.arriving with
  | a :: rest => gather a { s with arriving := rest }
  | [] => tick s

end Sys2Proof.Machine
end

