-- ==== Sys2Proof/Machine/Dispatch.lean ====
section
/-! DEFINITION. One arm per command, each a direct call of its meaning. -/

namespace Sys2Proof.Machine

/-- The effect of a command (spec/opcode_table.json). -/
def exec (i : Instr) (s : State) : Host.Outcome State Fault Refusal :=
  match i with
  | .hardwareReset => Sys2Proof.Machine.execHardwareReset s
  | .groupSet p group lower upper spacingGuard productGuard twoTone threeTone searchStep searchLimit => Sys2Proof.Machine.execGroupSet p group lower upper spacingGuard productGuard twoTone threeTone searchStep searchLimit s
  | .groupGet p group => Sys2Proof.Machine.execGroupGet p group s
  | .planPut p record state centre halfWidth group => Sys2Proof.Machine.execPlanPut p record state centre halfWidth group s
  | .planDrop p record => Sys2Proof.Machine.execPlanDrop p record s
  | .planGet p record => Sys2Proof.Machine.execPlanGet p record s
  | .planList p group => Sys2Proof.Machine.execPlanList p group s
  | .checkStart p target => Sys2Proof.Machine.execCheckStart p target s
  | .findStart p group lower upper step halfWidth limit => Sys2Proof.Machine.execFindStart p group lower upper step halfWidth limit s
  | .checkRead p slot => Sys2Proof.Machine.execCheckRead p slot s
  | .checkCancel p slot => Sys2Proof.Machine.execCheckCancel p slot s
  | .engineStart => Sys2Proof.Machine.execEngineStart s
  | .candidateEvaluation => Sys2Proof.Machine.execCandidateEvaluation s
  | .surveySetup p start width hot => Sys2Proof.Machine.execSurveySetup p start width hot s
  | .surveyStart p job receiver firstBin count mode watch => Sys2Proof.Machine.execSurveyStart p job receiver firstBin count mode watch s
  | .surveyStop p job => Sys2Proof.Machine.execSurveyStop p job s
  | .surveyRead p job => Sys2Proof.Machine.execSurveyRead p job s
  | .binsRead p first last => Sys2Proof.Machine.execBinsRead p first last s
  | .binsClear p first last => Sys2Proof.Machine.execBinsClear p first last s
  | .sample receiver level => Sys2Proof.Machine.execSample receiver level s
  | .linkNote p index ident kind => Sys2Proof.Machine.execLinkNote p index ident kind s
  | .linkEnroll p index ident kind record params output => Sys2Proof.Machine.execLinkEnroll p index ident kind record params output s
  | .linkSet p index params => Sys2Proof.Machine.execLinkSet p index params s
  | .linkRetire p index => Sys2Proof.Machine.execLinkRetire p index s
  | .linkErase p index => Sys2Proof.Machine.execLinkErase p index s
  | .linkGet p index => Sys2Proof.Machine.execLinkGet p index s
  | .linkProbe p ident => Sys2Proof.Machine.execLinkProbe p ident s
  | .linkChanges p => Sys2Proof.Machine.execLinkChanges p s
  | .directoryPin p bound => Sys2Proof.Machine.execDirectoryPin p bound s
  | .directoryAdmit p setting => Sys2Proof.Machine.execDirectoryAdmit p setting s
  | .directoryGet p => Sys2Proof.Machine.execDirectoryGet p s
  | .captureRead p => Sys2Proof.Machine.execCaptureRead p s
  | .heard report => Sys2Proof.Machine.execHeard report s
  | .clockRead p => Sys2Proof.Machine.execClockRead p s
  | .linkTimers p index => Sys2Proof.Machine.execLinkTimers p index s
  | .fadeExpiry link => Sys2Proof.Machine.execFadeExpiry link s
  | .lossExpiry link => Sys2Proof.Machine.execLossExpiry link s
  | .retuneDelayExpiry link => Sys2Proof.Machine.execRetuneDelayExpiry link s
  | .linkRetune p index target keepOld => Sys2Proof.Machine.execLinkRetune p index target keepOld s
  | .linkHalt p index => Sys2Proof.Machine.execLinkHalt p index s
  | .retuneLimitExpiry link => Sys2Proof.Machine.execRetuneLimitExpiry link s
  | .retuneLimit p time => Sys2Proof.Machine.execRetuneLimit p time s
  | .retuneGet p index => Sys2Proof.Machine.execRetuneGet p index s
  | .retuneQueue p => Sys2Proof.Machine.execRetuneQueue p s
  | .mixerTallyMessage source flags => Sys2Proof.Machine.execMixerTallyMessage source flags s
  | .tallyMap p source link => Sys2Proof.Machine.execTallyMap p source link s
  | .tallyOverride p link setting => Sys2Proof.Machine.execTallyOverride p link setting s
  | .tallySources p first last => Sys2Proof.Machine.execTallySources p first last s
  | .tallyGet p link => Sys2Proof.Machine.execTallyGet p link s
  | .lampSet p line link colour drive activeLevel => Sys2Proof.Machine.execLampSet p line link colour drive activeLevel s
  | .lampGet p line => Sys2Proof.Machine.execLampGet p line s
  | .keySet p key level mode locked source destinations => Sys2Proof.Machine.execKeySet p key level mode locked source destinations s
  | .keyDown key => Sys2Proof.Machine.execKeyDown key s
  | .keyPress p key => Sys2Proof.Machine.execKeyPress p key s
  | .keyUp key => Sys2Proof.Machine.execKeyUp key s
  | .keyLift p key => Sys2Proof.Machine.execKeyLift p key s
  | .keyGet p key => Sys2Proof.Machine.execKeyGet p key s
  | .feedDefault p link input => Sys2Proof.Machine.execFeedDefault p link input s
  | .feedGet p link => Sys2Proof.Machine.execFeedGet p link s
  | .matrixGet p output => Sys2Proof.Machine.execMatrixGet p output s
  | .keyStatusSendStart => Sys2Proof.Machine.execKeyStatusSendStart s
  | .keyStatusSendEnd => Sys2Proof.Machine.execKeyStatusSendEnd s
  | .orderSendStart => Sys2Proof.Machine.execOrderSendStart s
  | .orderAck output input => Sys2Proof.Machine.execOrderAck output input s
  | .orderTimeout => Sys2Proof.Machine.execOrderTimeout s
  | .returnPass p link payload => Sys2Proof.Machine.execReturnPass p link payload s
  | .returnGet p => Sys2Proof.Machine.execReturnGet p s
  | .returnSendStart => Sys2Proof.Machine.execReturnSendStart s
  | .doneMessage number => Sys2Proof.Machine.execDoneMessage number s
  | .returnTimeout => Sys2Proof.Machine.execReturnTimeout s
  | .authorityYield p => Sys2Proof.Machine.execAuthorityYield p s
  | .causeRead p => Sys2Proof.Machine.execCauseRead p s
  | .causeClear p causes => Sys2Proof.Machine.execCauseClear p causes s
  | .causeMask p unmasked => Sys2Proof.Machine.execCauseMask p unmasked s
  | .portFaults p => Sys2Proof.Machine.execPortFaults p s
  | .runRestart p => Sys2Proof.Machine.execRunRestart p s
  | .badFrame p bytes => Sys2Proof.Machine.execBadFrame p bytes s
  | .readTransaction clocked => Sys2Proof.Machine.execReadTransaction clocked s
  | .lineBreak => Sys2Proof.Machine.execLineBreak s
  | .serviceCharacterError error => Sys2Proof.Machine.execServiceCharacterError error s
  | .serviceGapExpiry => Sys2Proof.Machine.execServiceGapExpiry s
  | .serviceResponseEnd => Sys2Proof.Machine.execServiceResponseEnd s
  | .portByteError line error => Sys2Proof.Machine.execPortByteError line error s
  | .inputGapExpiry line => Sys2Proof.Machine.execInputGapExpiry line s
  | .malformedMessage line bytes => Sys2Proof.Machine.execMalformedMessage line bytes s

end Sys2Proof.Machine
end

