-- ==== Sys2Proof/Safety.lean ====
section
/-! DEFINITION. What a safe run keeps: the laws that the spec says hold of the records at every moment, each as a
property of a state, for a claim to say that a step keeps it. -/

namespace Sys2Proof.Machine

/-! ## Requests and responses, as claims speak of them -/

/-- The port may send the request: any port a read, the owner of the authority alone a mutating one (R179). -/
def MaySend (p : Port) (c : RequestCode) (s : State) : Prop := mutating c = true → s.ctl.owner = p

/-- The state with the OK response of a request formed on its port (R174, R176). -/
def answered (p : Port) (c : RequestCode) (items : List Item) (t : State) : State := respond p ⟨c.number, .ok, items⟩ t

/-- What a refused request leaves: the frame taken and the refusal's status answered, nothing else (R180). -/
def refusedWith (p : Port) (c : RequestCode) (st : Status) (s : State) : State :=
  respond p ⟨c.number, st, []⟩ (completeFrame p s)

/-- The requests that only read (10.6): those accepted from either port, less the requests of the compatibility
engine and those that read and empty a record kept for reporting (R179). -/
def isRead : RequestCode → Bool
  | .groupGet | .planGet | .planList | .surveyRead | .binsRead | .linkGet | .linkProbe | .directoryGet
  | .clockRead | .linkTimers | .retuneGet | .retuneQueue | .tallySources | .tallyGet | .lampGet
  | .keyGet | .feedGet | .matrixGet | .returnGet | .causeRead => true
  | _ => false

/-! ## Searches, as claims speak of them -/

/-- The search that the plan gives a link whose carrier record holds `c` (R104). -/
def planSearch (s : State) (c : Carrier) : Search :=
  let g := look s.plan.groups c.group
  ⟨c.group, g.lower, g.upper, g.searchStep, c.halfWidth, g.searchLimit⟩

/-- From `s` to `t` a link that enters SEEKING has its search placed (R104): queued in the engine where that holds
fewer than two internal requests, with the parameters that the plan gives, and on the seek wait list otherwise. -/
def SearchPlaced (place : SearchPlace) (l : Nat) (e : EnrolledLink) (s t : State) : Prop :=
  (internalCount s < 2 → place = .inEngine ∧ t.retune.waitList = s.retune.waitList ∧
    ∃ q, t.engine = { s.engine with queue := s.engine.queue ++ [⟨.internal l, .find q⟩] } ∧
      ∀ c, (planRecord s e.carrier).carrier = some c → q = planSearch s c) ∧
  (2 ≤ internalCount s → place = .waiting ∧ t.engine = s.engine ∧
    ∀ j, j ∈ t.retune.waitList ↔ j = l ∨ j ∈ s.retune.waitList)

/-- From `s` to `t` an internal request has left the engine, whose queue was then `queue` and nothing running, and
the seek wait list, then `waiting`, is served (R105): its head's search is queued where the engine holds fewer than
two internal requests, and otherwise nothing moves. -/
def ListServed (queue : List EngineRequest) (waiting : List Nat) (s t : State) : Prop :=
  (waiting = [] ∨ 2 ≤ queue.countP isInternal → t.engine.queue = queue ∧ t.retune.waitList = waiting) ∧
  ∀ m rest e c, waiting = m :: rest → queue.countP isInternal < 2 → entry s m = .enrolled e →
    (planRecord s e.carrier).carrier = some c →
    t.engine.queue = queue ++ [⟨.internal m, .find (planSearch s c)⟩] ∧ t.retune.waitList = rest ∧
    ∀ r place, e.phase = .seeking r place → ∃ e', entry t m = .enrolled e' ∧ e'.phase = .seeking r .inEngine

/-! ## Key statuses, as claims speak of them -/

/-- From `s` to `t` the key statuses follow an event (R152): each key's status is the one computed from its active state
and its roles after the event, and where it differs from the status before it the key's status pending flag is set; a
flag already set stays set, and no other is. -/
def StatusesFollow (s t : State) : Prop :=
  ∀ k ≤ 31, (keyAt t k).status = computedStatus t k ∧
    (keyAt t k).statusPending = ((keyAt s k).statusPending || (keyAt t k).status != (keyAt s k).status)

/-- From `s` to `t` every key keeps its level, mode, locked flag, source, destinations and active state. -/
def KeysKept (s t : State) : Prop :=
  ∀ k, keyAt t k = { keyAt s k with status := (keyAt t k).status, statusPending := (keyAt t k).statusPending }

/-! ## Sets of indices -/

/-- A set of indices below a bound, as the model holds one: in ascending order, each at most once. -/
def IndexSet (bound : Nat) (l : List Nat) : Prop := l.Pairwise (· < ·) ∧ ∀ x ∈ l, x < bound

/-! ## Frequency plan -/

/-- No band group has more than 24 plan records that are not EMPTY (R8). -/
def GroupsWithinCapacity (s : State) : Prop := ∀ g, memberCount s g ≤ 24

/-- Every record names a group of the table, and a centre and half width in range (R4). -/
def CarriersInRange (s : State) : Prop :=
  ∀ i c, (planRecord s i).carrier = some c → c.group ≤ 7 ∧ 1 ≤ c.halfWidth ∧ c.halfWidth ≤ 4095

/-- The carrier of every ENROLLED link is an ACTIVE record that it owns, and the new carrier of every link in ORDERED
a HANDOVER record that it owns (R6, R7). -/
def LinksOwnTheirRecords (s : State) : Prop :=
  ∀ l e, entry s l = .enrolled e →
    (∃ c, planRecord s e.carrier = .active c l) ∧
    ∀ r n, e.phase = .ordered r n → ∃ c, planRecord s n = .handover c l

/-- Every ACTIVE record is owned by an ENROLLED link whose carrier names it, and every HANDOVER record by a link in
ORDERED whose new carrier names it (R6, R7). -/
def RecordsHaveTheirLinks (s : State) : Prop :=
  ∀ i c l,
    (planRecord s i = .active c l → ∃ e, entry s l = .enrolled e ∧ e.carrier = i) ∧
    (planRecord s i = .handover c l → ∃ e r, entry s l = .enrolled e ∧ e.phase = .ordered r i)

/-- R6 and R7 together. -/
def OwnershipBinding (s : State) : Prop := LinksOwnTheirRecords s ∧ RecordsHaveTheirLinks s

/-! ## Occupancy survey -/

/-- At most one job per receiver is RUNNING, and a RUNNING job has 1 to 256 samples remaining and its pointer on a
bin (R50). -/
def JobsInOrder (s : State) : Prop :=
  (∀ j r, jobAt s j = .running r → 1 ≤ r.remaining ∧ r.remaining ≤ 256 ∧ r.pointer ≤ 255) ∧
  ∀ i j r q, jobAt s i = .running r → jobAt s j = .running q → r.receiver = q.receiver → i = j

/-! ## Link directory -/

/-- No two link entries hold the same transmitter ID (R60). -/
def IdentsDistinct (s : State) : Prop :=
  ∀ i j x, entryIdent (entry s i) = some x → entryIdent (entry s j) = some x → i = j

/-- No two ENROLLED CAMERAs hold the same return audio output (R72). -/
def OutputsDistinct (s : State) : Prop :=
  ∀ i j o, cameraOutput s i = some o → cameraOutput s j = some o → i = j

/-- The pin bound lies from 0 to 48, and the rover from the pin bound to 63 (R63). -/
def RoverInRange (s : State) : Prop := s.dir.pinBound ≤ 48 ∧ s.dir.pinBound ≤ s.dir.rover ∧ s.dir.rover ≤ 63

/-- The parameters of an ENROLLED link lie in the ranges of 4.1, the loss time not below the fade time (R73, R74). -/
def SettingsInRange (s : State) : Prop :=
  ∀ l e, entry s l = .enrolled e →
    e.settings.floor ≤ 63 ∧ 10 ≤ e.settings.fadeTime ∧ e.settings.fadeTime ≤ 10000 ∧
    100 ≤ e.settings.lossTime ∧ e.settings.lossTime ≤ 60000 ∧ e.settings.fadeTime ≤ e.settings.lossTime ∧
    e.settings.retuneDelay ≤ 10000

/-- The changed-link set holds link indices in ascending order, each at most once (R184). -/
def ChangedSetOrdered (s : State) : Prop := IndexSet 64 s.ctl.changed

/-! ## Presence -/

/-- A running retune-delay timer belongs to a FADING link in phase NONE with auto-retune on (R97). -/
def DelayTimersBelong (s : State) : Prop :=
  ∀ l e, entry s l = .enrolled e → e.delayTimer.isSome →
    e.presence = .fading ∧ e.phase = .none ∧ e.settings.autoRetune = true

/-! ## Compatibility engine and retune controller -/

/-- The engine holds at most two internal requests, counting a running one (R26). -/
def InternalWithinTwo (s : State) : Prop := internalCount s ≤ 2

/-- The link is in SEEKING with the search place. -/
def SeeksAt (s : State) (l : Nat) (place : SearchPlace) : Prop :=
  ∃ e r, entry s l = .enrolled e ∧ e.phase = .seeking r place

/-- A host check slot is QUEUED or RUNNING exactly with the request that the engine holds for it, and the engine holds
each slot's request once (R23, R26). -/
def SlotsMatchEngine (s : State) : Prop :=
  (∀ k job, slotAt s k = .queued job ↔ ⟨.host k, job⟩ ∈ s.engine.queue) ∧
  (∀ k job, slotAt s k = .running job ↔ s.engine.running.map Running.request = some ⟨.host k, job⟩) ∧
  ((engineRequests s).filterMap fun r => match r.client with
    | .host k => some k
    | .internal _ => none).Nodup

/-- The links whose searches are in the engine are the links in SEEKING with place IN_ENGINE, and the links on the
seek wait list those with place WAITING, each once; every internal request is a search (R26, R99, R104, R105). -/
def SearchesPlaced (s : State) : Prop :=
  (∀ r ∈ engineRequests s, isInternal r = true → ∃ q, r.job = .find q) ∧
  (searchingLinks s).Nodup ∧ s.retune.waitList.Nodup ∧
  (∀ l, l ∈ searchingLinks s ↔ SeeksAt s l .inEngine) ∧ ∀ l, l ∈ s.retune.waitList ↔ SeeksAt s l .waiting

/-- The seek wait list is empty whenever the engine holds fewer than two internal requests (R105). -/
def WaitListServed (s : State) : Prop := internalCount s < 2 → s.retune.waitList = []

/-- The searches are placed, at most two of them in the engine, and none waits while there is room (R26, R105). -/
def SearchLaw (s : State) : Prop := SearchesPlaced s ∧ InternalWithinTwo s ∧ WaitListServed s

/-- The links in SEEKING stand once each in the seeking order, and the seek wait list stands in that order: a link that
entered SEEKING earlier before one that entered later (R99, R105). -/
def SeekingInOrder (s : State) : Prop :=
  s.retune.seekOrder.Nodup ∧ (∀ l, l ∈ s.retune.seekOrder ↔ ∃ place, SeeksAt s l place) ∧
  s.retune.waitList.Pairwise fun a b => s.retune.seekOrder.idxOf a < s.retune.seekOrder.idxOf b

/-! ## Tally and return scheduler -/

/-- Every TUNE pending entry is of an ENROLLED CAMERA in ORDERED, and every CUE pending entry of an ENROLLED CAMERA
(R162, R163). -/
def PendingLinksFit (s : State) : Prop :=
  (∀ l ∈ s.ret.tunePending, tuneWanted s l = true) ∧ ∀ l ∈ s.ret.cuePending, isCamera s l = true

/-- The pending sets stand in order, and the PASS queue within its 16 places with payloads of 1 to 16 bytes (R161,
R164). -/
def ReturnInOrder (s : State) : Prop :=
  IndexSet 64 s.ret.tunePending ∧ IndexSet 64 s.ret.cuePending ∧ s.ret.passQueue.length ≤ 16 ∧
  s.ret.sendNumber < 256 ∧ ∀ e ∈ s.ret.passQueue, e.link < 64 ∧ 1 ≤ e.payload.length ∧ e.payload.length ≤ 16

/-- The cue state held for every link is the one computed from its inputs (R124, R125). -/
def CuesComputed (s : State) : Prop := ∀ l < 64, heldCue s l = computedCue s l

/-! ## Talkback feeds -/

/-- The keys that hold a role at an arbiter (R144). -/
def roleKeys (a : Arbiter) : List Nat := a.holder.toList ++ a.saved.map Waiter.key ++ a.waiting.map Waiter.key

/-- The law of a feed arbiter (R142, R145): the levels rise strictly from the holder down the saved stack, each level
on the stack or in the pending set is its key's, under holder DEFAULT stack and pending set are empty, and a key
holds at most one role. -/
def ArbiterLaw (s : State) : Prop :=
  ∀ l,
    let a := arbiterAt s l
    (a.holder = none → a.saved = [] ∧ a.waiting = []) ∧
    (∀ h, a.holder = some h → ∀ w ∈ a.saved, (keyAt s h).level < w.level) ∧
    (a.saved.map Waiter.level).Pairwise (· < ·) ∧
    (∀ w ∈ a.saved ++ a.waiting, w.level = (keyAt s w.key).level) ∧
    (roleKeys a).Nodup

/-- A key holds a role only while it is active, and only at an eligible destination (R145, R149). -/
def RolesBelong (s : State) : Prop :=
  ∀ l k, hasRole k (arbiterAt s l) = true →
    (keyAt s k).active = true ∧ isCamera s l = true ∧ l ∈ (keyAt s k).destinations

/-- The arbiters keep their law and the roles belong to active keys at eligible destinations (R142, R145). -/
def FeedLaw (s : State) : Prop := ArbiterLaw s ∧ RolesBelong s

/-- Every key level is from 0 to 7 and every destination set is a set of link indices (R137). -/
def KeysInRange (s : State) : Prop := ∀ k, (keyAt s k).level ≤ 7 ∧ IndexSet 64 (keyAt s k).destinations

/-- Every key's status is the one computed from its active state and its roles (R152). -/
def StatusesComputed (s : State) : Prop := ∀ k < 32, (keyAt s k).status = computedStatus s k

end Sys2Proof.Machine
end

