-- ==== Sys2Proof/Certificates/Slice0/Obligations.lean ====
section
/-! DEFINITION. What is claimed of the J416, for the provers. Each statement cites in its docstring the rules it
rests on. `MaySend`, `answered` and `refusedWith` are the words of Safety.lean for R179, R174 with R176, and R180.
The byte of on is 0 and of off 1, and the layout and the numbers of some response fields are the model's, by log entries
7 to 10, 20 and 21. -/

open Sys2Proof Sys2Proof.Machine

/-! ## Steps, authority and responses -/

/-- A step with a command at the front of the queue is that command's effect with the queue's rest (the host's
interface; log entry 2). -/
def Obligations.StepRunsFrontCommand : Prop :=
  ∀ (c : Instr) (rest : List Instr) (s : State),
    s.pending = c :: rest → step s = exec c { s with pending := rest }

/-- With no command waiting and nothing arrived the link clock counts one millisecond, from 4,294,967,295 to 0, and
nothing else changes (R79; that an idle step is one millisecond is the model's choice, log entry 3).
Characters waiting with no command are gathered (R175, R190; the list of waiting characters is the model's, log
entry 4). A character that does not end a frame or message extends it and forms a gap deadline of now plus 20 ms;
one that ends it hands over the command its bytes spell, BAD_FRAME or MALFORMED_MESSAGE where they are malformed;
a first byte that is no type of its port is damage.
A transaction of the primary port that has ended is taken (R173, R187): a first byte of 00h makes it a read
transaction, any other a request, or BAD_FRAME where it is malformed, and one without a byte is nothing. -/
def Obligations.IdleSteps : Prop :=
  (∀ s : State, s.pending = [] → s.arriving = [] →
    step s = .next { s with clock := s.clock + 1 } ∧
    (s.clock = 4294967295#32 → s.clock + 1 = 0#32) ∧
    (s.clock ≠ 4294967295#32 → (s.clock + 1).toNat = s.clock.toNat + 1)) ∧
  ((∀ (b : Byte) (rest : List Arrival) (s : State), s.pending = [] → s.arriving = .character .service b :: rest →
    let bytes := partialBytes s.ctl.servicePartial ++ [b]
    (frameEnded .service bytes = false →
      step s = .next { s with arriving := rest, ctl.servicePartial := some ⟨bytes, s.clock + 20#32⟩ }) ∧
    (∀ c, frameEnded .service bytes = true → decodeFrame .service bytes = some c →
      step s = .next { s with arriving := rest, ctl.servicePartial := none, pending := [c] }) ∧
    (frameEnded .service bytes = true → decodeFrame .service bytes = none →
      step s = .next { s with arriving := rest, ctl.servicePartial := none, pending := [.badFrame .service bytes] })) ∧
  (∀ (line : InPort) (b : Byte) (rest : List Arrival) (s : State),
    s.pending = [] → s.arriving = .character (.port line) b :: rest →
    let bytes := partialBytes (portPartial s line) ++ [b]
    let s' := { s with arriving := rest }
    (∀ n, messageCount line bytes = some n → bytes.length < n →
      step s = .next (setPortPartial line (some ⟨bytes, s.clock + 20#32⟩) s')) ∧
    (∀ c, messageComplete line bytes = true → messageMalformed line bytes = false →
      messageCommand line bytes = some c →
      step s = .next { setPortPartial line none s' with pending := [c] }) ∧
    (messageMalformed line bytes = true →
      step s = .next { setPortPartial line none s' with pending := [.malformedMessage line bytes] }) ∧
    (messageCount line bytes = none → step s = .next { s' with pending := [.portByteError line .unknownType] }))) ∧
  (∀ (bytes : List Byte) (rest : List Arrival) (s : State), s.pending = [] → s.arriving = .transaction bytes :: rest →
    let s' := { s with arriving := rest }
    (bytes = [] → step s = .next s') ∧
    (∀ r, bytes = 0#8 :: r → step s = .next { s' with pending := [.readTransaction r.length] }) ∧
    ∀ b r, bytes = b :: r → b ≠ 0#8 →
      (∀ c, decodeFrame .primary bytes = some c → step s = .next { s' with pending := [c] }) ∧
      (decodeFrame .primary bytes = none → step s = .next { s' with pending := [.badFrame .primary bytes] }))

/-- Every command gives a next state: the part refuses a request with a status and discards damage with a flag, and
nothing stops it (R180, R183).
No command touches the queue behind it or what has arrived and is not yet taken (the model's queue, log entries 2
and 4). -/
def Obligations.CommandsComplete : Prop :=
  (∀ (c : Instr) (s : State), ∃ t, exec c s = .next t) ∧
  (∀ (c : Instr) (s t : State), exec c s = .next t → t.pending = s.pending ∧ t.arriving = s.arriving)

/-- A response formed on the primary port is placed in the primary response slot, where it replaces one unread
(R174). On the service port it begins transmission when nothing is in transmission, and otherwise becomes the
waiting response (R176). Nothing else changes. -/
def Obligations.ResponsesArePlaced : Prop :=
  ∀ (r : Response) (s : State),
    respond .primary r s = { s with ctl.responseSlot := some r } ∧
    (s.ctl.serviceSending = none → respond .service r s = { s with ctl.serviceSending := some r }) ∧
    (∀ q, s.ctl.serviceSending = some q → respond .service r s = { s with ctl.serviceWaiting := some r })

/-- A mutating request on the port that does not hold authority is refused NOT_AUTHORITY and changes nothing (R179,
R180 step 2). -/
def Obligations.MutatingNeedsAuthority : Prop :=
  ∀ (i : Instr) (p : Port) (c : RequestCode) (raws : List Raw) (s : State),
    requestParts i = some (p, c, raws) → mutating c = true → s.ctl.owner ≠ p →
    exec i s = .next (refusedWith p c .notAuthority s)

/-- Every request is answered with its own code, and one that is not answered OK carries no fields and changes
nothing but its response (R180, 10.1).
A read is answered on either port, with or without authority, and changes nothing but its response (R179). -/
def Obligations.RefusalsAndReadsChangeNothing : Prop :=
  (∀ (i : Instr) (p : Port) (c : RequestCode) (raws : List Raw) (s : State),
    requestParts i = some (p, c, raws) →
    ∃ st items u, exec i s = .next (respond p ⟨c.number, st, items⟩ u) ∧
      (st ≠ .ok → items = [] ∧ u = completeFrame p s)) ∧
  (∀ (i : Instr) (p : Port) (c : RequestCode) (raws : List Raw) (s : State),
    requestParts i = some (p, c, raws) → isRead c = true →
    ∃ st items, exec i s = .next (respond p ⟨c.number, st, items⟩ (completeFrame p s)))

/-! ## Message formats -/

/-- Decode and encode agree, both ways: the bytes of a frame are read as a request exactly when the request fits its
fields and the bytes are the frame written for it on that port. So every well-formed request reads back from its frame
with every field at every value its bytes admit, no two frames spell one command, and every other run of bytes is
malformed (R186, R187; the widths that R186 does not name are the model's, log entry 8). -/
def Obligations.FrameCodec : Prop :=
  ∀ (i : Instr) (p : Port) (bytes : List Byte),
    decodeFrame p bytes = some i ↔ i.wellFormed = true ∧ encodeFrame i = some (p, bytes)

/-- The message written for a well-formed port message is complete on its port and reads back as that message when
its content is well formed, and as MALFORMED_MESSAGE when it is not, a HEARD report's kind byte being 0 or 1 (R189 to
R191; the byte count for another kind is log entry 13). -/
def Obligations.PortMessagesReadBack : Prop :=
  ∀ (i : Instr) (line : InPort) (bytes : List Byte),
    i.wellFormed = true → encodeMessage i = some (line, bytes) → (∀ r, i = .heard r → r.kind ≤ 1) →
    messageComplete line bytes = true ∧
    (contentMalformed i = false → decodeMessage line bytes = some i) ∧
    (contentMalformed i = true → decodeMessage line bytes = some (.malformedMessage line bytes))

/-- A few frames and messages of the manual's own examples, byte by byte (R186 to R189 and the worked session of
Chapter 11): TALLY.OVERRIDE of link 3 to PROGRAM is 3, 37, 3, 2, and its response 4, 37, 0, PROGRAM, cue byte; the
NOT_READY response is 2, 0, 1; RUN.RESTART has code 56.
Every message out, byte by byte (R189): KEY STATUS with its status numbered IDLE, WAITING, PARTIAL, FULL from 0, ORDER
with FFh for MUTE, and TUNE, CUE and PASS with the send number and the link. -/
def Obligations.ExampleBytes : Prop :=
  decodeFrame .primary [3#8, 37#8, 3#8, 2#8] = some (.tallyOverride .primary 3 2) ∧
  Response.frame ⟨37, .ok, [.one (.choice (overrideNumber .program)), .one (.cue ⟨.program, false, false⟩)]⟩
    = [4#8, 37#8, 0#8, 2#8, 2#8] ∧
  notReadyResponse.frame = [2#8, 0#8, 1#8] ∧
  decodeFrame .service [1#8, 56#8] = some (.runRestart .service) ∧
  decodeFrame .primary [2#8, 57#8, 0#8] = none ∧
  decodeMessage .receiver [0x53#8, 20#8, 0xB0#8] = some (.malformedMessage .receiver [0x53#8, 20#8, 0xB0#8]) ∧
  returnBytes ⟨3, 17, .cue ⟨.program, false, false⟩, 0⟩ = [0x72#8, 17#8, 3#8, 2#8] ∧
  (let byte (n : Nat) : Byte := BitVec.ofNat 8 n
   (∀ k, keyStatusBytes ⟨k, .idle⟩ = [0x4B#8, byte k, 0#8] ∧ keyStatusBytes ⟨k, .waiting⟩ = [0x4B#8, byte k, 1#8] ∧
     keyStatusBytes ⟨k, .partly⟩ = [0x4B#8, byte k, 2#8] ∧ keyStatusBytes ⟨k, .full⟩ = [0x4B#8, byte k, 3#8]) ∧
   (∀ o i d, orderBytes ⟨o, .input i, d⟩ = [0x4F#8, byte o, byte i]) ∧
   (∀ o d, orderBytes ⟨o, .mute, d⟩ = [0x4F#8, byte o, 0xFF#8]) ∧
   (∀ l n c h d, returnBytes ⟨l, n, .tune c h, d⟩ = [0x71#8, byte n, byte l,
     byte (c / 65536), byte (c / 256), byte c, byte (h / 256), byte h]) ∧
   (∀ l n iso talk d,
     let flags := (if iso then 4 else 0) + (if talk then 8 else 0)
     returnBytes ⟨l, n, .cue ⟨.off, iso, talk⟩, d⟩ = [0x72#8, byte n, byte l, byte flags] ∧
     returnBytes ⟨l, n, .cue ⟨.preview, iso, talk⟩, d⟩ = [0x72#8, byte n, byte l, byte (1 + flags)] ∧
     returnBytes ⟨l, n, .cue ⟨.program, iso, talk⟩, d⟩ = [0x72#8, byte n, byte l, byte (2 + flags)]) ∧
   ∀ l n payload d,
     returnBytes ⟨l, n, .pass payload, d⟩ = [0x73#8, byte n, byte l, byte payload.length] ++ payload)

/-! ## Frequency plan -/

/-- GROUP.GET returns the fields of one band group and its member count, the number of plan records of the group
that are not EMPTY, at most 24 where R8 holds; a group above 7 is refused BAD_FIELD; either port may send it, and it
changes nothing (R3). The fields come in the order lower and upper edge, spacing and product guard, two-tone and
three-tone switch, search step and search limit. That the switches are carried as 0 for on and 1 for off, the layout of
the fields, and the number of a pin state are the model's (log entries 8 to 10 and 21).
CLOCK.READ returns the link clock as it stands when the request is taken. It has no fields, is a read accepted
from either request port with or without authority, is answered OK and changes nothing (R81).
LAMP.GET returns one lamp line record, whether the line is lit, and its pin state, as they stand when the request
is taken. It is a read, accepted from either request port. A line above 15 is refused BAD_FIELD. LAMP.GET changes
nothing (R135). -/
def Obligations.StatedReads : Prop :=
  (∀ (p : Port) (g : Nat) (s : State),
    (g ≤ 7 →
      exec (.groupGet p g) s = .next (answered p .groupGet
        (groupItems (look s.plan.groups g) ++ [.one (.word (memberCount s g))]) (completeFrame p s))) ∧
    (7 < g → exec (.groupGet p g) s = .next (refusedWith p .groupGet .badField s)) ∧
    (∀ b : BandGroup, groupItems b =
      [.one (.freq b.lower), .one (.freq b.upper), .one (.word b.spacingGuard), .one (.word b.productGuard),
       .one (.choice (if b.twoTone then 0 else 1)), .one (.choice (if b.threeTone then 0 else 1)),
       .one (.word b.searchStep), .one (.word b.searchLimit)]) ∧
    memberCount s g = s.plan.records.toList.countP (fun r => r.carrier.any fun c => c.group == g) ∧
    (GroupsWithinCapacity s → memberCount s g ≤ 24)) ∧
  ((∀ (p : Port) (s : State), exec (.clockRead p) s =
    .next (answered p .clockRead [.one (.clock s.clock)] (completeFrame p s))) ∧
  (∀ k, RequestCode.clockRead.form k = some []) ∧ isRead .clockRead = true) ∧
  (∀ (p : Port) (n : Nat) (s : State),
    (n ≤ 15 → exec (.lampGet p n) s = .next (answered p .lampGet
      (lampItems (lampLine s n) (lampLit s n) (lampPin s n)) (completeFrame p s))) ∧
    (15 < n → exec (.lampGet p n) s = .next (refusedWith p .lampGet .badField s)) ∧ isRead .lampGet = true)

/-- GROUP.SET writes one group's fields, clamped, and marks the running request stale (R2, R20); an upper edge below
the lower after clamping, or a group above 7, is BAD_FIELD, and so is a switch byte that is neither on nor off.
(That 0 is on is the model's reading, log entry 9, and so is the refusal of such a switch byte, log entry 11.)
PLAN.PUT enters a RESERVED or FOREIGN carrier, clamped, and marks the running request stale; its refusals are
BAD_FIELD, IN_USE and GROUP_FULL, in this order (R16, R8, R20). PLAN.GET and PLAN.LIST read the plan (R18, R19): a
record is answered with its state, numbered EMPTY, RESERVED, ACTIVE, HANDOVER, FOREIGN from 0, and its centre, half
width, group and owner, each where the record holds it (R4; the layout is log entry 10's). -/
def Obligations.GroupAndPlanRequests : Prop :=
  (∀ (p : Port) (g lo up gs gp two three st lim : Nat) (s : State), MaySend p .groupSet s →
    let r : BandGroup := ⟨min 2097151 lo, min 2097151 up, min 255 gs, min 255 gp, two == 0, three == 0,
      max 1 (min 4095 st), max 1 (min 1024 lim)⟩
    (g ≤ 7 → two ≤ 1 → three ≤ 1 → r.lower ≤ r.upper →
      exec (.groupSet p g lo up gs gp two three st lim) s = .next (answered p .groupSet (groupItems r)
        { completeFrame p s with
          plan.groups := put s.plan.groups g r
          engine.running := s.engine.running.map fun q => { q with stale := true } })) ∧
    (7 < g ∨ 1 < two ∨ 1 < three ∨ r.upper < r.lower →
      exec (.groupSet p g lo up gs gp two three st lim) s = .next (refusedWith p .groupSet .badField s))) ∧
  ((∀ (p : Port) (i st c h g : Nat) (s : State), MaySend p .planPut s →
    let carrier : Carrier := ⟨min 2097151 c, max 1 (min 4095 h), g⟩
    let r : PlanRecord := if st = 1 then .reserved carrier else .foreign carrier
    (i ≤ 95 → g ≤ 7 → st = 1 ∨ st = 4 → (planRecord s i).owner = none →
      inGroup g (planRecord s i) = true ∨ memberCount s g < 24 →
      exec (.planPut p i st c h g) s = .next (answered p .planPut (planItems r)
        { completeFrame p s with
          plan.records := put s.plan.records i r
          engine.running := s.engine.running.map fun q => { q with stale := true } })) ∧
    (95 < i ∨ 7 < g ∨ (st ≠ 1 ∧ st ≠ 4) →
      exec (.planPut p i st c h g) s = .next (refusedWith p .planPut .badField s)) ∧
    (∀ o, i ≤ 95 → g ≤ 7 → st = 1 ∨ st = 4 → (planRecord s i).owner = some o →
      exec (.planPut p i st c h g) s = .next (refusedWith p .planPut .inUse s)) ∧
    (i ≤ 95 → g ≤ 7 → st = 1 ∨ st = 4 → (planRecord s i).owner = none →
      inGroup g (planRecord s i) = false → 24 ≤ memberCount s g →
      exec (.planPut p i st c h g) s = .next (refusedWith p .planPut .groupFull s))) ∧
  (∀ (p : Port) (i : Nat) (s : State),
    (i ≤ 95 → exec (.planGet p i) s = .next (answered p .planGet (planItems (planRecord s i)) (completeFrame p s))) ∧
    (95 < i → exec (.planGet p i) s = .next (refusedWith p .planGet .badField s))) ∧
  (let items (state : Nat) (fields : List (List Field)) : List Item := [.one (.choice state), .optional fields]
   planItems .empty = items 0 [[], [], [], []] ∧
   (∀ c, planItems (.reserved c) = items 1 [[.freq c.centre], [.word c.halfWidth], [.index c.group], []]) ∧
   (∀ c o, planItems (.active c o) = items 2 [[.freq c.centre], [.word c.halfWidth], [.index c.group], [.index o]]) ∧
   (∀ c o, planItems (.handover c o) = items 3 [[.freq c.centre], [.word c.halfWidth], [.index c.group], [.index o]]) ∧
   ∀ c, planItems (.foreign c) = items 4 [[.freq c.centre], [.word c.halfWidth], [.index c.group], []]) ∧
  ∀ (p : Port) (g : Nat) (s : State),
    (exec (.planList p 255) s = .next (answered p .planList
      (indexList ((List.range 96).filter fun i => planRecord s i != .empty)) (completeFrame p s))) ∧
    (g ≤ 7 → exec (.planList p g) s = .next (answered p .planList
      (indexList ((List.range 96).filter fun i => (planRecord s i).carrier.any fun c => c.group == g))
      (completeFrame p s))) ∧
    (7 < g → g ≠ 255 → exec (.planList p g) s = .next (refusedWith p .planList .badField s)))

/-- PLAN.DROP: the refusals in order, and otherwise the record becomes EMPTY, its former group's count falls by one,
the request is answered OK and the running request is marked stale, which a refused one is not (R17). -/
def Obligations.PlanDrop : Prop :=
  ∀ (p : Port) (i : Nat) (s : State), MaySend p .planDrop s →
    (95 < i → exec (.planDrop p i) s = .next (refusedWith p .planDrop .badField s)) ∧
    (∀ o, i ≤ 95 → (planRecord s i).owner = some o →
      exec (.planDrop p i) s = .next (refusedWith p .planDrop .inUse s)) ∧
    (i ≤ 95 → planRecord s i = .empty → exec (.planDrop p i) s = .next (refusedWith p .planDrop .badState s)) ∧
    (∀ c, i ≤ 95 → planRecord s i = .reserved c ∨ planRecord s i = .foreign c →
      let t := { completeFrame p s with
        plan.records := put s.plan.records i .empty
        engine.running := s.engine.running.map fun q => { q with stale := true } }
      exec (.planDrop p i) s = .next (answered p .planDrop [] t) ∧ memberCount t c.group + 1 = memberCount s c.group)

/-! ## Compatibility engine -/

/-- CHECK.START and FIND.START take the lowest-numbered EMPTY slot, which becomes QUEUED with the request as clamped,
and the request joins the tail of the engine queue. A group above 7 or a record above 95 is refused BAD_FIELD, then a
named record that is EMPTY BAD_STATE, then, with no slot EMPTY, BUSY (R24, R25, R26). A slot above 3 is BAD_FIELD.
CHECK.READ returns a slot's record and empties a DONE slot only. The record is the slot's state, EMPTY, QUEUED, RUNNING
or DONE from 0, and outside EMPTY the request as held, a CHECK with its candidate or a FIND with its parameters; in
QUEUED the number of requests of the queue before the slot's, the running one not counted; in RUNNING the candidates
evaluated and the stale flag of the running request; in DONE the result: a check's verdict, five counts, worst conflict
and stale flag, or a search's outcome, found centre, candidates tried, last worst conflict and stale flag, a conflict
with its kind, family, overlap, A, B, C3 and victim as far as the kind has them (R23, R30, R41, R44).
CHECK.CANCEL empties a slot in each state but
EMPTY, takes its request out of the queue or abandons it, and leaves the other requests in order; after an abandoned
request the engine starts the head of its queue, which is what ENGINE_START does (R27, R30, R31; that it starts in the
event of the cancel is the model's reading, log entry 19, and the layout of a slot's response is the model's, log
entries 7, 8, 10, 20 and 21). -/
def Obligations.HostCheckRequests : Prop :=
  (∀ (p : Port) (s : State) (k : Nat),
    let queued (job : Job) : State := { completeFrame p s with
      engine.slots := put s.engine.slots k (.queued job)
      engine.queue := s.engine.queue ++ [⟨.host k, job⟩] }
    (k ≤ 3 → slotAt s k = .empty → (∀ j < k, slotAt s j ≠ .empty) →
      (∀ c h g, g ≤ 7 →
        let cand : Carrier := ⟨min 2097151 c, max 1 (min 4095 h), g⟩
        exec (.checkStart p (.explicit c h g)) s =
          .next (answered p .checkStart (.one (.index k) :: candidateItems none cand) (queued (.check none cand)))) ∧
      (∀ i cand, i ≤ 95 → (planRecord s i).carrier = some cand →
        exec (.checkStart p (.record i)) s = .next (answered p .checkStart
          (.one (.index k) :: candidateItems (some i) cand) (queued (.check (some i) cand)))) ∧
      ∀ g lo up st h lim, g ≤ 7 →
        let q : Search := ⟨g, min 2097151 lo, min 2097151 up, max 1 (min 4095 st), max 1 (min 4095 h),
          max 1 (min 1024 lim)⟩
        exec (.findStart p g lo up st h lim) s =
          .next (answered p .findStart (.one (.index k) :: searchItems q) (queued (.find q)))) ∧
    ((∀ j ≤ 3, slotAt s j ≠ .empty) →
      (∀ c h g, g ≤ 7 →
        exec (.checkStart p (.explicit c h g)) s = .next (refusedWith p .checkStart .busy s)) ∧
      (∀ i cand, i ≤ 95 → (planRecord s i).carrier = some cand →
        exec (.checkStart p (.record i)) s = .next (refusedWith p .checkStart .busy s)) ∧
      ∀ g lo up st h lim, g ≤ 7 →
        exec (.findStart p g lo up st h lim) s = .next (refusedWith p .findStart .busy s))) ∧
  (∀ (p : Port) (s : State),
    (∀ c h g, 7 < g →
      exec (.checkStart p (.explicit c h g)) s = .next (refusedWith p .checkStart .badField s)) ∧
    (∀ i, 95 < i → exec (.checkStart p (.record i)) s = .next (refusedWith p .checkStart .badField s)) ∧
    (∀ i, i ≤ 95 → planRecord s i = .empty →
      exec (.checkStart p (.record i)) s = .next (refusedWith p .checkStart .badState s)) ∧
    (∀ g lo up st h lim, 7 < g →
      exec (.findStart p g lo up st h lim) s = .next (refusedWith p .findStart .badField s)) ∧
    ∀ k, 3 < k →
      exec (.checkRead p k) s = .next (refusedWith p .checkRead .badField s) ∧
      exec (.checkCancel p k) s = .next (refusedWith p .checkCancel .badField s)) ∧
  (∀ (p : Port) (k : Nat) (s : State), k ≤ 3 →
    ((∀ job r, slotAt s k ≠ .done job r) →
      exec (.checkRead p k) s = .next (answered p .checkRead
        (slotItems (slotAt s k) (aheadOf k s) (runningProgress s)) (completeFrame p s))) ∧
    (∀ job earlier later, slotAt s k = .queued job → s.engine.queue = earlier ++ ⟨.host k, job⟩ :: later →
      (∀ r ∈ earlier, r.client ≠ .host k) →
      exec (.checkRead p k) s = .next (answered p .checkRead (slotItems (.queued job) earlier.length (0, false))
        (completeFrame p s))) ∧
    (∀ job q, slotAt s k = .running job → s.engine.running = some q →
      exec (.checkRead p k) s = .next (answered p .checkRead (slotItems (.running job) 0 (q.evaluated, q.stale))
        (completeFrame p s))) ∧
    (∀ job r, slotAt s k = .done job r →
      exec (.checkRead p k) s = .next (answered p .checkRead (slotItems (.done job r) 0 (0, false))
        { completeFrame p s with engine.slots := put s.engine.slots k .empty })) ∧
    (slotAt s k = .empty → exec (.checkCancel p k) s = .next (refusedWith p .checkCancel .badState s)) ∧
    (∀ job, slotAt s k = .queued job →
      exec (.checkCancel p k) s = .next (answered p .checkCancel [] { completeFrame p s with
        engine.slots := put s.engine.slots k .empty
        engine.queue := s.engine.queue.filter fun r => r.client != .host k })) ∧
    (∀ job q, slotAt s k = .running job → s.engine.running = some q → q.request.client = .host k →
      ∃ t, exec .engineStart { completeFrame p s with
          engine.slots := put s.engine.slots k .empty
          engine.running := none } = .next t ∧
        exec (.checkCancel p k) s = .next (answered p .checkCancel [] t)) ∧
    (∀ job r, slotAt s k = .done job r →
      exec (.checkCancel p k) s = .next (answered p .checkCancel [] { completeFrame p s with
        engine.slots := put s.engine.slots k .empty }))) ∧
  ∀ (ahead evaluated : Nat) (stale : Bool),
    let items (state : Nat) (fields : List (List Field)) : List Item := [.one (.choice state), .optional fields]
    let absent (n : Nat) : List (List Field) := List.replicate n []
    let request (j : Job) : List (List Field) := match j with
      | .check named c =>
        [[.choice 0], maybe .index named, [.freq c.centre], [.word c.halfWidth], [.index c.group]] ++ absent 6
      | .find q =>
        [.choice 1] :: absent 4 ++ [[.index q.group], [.freq q.lower], [.freq q.upper], [.word q.step],
          [.word q.halfWidth], [.word q.limit]]
    let family (f : Family) : Field := .choice (if f = .membersOnCandidate then 0 else 1)
    let worst (w : Option Conflict) : List (List Field) := match w with
      | none => absent 7
      | some ⟨.edge, x⟩ => [[.choice 0], [], [.word x.toNat], [], [], [], []]
      | some ⟨.spacing v, x⟩ => [[.choice 1], [], [.word x.toNat], [], [], [], [.index v]]
      | some ⟨.occupied b, x⟩ => [[.choice 2], [], [.word x.toNat], [], [], [], [.index b]]
      | some ⟨.im2 f a b v, x⟩ =>
        [[.choice 3], [family f], [.word x.toNat], [.index a], [.index b], [], [.index v]]
      | some ⟨.im3 f a b d v, x⟩ =>
        [[.choice 4], [family f], [.word x.toNat], [.index a], [.index b], [.index d], [.index v]]
    slotItems .empty ahead (evaluated, stale) = items 0 (absent 39) ∧
    (∀ j, slotItems (.queued j) ahead (evaluated, stale) =
      items 1 (request j ++ [[.word ahead], [], []] ++ absent 25)) ∧
    (∀ j, slotItems (.running j) ahead (evaluated, stale) =
      items 2 (request j ++ [[], [.word evaluated], [.flag stale]] ++ absent 25)) ∧
    (∀ j r, slotItems (.done j (.check r)) ahead (evaluated, stale) =
      items 3 (request j ++ absent 3 ++
        [[.choice (if r.worst = none then 0 else 1)], [.word r.counts.edge], [.word r.counts.spacing],
         [.word r.counts.occupied], [.word r.counts.im2], [.word r.counts.im3]] ++ worst r.worst ++
        [[.flag r.stale]] ++ absent 11)) ∧
    ∀ j r, slotItems (.done j (.find r)) ahead (evaluated, stale) =
      items 3 (request j ++ absent 3 ++ absent 14 ++
        [[.choice (if r.found = none then 1 else 0)], maybe .freq r.found, [.word r.tried]] ++ worst r.lastWorst ++
        [[.flag r.stale]])

/-- ENGINE_START: the head of the queue becomes the running request with its stale flag clear and no candidate
evaluated, and a host request's slot becomes RUNNING; a host search whose first candidate leaves the window completes
in its start with NONE and CHECK_END, and the engine starts its next head. Afterwards a request runs or none waits;
plan, survey, tally, feeds, return scheduler, the entries without a search and the slots without a request stay (R27,
R29, R43). That an ENGINE_START which comes where a request runs or none waits changes nothing is the model's choice
(log entry 1, DESIGN CHOICE).
CANDIDATE_EVALUATION of a host request. A check completes with the counts and the worst of its conflicts, as
ProductsAndTheWorstConflict says of `countsOf` and `recorded`; a
search completes at a candidate without conflict, goes on after one with conflicts, and ends with NONE when its next
candidate would leave the window or reach the limit; an internal search goes on in the same way. A completed request's
slot is DONE and CHECK_END is raised, and the engine then starts its head, which is what ENGINE_START does; plan,
survey, directory and every other slot stay (R28, R29, R43, R44; that the start falls in the event of the completion is
the model's reading, log entry 19). -/
def Obligations.EngineStartsAndEvaluations : Prop :=
  (∀ (s : State) (r : EngineRequest) (rest : List EngineRequest),
    s.engine.running = none → s.engine.queue = r :: rest →
    ((∀ q, r.job = .find q → q.lower + q.halfWidth + q.halfWidth ≤ q.upper ∧ 1 ≤ q.limit) →
      exec .engineStart s = .next { s with
        engine.queue := rest
        engine.running := some ⟨r, 0, false⟩
        engine.slots := match r.client with
          | .host k => put s.engine.slots k (.running r.job)
          | .internal _ => s.engine.slots }) ∧
    (∀ k q, r.client = .host k → r.job = .find q → q.upper < q.lower + q.halfWidth + q.halfWidth →
      exec .engineStart s = exec .engineStart { s with
        engine.queue := rest
        engine.slots := put s.engine.slots k (.done r.job (.find ⟨none, 0, none, false⟩))
        ctl.causes := s.ctl.causes ||| causeOnly .checkEnd })) ∧
  (∀ (s : State), s.engine.running ≠ none ∨ s.engine.queue = [] → exec .engineStart s = .next s) ∧
  (∀ (s : State), ∃ t, exec .engineStart s = .next t ∧ (t.engine.running = none → t.engine.queue = []) ∧
    t.plan = s.plan ∧ t.survey = s.survey ∧ t.tally = s.tally ∧ t.talk = s.talk ∧ t.ret = s.ret ∧
    t.dir.capture = s.dir.capture ∧
    (∀ l, (∀ r ∈ s.engine.queue, r.client ≠ .internal l) → l ∉ s.retune.waitList → entry t l = entry s l) ∧
    ∀ k, (∀ r ∈ s.engine.queue, r.client ≠ .host k) → slotAt t k = slotAt s k) ∧
  (∀ (s : State) (r : Running) (k : Nat), s.engine.running = some r → r.request.client = .host k →
    let done (result : EngineResult) : State := { s with
      engine.running := none
      engine.slots := put s.engine.slots k (.done r.request.job result)
      ctl.causes := s.ctl.causes ||| causeOnly .checkEnd }
    (∀ named c, r.request.job = .check named c →
      exec .candidateEvaluation s = exec .engineStart
        (done (.check ⟨countsOf (conflicts s named c), (worstOf (conflicts s named c)).map recorded, r.stale⟩))) ∧
    (∀ q, r.request.job = .find q →
      let cand : Carrier := ⟨q.lower + q.halfWidth + r.evaluated * q.step, q.halfWidth, q.group⟩
      let next := cand.centre + q.step
      (conflicts s none cand = [] →
        exec .candidateEvaluation s =
          exec .engineStart (done (.find ⟨some cand.centre, r.evaluated + 1, none, r.stale⟩))) ∧
      (conflicts s none cand ≠ [] → next + q.halfWidth ≤ q.upper → r.evaluated + 1 < q.limit →
        exec .candidateEvaluation s =
          .next { s with engine.running := some { r with evaluated := r.evaluated + 1 } }) ∧
      (conflicts s none cand ≠ [] → q.upper < next + q.halfWidth ∨ q.limit ≤ r.evaluated + 1 →
        exec .candidateEvaluation s = exec .engineStart (done (.find
          ⟨none, r.evaluated + 1, (worstOf (conflicts s none cand)).map recorded, r.stale⟩))))) ∧
  ∀ (s : State) (r : Running) (l : Nat) (q : Search),
    s.engine.running = some r → r.request = ⟨.internal l, .find q⟩ →
    let centre := q.lower + q.halfWidth + r.evaluated * q.step
    conflicts s none ⟨centre, q.halfWidth, q.group⟩ ≠ [] → centre + q.step + q.halfWidth ≤ q.upper →
    r.evaluated + 1 < q.limit →
    exec .candidateEvaluation s = .next { s with engine.running := some { r with evaluated := r.evaluated + 1 } }

/-- The EDGE comparison: its overlap is the sum of the steps by which the candidate's occupied band reaches below the
lower edge and above the upper edge; a band within the edges, touching them included, has overlap 0 and passes;
where the edges are equal every candidate of half width at least 1 fails; and it is made once, so the EDGE count is 0
or 1 (R35).
The SPACING comparison: a conflict with member v is recorded exactly when v is a plan record of the candidate's
group other than the record that names the candidate, and hC + hv + Gs − |fC − fv| is above 0, and that is its
overlap. Two carriers of half width 20 under a guard of 5 at a distance of 45 have overlap 0, and two bands that meet
at one step under a guard of 0 also (R36). -/
def Obligations.EdgeAndSpacingComparisons : Prop :=
  (∀ (s : State) (named : Option Nat) (c : Carrier),
    let g := look s.plan.groups c.group
    let below : Int := (g.lower : Int) - ((c.centre : Int) - c.halfWidth)
    let above : Int := (c.centre : Int) + c.halfWidth - (g.upper : Int)
    let overlap : Int := (if 0 < below then below else 0) + (if 0 < above then above else 0)
    edgeOverlap g (candidateParty c) = overlap ∧
    (∀ x, (⟨.edge, x⟩ : Conflict) ∈ conflicts s named c ↔ x = overlap ∧ 0 < overlap) ∧
    (below ≤ 0 → above ≤ 0 → overlap = 0) ∧
    (g.lower = g.upper → 1 ≤ c.halfWidth → below + above = 2 * c.halfWidth ∧ 0 < overlap) ∧
    (countsOf (conflicts s named c)).edge ≤ 1) ∧
  ((∀ (s : State) (named : Option Nat) (c : Carrier) (v : Nat) (x : Int),
    (⟨.spacing v, x⟩ : Conflict) ∈ conflicts s named c ↔
      ∃ m : Carrier, (planRecord s v).carrier = some m ∧ m.group = c.group ∧ named ≠ some v ∧
        x = (c.halfWidth : Int) + m.halfWidth + (look s.plan.groups c.group).spacingGuard
          - |(c.centre : Int) - (m.centre : Int)| ∧ 0 < x) ∧
  (∀ (g : BandGroup) (n m : Nat) (f : Int), g.spacingGuard = 5 → spacingOverlap g ⟨n, f, 20⟩ ⟨m, f + 45, 20⟩ = 0) ∧
  ∀ (g : BandGroup) (n m : Nat) (f h k : Int), g.spacingGuard = 0 → 0 ≤ h → 0 ≤ k →
    spacingOverlap g ⟨n, f, h⟩ ⟨m, f + h + k, k⟩ = 0)

/-- A bin is hot when its count is at least 1, its peak at least the hot level, and its span meets no ACTIVE or
HANDOVER record's occupied band; an OCCUPIED conflict is recorded exactly for the hot bins that share steps with the
candidate's guarded band, its overlap their number (R37, R57, R58).
An IM2 conflict is recorded exactly when two-tone checking is on, for three different carriers of the group, the
candidate among them and counted as 96: A, B and the victim, with the overlap of the product 2·A − B; an IM3 conflict
when three-tone checking is on, for four, A below B, with the overlap of A + B − C3. The family is (i) where the
candidate is the victim. So no constituent is a victim (R38 to R40). Every conflict has an overlap above 0.
Each count of a result is the number of conflicts of its kind, over both families, and stops at 255. The worst conflict
is recorded as it is, but that an EDGE overlap above 16,635 is recorded as 16,635; with half widths up to 4,095 and
guards up to 255 every recorded overlap is then 1 to 16,635 (R41).
The worst conflict is one of those found, none has a larger overlap, and none of equal overlap comes before it by
kind, family and carrier numbers (R42). -/
def Obligations.ProductsAndTheWorstConflict : Prop :=
  (∀ (s : State) (named : Option Nat) (c : Carrier),
    let g := look s.plan.groups c.group
    let w := s.survey.window
    let low (b : Nat) : Int := w.start + b * w.width
    let high (b : Nat) : Int := w.start + (b + 1) * w.width - 1
    let carrier (n : Nat) : Option Carrier :=
      if n = 96 then some c
      else if named = some n then none
      else (planRecord s n).carrier.filter fun m => m.group == c.group
    let family (v : Nat) : Family := if v = 96 then .membersOnCandidate else .candidateOnMember
    (∀ b, isHot s b = true ↔ ∃ bin, look s.survey.bins b = some bin ∧ 1 ≤ bin.count ∧ w.hot ≤ bin.peak ∧
      ∀ r m o, planRecord s r = .active m o ∨ planRecord s r = .handover m o →
        (m.centre : Int) + m.halfWidth < low b ∨ high b < (m.centre : Int) - m.halfWidth) ∧
    (∀ b x, (⟨.occupied b, x⟩ : Conflict) ∈ conflicts s named c ↔ isHot s b = true ∧ 0 < x ∧
      x = min ((c.centre : Int) + c.halfWidth + g.spacingGuard) (high b)
        - max ((c.centre : Int) - c.halfWidth - g.spacingGuard) (low b) + 1) ∧
    (∀ f a b v x, (⟨.im2 f a b v, x⟩ : Conflict) ∈ conflicts s named c ↔
      g.twoTone = true ∧ [a, b, v].Nodup ∧ 96 ∈ [a, b, v] ∧ f = family v ∧ 0 < x ∧
      ∃ ca cb cv, carrier a = some ca ∧ carrier b = some cb ∧ carrier v = some cv ∧
        x = 2 * (ca.halfWidth : Int) + cb.halfWidth + cv.halfWidth + g.productGuard
          - |2 * (ca.centre : Int) - cb.centre - cv.centre|) ∧
    (∀ f a b d v x, (⟨.im3 f a b d v, x⟩ : Conflict) ∈ conflicts s named c ↔
      g.threeTone = true ∧ [a, b, d, v].Nodup ∧ a < b ∧ 96 ∈ [a, b, d, v] ∧ f = family v ∧ 0 < x ∧
      ∃ ca cb cd cv, carrier a = some ca ∧ carrier b = some cb ∧ carrier d = some cd ∧ carrier v = some cv ∧
        x = (ca.halfWidth : Int) + cb.halfWidth + cd.halfWidth + cv.halfWidth + g.productGuard
          - |(ca.centre : Int) + cb.centre - cd.centre - cv.centre|) ∧
    (∀ z ∈ conflicts s named c, 0 < z.overlap) ∧
    (CarriersInRange s → c.halfWidth ≤ 4095 → g.spacingGuard ≤ 255 → g.productGuard ≤ 255 →
      ∀ z ∈ conflicts s named c, 1 ≤ (recorded z).overlap ∧ (recorded z).overlap ≤ 16635)) ∧
  (∀ (cs : List Conflict),
    let count (kind : ConflictKind → Bool) : Nat := min 255 (cs.countP fun z => kind z.kind)
    countsOf cs = {
      edge := count fun k => match k with
        | .edge => true
        | _ => false
      spacing := count fun k => match k with
        | .spacing _ => true
        | _ => false
      occupied := count fun k => match k with
        | .occupied _ => true
        | _ => false
      im2 := count fun k => match k with
        | .im2 _ _ _ _ => true
        | _ => false
      im3 := count fun k => match k with
        | .im3 _ _ _ _ _ => true
        | _ => false }) ∧
  (∀ z : Conflict, (z.kind = .edge → recorded z = ⟨.edge, if 16635 < z.overlap then 16635 else z.overlap⟩) ∧
    (z.kind ≠ .edge → recorded z = z)) ∧
  (∀ (cs : List Conflict),
    (worstOf cs = none ↔ cs = []) ∧
    ∀ w, worstOf cs = some w → w ∈ cs ∧
      ∀ c ∈ cs, c.overlap ≤ w.overlap ∧ (c.overlap = w.overlap → keyBefore (tieKey c.kind) (tieKey w.kind) = false))

/-- An internal search that finds a candidate, not stale, with an EMPTY record in the plan and room in the group:
the lowest EMPTY record becomes HANDOVER with the found centre and the link as owner, the link goes to ORDERED with
it as new carrier, a CAMERA's TUNE is set pending, and the link enters the changed-link set; the seek wait list is
then served, every other record and every entry that does not wait staying, all while no request runs; from the state
`u` so reached the engine starts the head of its queue, which is what ENGINE_START does (R11, R27, R29, R105, R108,
R109; that it starts in the event of the completion is the model's reading, log entry 19). -/
def Obligations.FoundCarrierOpens : Prop :=
  ∀ (s : State) (r : Running) (l n : Nat) (q : Search) (e : EnrolledLink) (rec_ : RetuneRecord) (c : Carrier),
    s.engine.running = some r → r.request = ⟨.internal l, .find q⟩ → r.stale = false →
    entry s l = .enrolled e → e.phase = .seeking rec_ .inEngine → (planRecord s e.carrier).carrier = some c →
    conflicts s none ⟨q.lower + q.halfWidth + r.evaluated * q.step, q.halfWidth, q.group⟩ = [] →
    n ≤ 95 → planRecord s n = .empty → (∀ j < n, planRecord s j ≠ .empty) → memberCount s c.group < 24 →
    l ∉ s.retune.waitList →
    ∃ u t, exec .engineStart u = .next t ∧ exec .candidateEvaluation s = .next t ∧
      planRecord u n = .handover ⟨q.lower + q.halfWidth + r.evaluated * q.step, c.halfWidth, c.group⟩ l ∧
      entry u l = .enrolled { e with phase := .ordered rec_ n } ∧
      (isCamera s l = true → l ∈ u.ret.tunePending) ∧ (isCamera s l = false → u.ret = s.ret) ∧
      l ∈ u.ctl.changed ∧ u.engine.running = none ∧ ListServed s.engine.queue s.retune.waitList s u ∧
      (∀ j, j ≠ n → planRecord u j = planRecord s j) ∧
      (∀ j, j ≠ l → j ∉ s.retune.waitList → entry u j = entry s j) ∧
      u.ctl.causes = s.ctl.causes ∧ u.ret.cuePending = s.ret.cuePending ∧
      u.tally = s.tally ∧ u.talk = s.talk ∧ u.survey = s.survey ∧ u.engine.slots = s.engine.slots ∧
      t.plan = u.plan ∧ t.ret = u.ret

/-! ## Occupancy survey -/

/-- The requests of the survey: SURVEY.SETUP while no job runs writes the clamped window and empties every bin, and is
refused BUSY while one runs (R46); SURVEY.START makes the job RUNNING with its count, 0 and above 256 taken as 256, and
is refused BAD_FIELD, BUSY and IN_USE in this order (R51); SURVEY.STOP ends a RUNNING job with STOPPED, and is refused
BAD_FIELD, and BAD_STATE for a job that does not run (R52); SURVEY.READ and BINS.READ read (R53, R48); BINS.CLEAR
empties a run of bins and keeps the others (R49); each refuses BAD_FIELD a job or bin out of range, and a run that is
reversed or, for BINS.READ, longer than 64 bins. The window is answered as start, bin width and hot level, and a job as
its state, IDLE, RUNNING or ENDED from 0, its receiver, bin pointer, remaining count, mode and watch level, and once it
has ended the end reason and the hit bin of WATCH_HIT (the layout is log entries 8 and 10's). -/
def Obligations.SurveyRequests : Prop :=
  (∀ (p : Port) (st w : Nat) (hot : Int) (s : State), MaySend p .surveySetup s →
    (∀ j r, jobAt s j ≠ .running r) →
    let window : SurveyWindow := ⟨min 2097151 st, max 1 (min 4095 w), max (-127) (min 0 hot)⟩
    exec (.surveySetup p st w hot) s = .next (answered p .surveySetup (windowItems window)
      { completeFrame p s with survey.window := window, survey.bins := Vector.replicate 256 none })) ∧
  (∀ (p : Port) (st w : Nat) (hot : Int) (s : State), MaySend p .surveySetup s → (∃ j r, jobAt s j = .running r) →
    exec (.surveySetup p st w hot) s = .next (refusedWith p .surveySetup .busy s)) ∧
  (∀ (p : Port) (s : State),
    (∀ j receiver b n mode x, MaySend p .surveyStart s → 3 < j ∨ 15 < receiver ∨ 255 < b ∨ 1 < mode →
      exec (.surveyStart p j receiver b n mode x) s = .next (refusedWith p .surveyStart .badField s)) ∧
    (∀ j, MaySend p .surveyStop s → 3 < j →
      exec (.surveyStop p j) s = .next (refusedWith p .surveyStop .badField s)) ∧
    (∀ j, MaySend p .surveyStop s → j ≤ 3 → (∀ r, jobAt s j ≠ .running r) →
      exec (.surveyStop p j) s = .next (refusedWith p .surveyStop .badState s)) ∧
    (∀ j, 3 < j → exec (.surveyRead p j) s = .next (refusedWith p .surveyRead .badField s)) ∧
    (∀ a b, 255 < a ∨ 255 < b ∨ b < a ∨ 63 < b - a →
      exec (.binsRead p a b) s = .next (refusedWith p .binsRead .badField s)) ∧
    ∀ a b, MaySend p .binsClear s → 255 < a ∨ 255 < b ∨ b < a →
      exec (.binsClear p a b) s = .next (refusedWith p .binsClear .badField s)) ∧
  (∀ (p : Port) (j receiver b n mode : Nat) (x : Int) (s : State), MaySend p .surveyStart s →
    j ≤ 3 → receiver ≤ 15 → b ≤ 255 → mode ≤ 1 →
    let m : SurveyMode := if mode = 0 then .sweep else .watch (max (-127) (min 0 x))
    let job : SurveyJob := .running ⟨receiver, b, if n = 0 ∨ 256 < n then 256 else n, m⟩
    ((∀ r, jobAt s j ≠ .running r) → (∀ i r, jobAt s i = .running r → r.receiver ≠ receiver) →
      exec (.surveyStart p j receiver b n mode x) s = .next (answered p .surveyStart (jobItems job)
        { completeFrame p s with survey.jobs := put s.survey.jobs j job })) ∧
    (∀ r, jobAt s j = .running r →
      exec (.surveyStart p j receiver b n mode x) s = .next (refusedWith p .surveyStart .busy s)) ∧
    (∀ i r, (∀ r, jobAt s j ≠ .running r) → jobAt s i = .running r → r.receiver = receiver →
      exec (.surveyStart p j receiver b n mode x) s = .next (refusedWith p .surveyStart .inUse s))) ∧
  (∀ (p : Port) (j : Nat) (r : JobRun) (s : State), MaySend p .surveyStop s → jobAt s j = .running r →
    exec (.surveyStop p j) s = .next (answered p .surveyStop []
      { completeFrame p s with survey.jobs := put s.survey.jobs j (.ended r .stopped) })) ∧
  (∀ (p : Port) (j : Nat) (s : State), j ≤ 3 →
    exec (.surveyRead p j) s = .next (answered p .surveyRead (jobItems (jobAt s j)) (completeFrame p s))) ∧
  (∀ (p : Port) (a b : Nat) (s : State), a ≤ b → b ≤ 255 → b - a ≤ 63 →
    exec (.binsRead p a b) s = .next (answered p .binsRead
      (windowItems s.survey.window ++ (List.range' a (b + 1 - a)).map fun i => .one (.bin (look s.survey.bins i)))
      (completeFrame p s))) ∧
  (∀ (p : Port) (a b : Nat) (s : State), MaySend p .binsClear s → a ≤ b → b ≤ 255 →
    ∃ bins, exec (.binsClear p a b) s =
        .next (answered p .binsClear [] { completeFrame p s with survey.bins := bins }) ∧
      ∀ i, look bins i = if a ≤ i ∧ i ≤ b then none else look s.survey.bins i) ∧
  (∀ w : SurveyWindow, windowItems w = [.one (.freq w.start), .one (.word w.width), .one (.level w.hot)]) ∧
  ∀ (receiver pointer remaining : Nat) (m : SurveyMode),
    let items (state : Nat) (ended : List (List Field)) : List Item :=
      [.one (.choice state), .optional ([[.index receiver], [.index pointer], [.word remaining],
        [.choice (if m = .sweep then 0 else 1)], match m with
          | .sweep => []
          | .watch level => [.level level]] ++ ended)]
    let run : JobRun := ⟨receiver, pointer, remaining, m⟩
    jobItems .idle = [.one (.choice 0), .optional (List.replicate 7 [])] ∧
    jobItems (.running run) = items 1 [[], []] ∧
    jobItems (.ended run .count) = items 2 [[.choice 0], []] ∧
    (∀ b, jobItems (.ended run (.watchHit b)) = items 2 [[.choice 1], [.index b]]) ∧
    jobItems (.ended run .stopped) = items 2 [[.choice 2], []] ∧
    jobItems (.ended run .restart) = items 2 [[.choice 3], []]

/-- A well-formed SAMPLE is filed by the RUNNING job of its receiver into the job's pointer bin: the last level is the
sample, clamped, the peak the larger, the count one more up to 255; the pointer moves on, from 255 to 0, and remaining
falls by one; the job ends with COUNT at 0, else a WATCH job with WATCH_HIT at a sample at or above its level, and
SURVEY_END is raised exactly then. Other bins and jobs stay (R47, R54, R55). With no RUNNING job for the receiver the
sample is discarded (R56), and above receiver 15 it is malformed (R191). -/
def Obligations.SampleFiling : Prop :=
  ∀ (receiver : Nat) (x : Int) (s : State),
    let level := max (-127) (min 0 x)
    (∀ j r, receiver ≤ 15 → jobAt s j = .running r → r.receiver = receiver → JobsInOrder s →
      let run : JobRun := { r with pointer := (r.pointer + 1) % 256, remaining := r.remaining - 1 }
      let job : SurveyJob := if run.remaining = 0 then .ended run .count else match r.mode with
        | .sweep => .running run
        | .watch w => if w ≤ level then .ended run (.watchHit r.pointer) else .running run
      ∃ t, exec (.sample receiver x) s = .next t ∧
        jobAt t j = job ∧ (∀ i, i ≠ j → jobAt t i = jobAt s i) ∧
        look t.survey.bins r.pointer = some (match look s.survey.bins r.pointer with
          | none => ⟨1, level, level⟩
          | some b => ⟨min 255 (b.count + 1), level, max b.peak level⟩) ∧
        (∀ b, b ≠ r.pointer → look t.survey.bins b = look s.survey.bins b) ∧
        t.ctl.causes = (if job.isRunning then s.ctl.causes else s.ctl.causes ||| causeOnly .surveyEnd) ∧
        t.survey.window = s.survey.window ∧ t.plan = s.plan ∧ t.dir = s.dir ∧ t.engine = s.engine ∧
        t.ctl.faults = s.ctl.faults ∧ t.ports = { s.ports with receiver := none }) ∧
    (receiver ≤ 15 → (∀ j r, jobAt s j = .running r → r.receiver ≠ receiver) →
      exec (.sample receiver x) s = .next { s with ports.receiver := none }) ∧
    (15 < receiver → exec (.sample receiver x) s =
      .next (framingFault (.port .receiver) { s with ports.receiver := none }))

/-! ## Link directory -/

/-- LINK.NOTE makes an entry that is not ENROLLED NOTED with the ID and kind given. It keeps last heard and the kept
retune result only where the entry was NOTED with the same ID, and only then adds nothing to the changed-link set. An
index above 63 or a kind that is neither CAMERA nor MIC is refused BAD_FIELD, an ENROLLED entry IN_USE and an ID held
by another entry DUPLICATE, in this order (R62, R71).
LINK.SET replaces the parameters given, clamped, and keeps those omitted; the loss time is then not below the
fade time; setting auto-retune off stops a running retune-delay timer, and nothing else of the entry or the part
changes. An index above 63 is refused BAD_FIELD and an entry that is not ENROLLED BAD_STATE (R74; that 0 is on is the
model's reading, log entry 9, and so is BAD_FIELD for a byte that is neither on nor off, log entry 11). -/
def Obligations.LinkNoteAndSet : Prop :=
  (∀ (p : Port) (i id kind : Nat) (s : State), MaySend p .linkNote s → i ≤ 63 → kind ≤ 1 →
    let k : Kind := if kind = 0 then .camera else .mic
    (∀ n, entry s i = .noted n → n.ident = id → (∀ j, j ≠ i → entryIdent (entry s j) ≠ some id) →
      let e : LinkEntry := .noted ⟨id, k, n.lastHeard, n.lastResult⟩
      exec (.linkNote p i id kind) s =
        .next (answered p .linkNote (entryItems e) (setEntry i e (completeFrame p s)))) ∧
    ((entry s i).isEnrolled = false → entryIdent (entry s i) ≠ some id →
      (∀ j, j ≠ i → entryIdent (entry s j) ≠ some id) →
      let e : LinkEntry := .noted ⟨id, k, none, none⟩
      exec (.linkNote p i id kind) s =
        .next (answered p .linkNote (entryItems e) (markChanged i (setEntry i e (completeFrame p s))))) ∧
    ((entry s i).isEnrolled = true →
      exec (.linkNote p i id kind) s = .next (refusedWith p .linkNote .inUse s)) ∧
    (∀ j, (entry s i).isEnrolled = false → j ≠ i → entryIdent (entry s j) = some id →
      exec (.linkNote p i id kind) s = .next (refusedWith p .linkNote .duplicate s))) ∧
  (∀ (p : Port) (i : Nat) (q : LinkParams) (e : EnrolledLink) (s : State), MaySend p .linkSet s →
    entry s i = .enrolled e → (∀ a, q.autoRetune = some a → a ≤ 1) →
    let held := e.settings
    let fade := match q.fadeTime with
      | some n => max 10 (min 10000 n)
      | none => held.fadeTime
    let loss := match q.lossTime with
      | some n => max 100 (min 60000 n)
      | none => held.lossTime
    let auto := match q.autoRetune with
      | some a => a == 0
      | none => held.autoRetune
    let settings : LinkSettings := ⟨(q.floor.map (min 63)).getD held.floor, fade, max loss fade, auto,
      (q.retuneDelay.map (min 10000)).getD held.retuneDelay⟩
    let e' : EnrolledLink := { e with settings := settings, delayTimer := if auto then e.delayTimer else none }
    exec (.linkSet p i q) s =
      .next (answered p .linkSet (entryItems (.enrolled e')) (setEntry i (.enrolled e') (completeFrame p s)))) ∧
  (∀ (p : Port) (i id kind : Nat) (s : State), MaySend p .linkNote s → 63 < i ∨ 1 < kind →
    exec (.linkNote p i id kind) s = .next (refusedWith p .linkNote .badField s)) ∧
  ∀ (p : Port) (i : Nat) (q : LinkParams) (s : State), MaySend p .linkSet s →
    (63 < i ∨ (∃ a, q.autoRetune = some a ∧ 1 < a) →
      exec (.linkSet p i q) s = .next (refusedWith p .linkSet .badField s)) ∧
    (i ≤ 63 → (∀ a, q.autoRetune = some a → a ≤ 1) → (entry s i).isEnrolled = false →
      exec (.linkSet p i q) s = .next (refusedWith p .linkSet .badState s))

/-- An accepted LINK.ENROLL: the record is ACTIVE with the link as owner, the entry ENROLLED with the clamped
parameters, presence STANDBY, phase NONE, result NONE, override AUTO and no times; the link enters the changed-link
set; its cue state is the computed one; a CAMERA's output has an order, and no CUE is set pending. Its arbiter is
seeded: cleared but for the default input, then requested by the active keys whose destinations contain the link, in
ascending order, as `requestFeed` takes a request, so that those keys and no others hold a role there. Every key's
status follows: it is the computed one, and the status pending flag of a key is set where its status has changed (R152).
The running engine request is marked stale. Nothing else changes: every other record, entry and cue state, the orders of
the other outputs, the confirmed inputs and the order in flight, the keys' own fields, the tally's map, sources and
lamps, and with a MIC the whole of the feed unit (R10, R20, R73, R126, R148; that 0 is on is the model's reading, log
entry 9).
The refusals in their order: BAD_FIELD, IN_USE, DUPLICATE for the ID, DUPLICATE for a CAMERA's output, BAD_STATE (R72;
BAD_FIELD for an auto-retune byte that is neither on nor off is log entry 11). -/
def Obligations.LinkEnroll : Prop :=
  (∀ (p : Port) (i id kind r o : Nat) (q : LinkParams) (c : Carrier) (s : State), MaySend p .linkEnroll s →
    i ≤ 63 → kind ≤ 1 → (kind = 0 → o ≤ 127) → (∀ a, q.autoRetune = some a → a ≤ 1) →
    (entry s i).isEnrolled = false → (∀ j, j ≠ i → entryIdent (entry s j) ≠ some id) →
    (kind = 0 → ∀ j, j ≠ i → cameraOutput s j ≠ some o) → planRecord s r = .reserved c →
    let fade := max 10 (min 10000 (q.fadeTime.getD 300))
    let loss := max (max 100 (min 60000 (q.lossTime.getD 2000))) fade
    let e : EnrolledLink := {
      ident := id, role := if kind = 0 then .camera o 0 else .mic, carrier := r
      settings := ⟨min 63 (q.floor.getD 12), fade, loss, q.autoRetune == some 0, min 10000 (q.retuneDelay.getD 1000)⟩
      presence := .standby, lastHeard := none, lastGood := none, bestReceiver := none, lastMargin := none
      delayTimer := none, phase := .none, lastResult := .none, tally := .auto }
    ∃ t, exec (.linkEnroll p i id kind r q o) s = .next (answered p .linkEnroll (entryItems (.enrolled e)) t) ∧
      entry t i = .enrolled e ∧ (∀ j, j ≠ i → entry t j = entry s j) ∧
      planRecord t r = .active c i ∧ (∀ j, j ≠ r → planRecord t j = planRecord s j) ∧
      t.ctl.changed = setAdd i s.ctl.changed ∧ heldCue t i = computedCue t i ∧
      (∀ j, j ≠ i → heldCue t j = heldCue s j) ∧
      (kind = 0 → (look t.talk.orders o).isSome = true ∧ look t.talk.orders o = some (feedInput t (arbiterAt t i))) ∧
      (kind = 0 →
        (∀ k, hasRole k (arbiterAt t i) = true ↔ k ≤ 31 ∧ (keyAt s k).active = true ∧ i ∈ (keyAt s k).destinations) ∧
        let cleared : State := setEntry i (.enrolled e)
          (setArbiter i { Arbiter.reset with defaultInput := (arbiterAt s i).defaultInput } s)
        arbiterAt t i = arbiterAt ((List.range 32).foldl
          (fun u k => if (keyAt s k).active ∧ i ∈ (keyAt s k).destinations then requestFeed k i u else u) cleared) i) ∧
      (∀ j, j ≠ i → arbiterAt t j = arbiterAt s j) ∧ KeysKept s t ∧ (kind = 0 → StatusesFollow s t) ∧
      (kind = 0 → ∀ x, x ≠ o → look t.talk.orders x = look s.talk.orders x) ∧ (kind = 1 → t.talk = s.talk) ∧
      t = { completeFrame p s with
        plan := { s.plan with records := t.plan.records }
        dir := { s.dir with entries := t.dir.entries }
        engine := { s.engine with running := s.engine.running.map fun q => { q with stale := true } }
        tally := { s.tally with cues := t.tally.cues }
        talk := { s.talk with keys := t.talk.keys, arbiters := t.talk.arbiters, orders := t.talk.orders }
        ctl.changed := setAdd i s.ctl.changed }) ∧
  ∀ (p : Port) (i id kind r o : Nat) (q : LinkParams) (s : State), MaySend p .linkEnroll s →
    let refused (st : Status) : Prop :=
      exec (.linkEnroll p i id kind r q o) s = .next (refusedWith p .linkEnroll st s)
    let badField : Prop := 63 < i ∨ 95 < r ∨ 1 < kind ∨ (kind = 0 ∧ 127 < o) ∨ ∃ a, q.autoRetune = some a ∧ 1 < a
    let inUse : Prop := (entry s i).isEnrolled = true
    let idHeld : Prop := ∃ j, j ≠ i ∧ entryIdent (entry s j) = some id
    let outputHeld : Prop := kind = 0 ∧ ∃ j, j ≠ i ∧ cameraOutput s j = some o
    (badField → refused .badField) ∧
    (¬ badField → inUse → refused .inUse) ∧
    (¬ badField → ¬ inUse → idHeld → refused .duplicate) ∧
    (¬ badField → ¬ inUse → ¬ idHeld → outputHeld → refused .duplicate) ∧
    (¬ badField → ¬ inUse → ¬ idHeld → ¬ outputHeld → (∀ c, planRecord s r ≠ .reserved c) → refused .badState)

/-- LINK.RETIRE of an enrolled link: its ACTIVE record becomes RESERVED and a HANDOVER record EMPTY, every other record
staying; the entry becomes NOTED with its ID, kind, last heard and retune result, RETIRED where a retune was aborted,
which raises RETUNE_END; the cue state is all off, a CAMERA's arbiter is cleared with a mute order, its holder DEFAULT,
its stack and pending set empty, last granted none at every level and its default input kept, and its CUE and PASS
entries are removed, the other PASS entries keeping their order; the link enters the changed-link set. At a CAMERA every
key's status follows, a key's status pending flag being set where its status has changed, and the other arbiters and
orders and the keys' own fields stay; at a MIC the whole of the feed unit does (R75, R112, R115, R126, R149, R152,
R164). The request that runs at the end is marked stale: the one that ran, or, where the link's own search
ran and was abandoned, the head that the engine then started, as ENGINE_START does, before the record was released
(R20, R32; that it starts in this event is the model's reading, log entry 19). LINK.ERASE does the same and leaves the
entry VACANT; a NOTED entry it only empties (R76). Other entries keep their IDs and cue states. Both refuse BAD_FIELD
an index above 63, and BAD_STATE an entry that is not ENROLLED, for LINK.ERASE one that is VACANT. -/
def Obligations.RetireAndErase : Prop :=
  (∀ (p : Port) (i : Nat) (e : EnrolledLink) (c : Carrier) (s : State), entry s i = .enrolled e →
    planRecord s e.carrier = .active c i →
    (∀ r n, e.phase = .ordered r n → ∃ d, planRecord s n = .handover d i) →
    let starts : Prop := ∃ q r, s.engine.running = some q ∧ q.request.client = .internal i ∧
      e.phase = .seeking r .inEngine
    ∃ t,
      (MaySend p .linkRetire s → exec (.linkRetire p i) s = .next (answered p .linkRetire [] t)) ∧
      (MaySend p .linkErase s → exec (.linkErase p i) s = .next (answered p .linkErase [] (setEntry i .vacant t))) ∧
      entry t i = .noted ⟨e.ident, roleKind e.role, e.lastHeard,
        some (if e.phase = .none then e.lastResult else .retired)⟩ ∧
      planRecord t e.carrier = .reserved c ∧
      (∀ r n, e.phase = .ordered r n → planRecord t n = .empty ∧ i ∉ t.ret.tunePending) ∧
      (∀ j, j ≠ e.carrier → (∀ r n, e.phase = .ordered r n → j ≠ n) → planRecord t j = planRecord s j) ∧
      (∀ q, t.engine.running = some q → q.stale = true) ∧
      (¬ starts → t.ctl.causes = (if e.phase = .none then s.ctl.causes else s.ctl.causes ||| causeOnly .retuneEnd)) ∧
      (∀ c, causeIsSet c s = true → causeIsSet c t = true) ∧ (e.phase ≠ .none → causeIsSet .retuneEnd t = true) ∧
      ((∀ r place, e.phase ≠ .seeking r place) → t.engine =
        { s.engine with running := s.engine.running.map fun q => { q with stale := true } }) ∧
      (starts → i ∉ s.retune.waitList → ∃ u v, u.engine.running = none ∧
        ListServed (s.engine.queue.filter fun r => r.client != .internal i) s.retune.waitList s u ∧
        exec .engineStart u = .next v ∧
        t.engine = { v.engine with running := v.engine.running.map fun q => { q with stale := true } }) ∧
      heldCue t i = .allOff ∧ i ∈ t.ctl.changed ∧ i ∉ t.ret.cuePending ∧
      t.ret.passQueue = s.ret.passQueue.filter (fun x => x.link != i) ∧
      (∀ o, cameraOutput s i = some o → o ≤ 127 →
        look t.talk.orders o = some .mute ∧
        arbiterAt t i = { Arbiter.reset with defaultInput := (arbiterAt s i).defaultInput }) ∧
      (∀ o, cameraOutput s i = some o → StatusesFollow s t ∧
        ∀ x, x ≠ o → look t.talk.orders x = look s.talk.orders x) ∧
      (cameraOutput s i = none → t.talk = s.talk) ∧ KeysKept s t ∧ (∀ j, j ≠ i → arbiterAt t j = arbiterAt s j) ∧
      t.talk = { s.talk with keys := t.talk.keys, arbiters := t.talk.arbiters, orders := t.talk.orders } ∧
      (∀ j, j ≠ i → entryIdent (entry t j) = entryIdent (entry s j) ∧ heldCue t j = heldCue s j) ∧
      t.ret.inFlight = s.ret.inFlight ∧ t.tally = { s.tally with cues := t.tally.cues } ∧ t.survey = s.survey ∧
      t.dir = { s.dir with entries := t.dir.entries }) ∧
  (∀ (p : Port) (i : Nat) (n : NotedLink) (s : State), MaySend p .linkErase s → entry s i = .noted n →
    exec (.linkErase p i) s =
      .next (answered p .linkErase [] (markChanged i (setEntry i .vacant (completeFrame p s))))) ∧
  ∀ (p : Port) (i : Nat) (s : State),
    (MaySend p .linkRetire s →
      (63 < i → exec (.linkRetire p i) s = .next (refusedWith p .linkRetire .badField s)) ∧
      (i ≤ 63 → (entry s i).isEnrolled = false →
        exec (.linkRetire p i) s = .next (refusedWith p .linkRetire .badState s))) ∧
    (MaySend p .linkErase s →
      (63 < i → exec (.linkErase p i) s = .next (refusedWith p .linkErase .badField s)) ∧
      (i ≤ 63 → entry s i = .vacant → exec (.linkErase p i) s = .next (refusedWith p .linkErase .badState s)))

/-- LINK.PROBE is the lookup of a HEARD report's first step: OK with the index and lifecycle of the entry that holds
the ID, NOT_FOUND when none does. Its frame gives the ID 24 bits. It is accepted from either port, moves no rover,
captures nothing and admits nothing: nothing but the response changes (R66, with the IDs distinct as R60 has them). -/
def Obligations.LinkProbe : Prop :=
  (∀ (p : Port) (id i : Nat) (s : State), IdentsDistinct s → entryIdent (entry s i) = some id →
    exec (.linkProbe p id) s = .next (answered p .linkProbe
      [.one (.index i), .one (.choice (lifecycleNumber (entry s i)))] (completeFrame p s)) ∧ probe s id = some i) ∧
  (∀ (p : Port) (id : Nat) (s : State), (∀ i, entryIdent (entry s i) ≠ some id) →
    exec (.linkProbe p id) s = .next (refusedWith p .linkProbe .notFound s)) ∧
  ∀ k, RequestCode.linkProbe.form k = some [.u24]

/-- The directory's other requests: LINK.GET reads an entry (R77): its lifecycle, VACANT, NOTED or ENROLLED from 0, and
each field of the table of 4.1 that the entry holds, in the table's order, a VACANT entry its lifecycle alone, a NOTED
one its ID, kind, last heard and kept retune result (R59). LINK.CHANGES returns the changed-link set and
empties it (R62, R184); CAPTURE.READ returns the capture slot and empties it, clearing no cause (R68); DIRECTORY.PIN
writes the pin bound and sets the rover to 63, above 48 being refused (R63); DIRECTORY.ADMIT writes the auto-admit
setting and DIRECTORY.GET reads (R64). LINK.GET refuses BAD_FIELD an index above 63, and DIRECTORY.ADMIT a byte that is
neither on nor off (log entry 11). A full capture slot is answered with its kind, UNKNOWN 0 or MISTUNED 1, and the
report's ID, kind, receiver, frequency, level and margin, the time and "more". That 0 is on, the layout of the fields
and the capture slot's state as 0 empty and 1 full are the model's reading (log entries 8 to 10). -/
def Obligations.DirectoryRequests : Prop :=
  (let items (state : Nat) (fields : List (List Field)) : List Item := [.one (.choice state), .optional fields]
   let kind (k : Kind) : List Field := [.choice (if k = .camera then 0 else 1)]
   let result (r : RetuneResult) : List Field := [.choice (match r with
     | .none => 0
     | .done => 1
     | .noCarrier => 2
     | .tableFull => 3
     | .groupFull => 4
     | .timeout => 5
     | .halted => 6
     | .retired => 7
     | .restart => 8)]
   entryItems .vacant = items 0 (List.replicate 19 []) ∧
   (∀ n : NotedLink, entryItems (.noted n) = items 1 ([[.ident n.ident], kind n.kind, maybe .clock n.lastHeard] ++
     List.replicate 12 [] ++ [(n.lastResult.map result).getD [], [], [], []])) ∧
   (∀ e : EnrolledLink,
     let newCarrier : List Field := match e.phase with
       | .ordered _ n => [.index n]
       | _ => []
     let presence : Nat := match e.presence with
       | .standby => 0
       | .live => 1
       | .fading => 2
       | .lost => 3
     let phase : Nat := match e.phase with
       | .none => 0
       | .seeking _ _ => 1
       | .ordered _ _ => 2
     let tally : Nat := match e.tally with
       | .auto => 0
       | .dark => 1
       | .program => 2
       | .preview => 3
     let fields (k : Kind) (output mismatch : List Field) : List (List Field) :=
       [[.ident e.ident], kind k, maybe .clock e.lastHeard, [.index e.carrier], newCarrier, [.choice presence],
        maybe .clock e.lastGood, maybe .index e.bestReceiver, maybe .small e.lastMargin, [.small e.settings.floor],
        [.word e.settings.fadeTime], [.word e.settings.lossTime], [.choice (if e.settings.autoRetune then 0 else 1)],
        [.word e.settings.retuneDelay], [.choice phase], result e.lastResult, output, [.choice tally], mismatch]
     (e.role = .mic → entryItems (.enrolled e) = items 2 (fields .mic [] [])) ∧
     ∀ o n, e.role = .camera o n → entryItems (.enrolled e) = items 2 (fields .camera [.index o] [.word n])) ∧
   captureItems none = items 0 (List.replicate 9 []) ∧
   ∀ c : Capture, captureItems (some c) = items 1 [[.choice (if c.kind = .unknown then 0 else 1)], [.ident c.ident],
     kind c.reportedKind, [.index c.receiver], [.freq c.freq], [.level c.level], [.small c.margin], [.clock c.time],
     [.flag c.more]]) ∧
  ∀ (p : Port) (s : State),
    (∀ i, i ≤ 63 → exec (.linkGet p i) s =
      .next (answered p .linkGet (entryItems (entry s i)) (completeFrame p s))) ∧
    (∀ i, 63 < i → exec (.linkGet p i) s = .next (refusedWith p .linkGet .badField s)) ∧
    (∀ b, MaySend p .directoryAdmit s → 1 < b →
      exec (.directoryAdmit p b) s = .next (refusedWith p .directoryAdmit .badField s)) ∧
    exec (.linkChanges p) s = .next (answered p .linkChanges (indexList s.ctl.changed)
      { completeFrame p s with ctl.changed := [] }) ∧
    exec (.captureRead p) s = .next (answered p .captureRead (captureItems s.dir.capture)
      { completeFrame p s with dir.capture := none }) ∧
    (∀ b, MaySend p .directoryPin s → b ≤ 48 → exec (.directoryPin p b) s = .next (answered p .directoryPin []
      { completeFrame p s with dir.pinBound := b, dir.rover := 63 })) ∧
    (∀ b, MaySend p .directoryPin s → 48 < b →
      exec (.directoryPin p b) s = .next (refusedWith p .directoryPin .badField s)) ∧
    (∀ b, MaySend p .directoryAdmit s → b ≤ 1 → exec (.directoryAdmit p b) s = .next (answered p .directoryAdmit []
      { completeFrame p s with dir.autoAdmit := b == 0 })) ∧
    exec (.directoryGet p) s = .next (answered p .directoryGet
      [.one (.index s.dir.pinBound), .one (.index s.dir.rover),
       .one (.choice (if s.dir.autoAdmit then 0 else 1)), .one (.choice (if s.dir.capture.isSome then 1 else 0))]
      (completeFrame p s))

/-- A HEARD report's ID that no ENROLLED entry holds. A NOTED entry's last heard becomes now and nothing else of the
directory changes; a stranger is captured as UNKNOWN with "more" set exactly when the slot was full, raising
HEARD_UNKNOWN; with auto-admit on it then claims the first entry that is not ENROLLED from the rover down to the pin
bound and then from 63 down, or sets DIRECTORY_FULL when there is none. Each time the rover then moves down by one,
from the pin bound to 63 (R63, R65, R67, R69, R70).
A mistuned report, one that lies on neither carrier of its ENROLLED link, is captured as MISTUNED and moves the
rover; it changes no entry, no deadline and no retune, and its echo is not compared (R86, R89, R129). -/
def Obligations.ReportsCaptured : Prop :=
  (∀ (r : HeardReport) (s : State), r.malformed = false →
    let rover := if s.dir.rover = s.dir.pinBound then 63 else s.dir.rover - 1
    let captured : Capture := ⟨.unknown, r.ident, reportKind r, r.receiver, r.freq, max (-127) (min 0 r.level),
      min 63 r.margin, s.clock, s.dir.capture.isSome⟩
    (∀ i n, IdentsDistinct s → entry s i = .noted n → n.ident = r.ident →
      exec (.heard r) s = .next { s with
        ports.receiver := none
        dir.entries := put s.dir.entries i (.noted { n with lastHeard := some s.clock })
        dir.rover := rover }) ∧
    ((∀ i, entryIdent (entry s i) ≠ some r.ident) → s.dir.autoAdmit = false →
      exec (.heard r) s = .next { s with
        ports.receiver := none, dir.capture := some captured, dir.rover := rover
        ctl.causes := s.ctl.causes ||| causeOnly .heardUnknown }) ∧
    (∀ i, (∀ j, entryIdent (entry s j) ≠ some r.ident) → s.dir.autoAdmit = true → RoverInRange s →
      (entry s i).isEnrolled = false → s.dir.pinBound ≤ i → i ≤ 63 →
      (∀ j, s.dir.pinBound ≤ j → j ≤ 63 → (entry s j).isEnrolled = false →
        (i ≤ s.dir.rover → s.dir.rover < j ∨ j ≤ i) ∧ (s.dir.rover < i → s.dir.rover < j ∧ j ≤ i)) →
      exec (.heard r) s = .next { s with
        ports.receiver := none, dir.capture := some captured, dir.rover := rover
        dir.entries := put s.dir.entries i (.noted ⟨r.ident, reportKind r, some s.clock, none⟩)
        ctl.causes := s.ctl.causes ||| causeOnly .heardUnknown
        ctl.changed := setAdd i s.ctl.changed }) ∧
    ((∀ j, entryIdent (entry s j) ≠ some r.ident) → s.dir.autoAdmit = true → RoverInRange s →
      (∀ j, s.dir.pinBound ≤ j → j ≤ 63 → (entry s j).isEnrolled = true) →
      exec (.heard r) s = .next { s with
        ports.receiver := none, dir.capture := some captured, dir.rover := rover
        ctl.causes := s.ctl.causes ||| causeOnly .heardUnknown
        ctl.faults.directoryFull := true })) ∧
  (∀ (r : HeardReport) (l : Nat) (e : EnrolledLink) (s : State),
    r.malformed = false → IdentsDistinct s → entry s l = .enrolled e → e.ident = r.ident →
    liesOn r.freq (planRecord s e.carrier) = false →
    (∀ rec_ n, e.phase = .ordered rec_ n → liesOn r.freq (planRecord s n) = false) →
    exec (.heard r) s = .next { s with
      ports.receiver := none
      dir.capture := some ⟨.mistuned, r.ident, reportKind r, r.receiver, r.freq, max (-127) (min 0 r.level),
        min 63 r.margin, s.clock, s.dir.capture.isSome⟩
      dir.rover := if s.dir.rover = s.dir.pinBound then 63 else s.dir.rover - 1
      ctl.causes := s.ctl.causes ||| causeOnly .mistuned })

/-! ## Presence -/

/-- A HEARD report of an ENROLLED link that lies on a carrier of the link and completes no retune: on the carrier, in
any phase, where it does not lie on a new carrier, or a weak one on the new carrier of a link in ORDERED. A good one
makes last heard and last good now, stops the retune-delay timer and leaves the link LIVE; a weak one keeps last good
and takes STANDBY and LOST to FADING. A change of presence enters the changed-link set, leaving LOST raises PRESENCE,
and an entry of a CAMERA into LIVE sets CUE pending, and no other change of presence does; the rover moves down by one,
from the pin bound to 63, and the rest of the entry and of the directory, the retune and the plan stay (R63, R84 to R88,
R110, R127). What the echo of the report does beside this is EchoComparison's. -/
def Obligations.ReportsOnTheCarrier : Prop :=
  ∀ (r : HeardReport) (l : Nat) (e : EnrolledLink) (s : State),
    r.malformed = false → IdentsDistinct s → entry s l = .enrolled e → e.ident = r.ident →
    let margin := min 63 r.margin
    let good := e.settings.floor ≤ margin
    ((∀ rec_ n, e.phase = .ordered rec_ n → liesOn r.freq (planRecord s n) = false) ∧
        liesOn r.freq (planRecord s e.carrier) = true ∨
      ∃ rec_ n, e.phase = .ordered rec_ n ∧ liesOn r.freq (planRecord s n) = true ∧ margin < e.settings.floor) →
    let presence : Presence := if good then .live else match e.presence with
      | .standby => .fading
      | .lost => .fading
      | held => held
    ∃ t e', exec (.heard r) s = .next t ∧ entry t l = .enrolled e' ∧
      e'.lastHeard = some s.clock ∧ e'.bestReceiver = some r.receiver ∧ e'.lastMargin = some margin ∧
      e'.lastGood = (if good then some s.clock else e.lastGood) ∧ e'.presence = presence ∧
      e'.delayTimer = (if good then none else e.delayTimer) ∧
      e'.carrier = e.carrier ∧ e'.phase = e.phase ∧ e'.settings = e.settings ∧ e'.lastResult = e.lastResult ∧
      e'.ident = e.ident ∧ e'.tally = e.tally ∧ roleKind e'.role = roleKind e.role ∧
      cameraOutput t l = cameraOutput s l ∧ (∀ j, j ≠ l → entry t j = entry s j) ∧
      t.ctl.changed = (if presence = e.presence then s.ctl.changed else setAdd l s.ctl.changed) ∧
      (causeIsSet .presence t = (causeIsSet .presence s || (e.presence == .lost))) ∧
      (presence = .live → e.presence ≠ .live → isCamera s l = true → l ∈ t.ret.cuePending) ∧
      (reportEcho r = none → t.ret.cuePending = if presence = .live ∧ e.presence ≠ .live ∧ isCamera s l = true then
        setAdd l s.ret.cuePending else s.ret.cuePending) ∧
      (∀ j, j ≠ l → (j ∈ t.ret.cuePending ↔ j ∈ s.ret.cuePending)) ∧
      t.dir = { s.dir with
        entries := t.dir.entries, rover := if s.dir.rover = s.dir.pinBound then 63 else s.dir.rover - 1 } ∧
      t.retune = s.retune ∧ t.survey = s.survey ∧ t.plan = s.plan ∧ t.engine = s.engine ∧ t.talk = s.talk ∧
      t.tally = s.tally ∧ t.ret = { s.ret with cuePending := t.ret.cuePending }

/-- A good report on the new carrier of a link in ORDERED completes its retune: the HANDOVER record becomes ACTIVE,
the old one EMPTY, or RESERVED when keep-old is set; the link's carrier names the new record, its phase is NONE with
result DONE, it is LIVE with last heard and last good now, its best receiver and last margin the report's; its ID, kind,
return audio output, parameters and tally override stay. Its TUNE pending entry is removed, RETUNE_END is raised and
the link enters the changed-link set. An entry into LIVE raises PRESENCE where the link was LOST, and sets CUE pending
for a CAMERA that was not LIVE. The running engine request is marked stale, and the rover moves down by one, from
the pin bound to 63; the queue, the slots, the feeds, the survey and the tally stay (R9, R13, R20, R63, R84, R85, R87,
R111, R127). What the echo of the report does beside this is EchoComparison's. -/
def Obligations.RetuneCompletes : Prop :=
  ∀ (r : HeardReport) (l n : Nat) (e : EnrolledLink) (rec_ : RetuneRecord) (c d : Carrier) (s : State),
    r.malformed = false → IdentsDistinct s → entry s l = .enrolled e → e.ident = r.ident →
    e.phase = .ordered rec_ n → planRecord s e.carrier = .active c l → planRecord s n = .handover d l →
    liesOn r.freq (planRecord s n) = true → e.settings.floor ≤ min 63 r.margin →
    ∃ t e', exec (.heard r) s = .next t ∧ entry t l = .enrolled e' ∧
      e'.carrier = n ∧ e'.phase = .none ∧ e'.lastResult = .done ∧ e'.presence = .live ∧
      e'.lastHeard = some s.clock ∧ e'.lastGood = some s.clock ∧ e'.delayTimer = none ∧ e'.ident = e.ident ∧
      e'.bestReceiver = some r.receiver ∧ e'.lastMargin = some (min 63 r.margin) ∧ e'.settings = e.settings ∧
      e'.tally = e.tally ∧ roleKind e'.role = roleKind e.role ∧ cameraOutput t l = cameraOutput s l ∧
      planRecord t n = .active d l ∧
      planRecord t e.carrier = (if rec_.keepOld then .reserved c else .empty) ∧
      (∀ j, j ≠ n → j ≠ e.carrier → planRecord t j = planRecord s j) ∧ (∀ j, j ≠ l → entry t j = entry s j) ∧
      t.ret = { s.ret with
        tunePending := setRemove l s.ret.tunePending, cuePending := t.ret.cuePending } ∧
      (e.presence ≠ .live → isCamera s l = true → l ∈ t.ret.cuePending) ∧
      (reportEcho r = none → t.ret.cuePending = if e.presence ≠ .live ∧ isCamera s l = true then
        setAdd l s.ret.cuePending else s.ret.cuePending) ∧
      (∀ j, j ≠ l → (j ∈ t.ret.cuePending ↔ j ∈ s.ret.cuePending)) ∧
      causeIsSet .retuneEnd t = true ∧ causeIsSet .presence t = (causeIsSet .presence s || (e.presence == .lost)) ∧
      (∀ k, k ≠ .retuneEnd → k ≠ .presence → k ≠ .tallyFault → causeIsSet k t = causeIsSet k s) ∧
      (l ∉ s.retune.seekOrder → l ∉ s.retune.waitList → t.retune = s.retune) ∧
      t.ctl.changed = setAdd l s.ctl.changed ∧
      t.engine = { s.engine with running := s.engine.running.map fun q => { q with stale := true } } ∧
      t.dir = { s.dir with
        entries := t.dir.entries, rover := if s.dir.rover = s.dir.pinBound then 63 else s.dir.rover - 1 } ∧
      t.talk = s.talk ∧ t.survey = s.survey ∧ t.tally = s.tally

/-- The echo comparison, the last step of a camera's report on a carrier: a match sets the mismatch count to 0;
a mismatch with nothing on the way counts one, stopping at 255, sets CUE pending, and raises TALLY_FAULT at exactly
8; a mismatch with a CUE pending or in flight, and a report without echo, change neither (R129, R130).
It is the last step of HEARD: a camera's report that lies on the link's carrier or new carrier does what the same report
without an echo does, echo byte FFh, and then makes the comparison on the state so reached, after presence and retune
(R65, R86, R111). -/
def Obligations.EchoComparison : Prop :=
  (∀ (r : HeardReport) (l : Nat) (echo : Cue) (e : EnrolledLink) (s : State),
    r.malformed = false → IdentsDistinct s → entry s l = .enrolled e → e.ident = r.ident → r.kind = 0 →
    r.echo = some ((match echo.colour with
      | .off => 0
      | .preview => 1
      | .program => 2) + (if echo.iso then 4 else 0) + (if echo.talk then 8 else 0)) →
    liesOn r.freq (planRecord s e.carrier) = true ∨
      (∃ rec_ n, e.phase = .ordered rec_ n ∧ liesOn r.freq (planRecord s n) = true) →
    ∃ u, exec (.heard { r with echo := some 255 }) s = .next u ∧
      exec (.heard r) s = .next (compareEcho l (some echo) u)) ∧
  ∀ (l o count : Nat) (echo : Cue) (e : EnrolledLink) (s : State),
    entry s l = .enrolled e → e.role = .camera o count →
    let role (n : Nat) : State := setEntry l (.enrolled { e with role := .camera o n }) s
    (echo = heldCue s l → compareEcho l (some echo) s = role 0) ∧
    (echo ≠ heldCue s l → cueOnTheWay s l = true → compareEcho l (some echo) s = s) ∧
    (echo ≠ heldCue s l → cueOnTheWay s l = false →
      let n := min 255 (count + 1)
      let pended := { role n with ret.cuePending := setAdd l s.ret.cuePending }
      compareEcho l (some echo) s =
        if n = 8 then { pended with ctl.causes := s.ctl.causes ||| causeOnly .tallyFault } else pended) ∧
    compareEcho l none s = s

/-- FADE_EXPIRY at a reached fade deadline of a LIVE link: LOST with PRESENCE when the loss deadline is reached too,
else FADING, with the retune-delay timer started when auto-retune is on, the phase NONE and the retune delay not 0, and
an automatic retune in SEEKING when it is 0, its search placed with the parameters of the plan; in either case the link
enters the changed-link set (R83, R91, R95, R102, R104).
LOSS_EXPIRY of a FADING link at its reached loss deadline: LOST, its retune-delay timer stopped, PRESENCE raised,
the link in the changed-link set, its retune phase unchanged (R92). RETUNE_DELAY_EXPIRY of a running timer at its
reached deadline in phase NONE: the timer stops and an automatic retune starts in SEEKING, its search placed likewise
(R97, R102, R104). -/
def Obligations.PresenceExpiries : Prop :=
  (∀ (l : Nat) (e : EnrolledLink) (good heard : Clock) (s : State),
    entry s l = .enrolled e → e.presence = .live → e.lastGood = some good → e.lastHeard = some heard →
    reached (good + BitVec.ofNat 32 e.settings.fadeTime) s.clock = true →
    let lost := reached (heard + BitVec.ofNat 32 e.settings.lossTime) s.clock
    let automatic := e.settings.autoRetune && e.phase == .none
    ∃ t e', exec (.fadeExpiry l) s = .next t ∧ entry t l = .enrolled e' ∧
      (lost = true → e' = { e with presence := .lost } ∧ causeIsSet .presence t = true) ∧
      (lost = false → automatic = false →
        e' = { e with presence := .fading } ∧ t.ctl.causes = s.ctl.causes) ∧
      (lost = false → automatic = true → e.settings.retuneDelay ≠ 0 →
        e' = { e with
          presence := .fading, delayTimer := some (s.clock + BitVec.ofNat 32 e.settings.retuneDelay) } ∧
        t.ctl.causes = s.ctl.causes) ∧
      (lost = false → automatic = true → e.settings.retuneDelay = 0 →
        (∃ place, e' = { e with
          presence := .fading
          phase := .seeking ⟨.automatic, false, s.clock + BitVec.ofNat 32 s.retune.limit⟩ place } ∧
          SearchPlaced place l e s t) ∧
        t.retune.seekOrder = s.retune.seekOrder ++ [l] ∧ t.ctl.causes = s.ctl.causes) ∧
      (lost = true ∨ automatic = false ∨ e.settings.retuneDelay ≠ 0 → t.retune = s.retune ∧ t.engine = s.engine) ∧
      t.ctl.changed = setAdd l s.ctl.changed ∧ (∀ j, j ≠ l → entry t j = entry s j) ∧
      t.plan = s.plan ∧ t.ret = s.ret ∧ t.tally = s.tally ∧ t.talk = s.talk) ∧
  ((∀ (l : Nat) (e : EnrolledLink) (heard : Clock) (s : State),
    entry s l = .enrolled e → e.presence = .fading → e.lastHeard = some heard →
    reached (heard + BitVec.ofNat 32 e.settings.lossTime) s.clock = true →
    exec (.lossExpiry l) s = .next { s with
      dir.entries := put s.dir.entries l (.enrolled { e with presence := .lost, delayTimer := none })
      ctl.changed := setAdd l s.ctl.changed
      ctl.causes := s.ctl.causes ||| causeOnly .presence }) ∧
  ∀ (l : Nat) (e : EnrolledLink) (d : Clock) (s : State),
    entry s l = .enrolled e → e.delayTimer = some d → reached d s.clock = true → e.phase = .none →
    ∃ t place, exec (.retuneDelayExpiry l) s = .next t ∧
      entry t l = .enrolled { e with
        delayTimer := none
        phase := .seeking ⟨.automatic, false, s.clock + BitVec.ofNat 32 s.retune.limit⟩ place } ∧
      SearchPlaced place l e s t ∧ t.retune.seekOrder = s.retune.seekOrder ++ [l] ∧
      t.ctl.changed = setAdd l s.ctl.changed ∧ t.ctl.causes = s.ctl.causes ∧
      (∀ j, j ≠ l → entry t j = entry s j) ∧ t.plan = s.plan ∧ t.ret = s.ret)

/-- A deadline formed at clock T0 with a duration of at most 60,000 ms is not reached in the milliseconds before its
end, is reached at its end and stays reached for 2^31 ms, whether or not the clock wraps (R80). -/
def Obligations.DeadlinesAcrossTheWrap : Prop :=
  ∀ (start : Clock) (duration elapsed : Nat), duration ≤ 60000 →
    (elapsed < duration →
      reached (start + BitVec.ofNat 32 duration) (start + BitVec.ofNat 32 elapsed) = false) ∧
    (duration ≤ elapsed → elapsed < duration + 2 ^ 31 →
      reached (start + BitVec.ofNat 32 duration) (start + BitVec.ofNat 32 elapsed) = true)

/-- LINK.TIMERS carries now, the presence, the fade deadline in LIVE, the loss deadline in LIVE and FADING and the
deadline of a running retune-delay timer (R83, R98); a link that is not ENROLLED is refused BAD_STATE, and an index
above 63 BAD_FIELD.
RETUNE.LIMIT writes the retune limit, a time below 500 taken as 500 and one above 30,000 as 30,000, and moves no
deadline (R100). RETUNE.GET and RETUNE.QUEUE read the retune state of a link and the searches waiting, RETUNE.GET with
the same refusals (R118). That the fields which may be absent stand in one record of optional fields, and that the
position on the seek wait list takes one byte, is the model's reading (log entries 8 and 10). -/
def Obligations.TimerAndRetuneRequests : Prop :=
  (∀ (p : Port) (i : Nat) (s : State), i ≤ 63 →
    (∀ e, entry s i = .enrolled e →
      let fade := if e.presence = .live then e.lastGood.map (· + BitVec.ofNat 32 e.settings.fadeTime) else none
      let loss := if e.presence = .live ∨ e.presence = .fading then
        e.lastHeard.map (· + BitVec.ofNat 32 e.settings.lossTime) else none
      exec (.linkTimers p i) s = .next (answered p .linkTimers
        [.one (.clock s.clock), .one (.choice (presenceNumber e.presence)),
         .optional [maybe .clock fade, maybe .clock loss, maybe .clock e.delayTimer]] (completeFrame p s))) ∧
    ((entry s i).isEnrolled = false →
      exec (.linkTimers p i) s = .next (refusedWith p .linkTimers .badState s))) ∧
  (∀ (p : Port) (s : State),
    (∀ i, 63 < i →
      exec (.linkTimers p i) s = .next (refusedWith p .linkTimers .badField s) ∧
      exec (.retuneGet p i) s = .next (refusedWith p .retuneGet .badField s)) ∧
    (∀ time, MaySend p .retuneLimit s →
      exec (.retuneLimit p time) s = .next (answered p .retuneLimit [.one (.word (max 500 (min 30000 time)))]
        { completeFrame p s with retune.limit := max 500 (min 30000 time) })) ∧
    (∀ i e, entry s i = .enrolled e →
      exec (.retuneGet p i) s = .next (answered p .retuneGet
        ([.one (.choice (phaseNumber e.phase)), .one (.choice (resultNumber e.lastResult)),
          .optional (match e.phase with
            | .none => [[], [], [], [], [], []]
            | .seeking r .inEngine =>
              [[.choice (originNumber r.origin)], [.flag r.keepOld], [.clock r.limit], [.choice 0], [], []]
            | .seeking r .waiting =>
              [[.choice (originNumber r.origin)], [.flag r.keepOld], [.clock r.limit], [.choice 1],
                [.index (s.retune.waitList.idxOf i)], []]
            | .ordered r n =>
              [[.choice (originNumber r.origin)], [.flag r.keepOld], [.clock r.limit], [], [], [.index n]])])
        (completeFrame p s))) ∧
    (∀ i, i ≤ 63 → (entry s i).isEnrolled = false →
      exec (.retuneGet p i) s = .next (refusedWith p .retuneGet .badState s)) ∧
    exec (.retuneQueue p) s = .next (answered p .retuneQueue
      (.one (.word s.retune.limit) :: (indexList (searchingLinks s) ++ indexList s.retune.waitList))
      (completeFrame p s)))

/-! ## Retuning -/

/-- LINK.RETUNE of a link in phase NONE. With a RESERVED target the record becomes HANDOVER with the link as owner, the
link goes to ORDERED with it as new carrier, and a CAMERA's TUNE is set pending, and the running engine request is
marked stale, the feeds, the survey and the tally staying; a target in any other state is refused BAD_STATE. Without a
target the link goes to SEEKING. Either way the origin is REQUESTED, keep-old is the flag given, the limit deadline is
now plus the retune limit, the retune-delay timer stops and the link enters the changed-link set. An index above 63 or a
target above 95 is refused BAD_FIELD, an entry that is not ENROLLED BAD_STATE, and another phase BUSY (R9, R12, R20,
R96, R103, R104, R109). That the new carrier is an optional field of the response is the model's reading (log entry 10),
and so is BAD_FIELD for a keep-old byte that is neither set nor clear (log entry 11). -/
def Obligations.RetuneRequests : Prop :=
  (∀ (p : Port) (i keep : Nat) (e : EnrolledLink) (s : State), MaySend p .linkRetune s →
    entry s i = .enrolled e → keep ≤ 1 →
    let rec_ : RetuneRecord := ⟨.requested, keep == 1, s.clock + BitVec.ofNat 32 s.retune.limit⟩
    (∀ n c, e.phase = .none → planRecord s n = .reserved c →
      ∃ t, exec (.linkRetune p i n keep) s =
          .next (answered p .linkRetune [.one (.choice 2), .optional [[.index n]]] t) ∧
        planRecord t n = .handover c i ∧ (∀ j, j ≠ n → planRecord t j = planRecord s j) ∧
        entry t i = .enrolled { e with phase := .ordered rec_ n, delayTimer := none } ∧
        (∀ j, j ≠ i → entry t j = entry s j) ∧
        t.ret = (if isCamera s i then { s.ret with tunePending := setAdd i s.ret.tunePending } else s.ret) ∧
        t.engine = { s.engine with running := s.engine.running.map fun q => { q with stale := true } } ∧
        t.talk = s.talk ∧ t.survey = s.survey ∧ t.tally = s.tally ∧
        (i ∉ s.retune.seekOrder → i ∉ s.retune.waitList → t.retune = s.retune) ∧
        t.ctl.changed = setAdd i s.ctl.changed ∧ t.ctl.causes = s.ctl.causes) ∧
    (∀ n, e.phase = .none → n ≤ 95 → (∀ c, planRecord s n ≠ .reserved c) →
      exec (.linkRetune p i n keep) s = .next (refusedWith p .linkRetune .badState s)) ∧
    (e.phase = .none →
      ∃ t place, exec (.linkRetune p i 255 keep) s =
          .next (answered p .linkRetune [.one (.choice 1), .optional [[]]] t) ∧
        entry t i = .enrolled { e with phase := .seeking rec_ place, delayTimer := none } ∧
        SearchPlaced place i e s t ∧ t.retune.seekOrder = s.retune.seekOrder ++ [i] ∧
        (∀ j, j ≠ i → entry t j = entry s j) ∧ t.plan = s.plan ∧ t.ret = s.ret ∧
        t.talk = s.talk ∧ t.survey = s.survey ∧ t.tally = s.tally ∧
        t.ctl.changed = setAdd i s.ctl.changed ∧ t.ctl.causes = s.ctl.causes) ∧
    (∀ n, e.phase ≠ .none → n ≤ 95 ∨ n = 255 →
      exec (.linkRetune p i n keep) s = .next (refusedWith p .linkRetune .busy s))) ∧
  ∀ (p : Port) (i n keep : Nat) (s : State), MaySend p .linkRetune s →
    (63 < i ∨ (95 < n ∧ n ≠ 255) ∨ 1 < keep →
      exec (.linkRetune p i n keep) s = .next (refusedWith p .linkRetune .badField s)) ∧
    (i ≤ 63 → n ≤ 95 ∨ n = 255 → keep ≤ 1 → (entry s i).isEnrolled = false →
      exec (.linkRetune p i n keep) s = .next (refusedWith p .linkRetune .badState s))

/-- LINK.HALT and RETUNE_LIMIT_EXPIRY abort a retune from the phase it is in, with result HALTED and TIMEOUT: in ORDERED
the HANDOVER record becomes EMPTY, the TUNE pending entry goes and the running engine request is marked stale; in
SEEKING the search leaves the engine or the wait list, and a request that still runs is not marked. The phase is NONE,
RETUNE_END is raised, the link enters the changed-link set and keeps its carrier and presence (R9, R14, R20, R112 to
R114). Where the search was running the seek wait list is served while nothing runs, and from the state `u` so reached
the engine starts the head of its queue, which is what ENGINE_START does (R27, R32, R105; that it starts in the event of
the abort is the model's reading, log entry 19). LINK.HALT refuses BAD_FIELD an index above 63, and BAD_STATE an entry
that is not ENROLLED and a link in phase NONE. -/
def Obligations.RetuneAborts : Prop :=
  (∀ (l : Nat) (e : EnrolledLink) (s : State), entry s l = .enrolled e → e.phase ≠ .none →
    let starts : Prop := ∃ q r, s.engine.running = some q ∧ q.request.client = .internal l ∧
      e.phase = .seeking r .inEngine
    let aborted (result : RetuneResult) (u : State) : Prop :=
      entry u l = .enrolled { e with phase := .none, lastResult := result } ∧
      (∀ r n d, e.phase = .ordered r n → planRecord s n = .handover d l →
        planRecord u n = .empty ∧ l ∉ u.ret.tunePending ∧ (∀ j, j ≠ n → planRecord u j = planRecord s j) ∧
        u.engine = { s.engine with running := s.engine.running.map fun q => { q with stale := true } }) ∧
      (∀ r place, e.phase = .seeking r place → ¬ starts → u.engine.running = s.engine.running) ∧
      (∀ r place, e.phase = .seeking r place → SearchLaw s → l ∉ searchingLinks u ∧ l ∉ u.retune.waitList ∧
        u.plan.records = s.plan.records ∧ u.ret = s.ret) ∧
      (starts → l ∉ s.retune.waitList → u.engine.running = none ∧
        ListServed (s.engine.queue.filter fun r => r.client != .internal l) s.retune.waitList s u) ∧
      u.ctl.causes = s.ctl.causes ||| causeOnly .retuneEnd ∧ u.ctl.changed = setAdd l s.ctl.changed ∧
      (∀ j, j ≠ l → entryIdent (entry u j) = entryIdent (entry s j)) ∧ u.ret.cuePending = s.ret.cuePending ∧
      u.ret.inFlight = s.ret.inFlight ∧ u.tally = s.tally ∧ u.talk = s.talk ∧ u.survey = s.survey ∧
      u.engine.slots = s.engine.slots
    let goesOn (u t : State) : Prop := (starts → exec .engineStart u = .next t) ∧ (¬ starts → t = u)
    (∀ p, MaySend p .linkHalt s → ∃ u t, aborted .halted u ∧ goesOn u t ∧
      exec (.linkHalt p l) s = .next (answered p .linkHalt [] t)) ∧
    (∀ r, (e.phase = .ordered r (match e.phase with
        | .ordered _ n => n
        | _ => 0) ∨ ∃ place, e.phase = .seeking r place) → reached r.limit s.clock = true →
      ∃ u t, aborted .timeout u ∧ goesOn u t ∧ exec (.retuneLimitExpiry l) s = .next t)) ∧
  ∀ (p : Port) (l : Nat) (s : State), MaySend p .linkHalt s →
    (63 < l → exec (.linkHalt p l) s = .next (refusedWith p .linkHalt .badField s)) ∧
    (l ≤ 63 → (entry s l).isEnrolled = false →
      exec (.linkHalt p l) s = .next (refusedWith p .linkHalt .badState s)) ∧
    ∀ e, entry s l = .enrolled e → e.phase = .none →
      exec (.linkHalt p l) s = .next (refusedWith p .linkHalt .badState s)

/-! ## Tally -/

/-- The cue state of an ENROLLED link: under AUTO PROGRAM when a mapped source has the programme flag, else PREVIEW when
one has the preview flag, else OFF, with iso when one has the iso flag; under PROGRAM and PREVIEW that colour; under
DARK colour OFF and iso clear; talk while the holder of the link's arbiter is a key. A link that is not ENROLLED is all
off (R124). -/
def Obligations.CueOfALink : Prop :=
  ∀ (l : Nat) (s : State),
    let mapped (flag : SourceFlags → Bool) : Prop := ∃ a < 64, mapEntry s a = some l ∧ flag (sourceFlags s a) = true
    let talk := (arbiterAt s l).holder.isSome
    ((entry s l).isEnrolled = false → computedCue s l = ⟨.off, false, false⟩) ∧
    ∀ e, entry s l = .enrolled e →
      ((computedCue s l).talk = talk) ∧
      ((computedCue s l).iso = true ↔ e.tally ≠ .dark ∧ mapped SourceFlags.iso) ∧
      ((computedCue s l).colour = .program ↔ e.tally = .program ∨ e.tally = .auto ∧ mapped SourceFlags.programme) ∧
      ((computedCue s l).colour = .preview ↔
        e.tally = .preview ∨ e.tally = .auto ∧ ¬ mapped SourceFlags.programme ∧ mapped SourceFlags.preview)

/-- A mixer tally message, TALLY.MAP and TALLY.OVERRIDE write a source's flags, its map entry and a link's override,
and where the cue states held are the computed ones they are so again afterwards; a CUE is set pending for a link
exactly when its cue state has changed and it is an ENROLLED CAMERA in LIVE or FADING (R120, R121, R123, R125, R127).
TALLY.MAP refuses BAD_FIELD a source above 63 and a link above 63 that is not NONE; TALLY.OVERRIDE a link above 63 and a
value that is none of the four, and then BAD_STATE an entry that is not ENROLLED. -/
def Obligations.TallyWrites : Prop :=
  (∀ (p : Port) (s : State),
    (∀ a l, MaySend p .tallyMap s → 63 < a ∨ (63 < l ∧ l ≠ 255) →
      exec (.tallyMap p a l) s = .next (refusedWith p .tallyMap .badField s)) ∧
    (∀ l o, MaySend p .tallyOverride s → 63 < l ∨ 3 < o →
      exec (.tallyOverride p l o) s = .next (refusedWith p .tallyOverride .badField s)) ∧
    ∀ l o, MaySend p .tallyOverride s → l ≤ 63 → o ≤ 3 → (entry s l).isEnrolled = false →
      exec (.tallyOverride p l o) s = .next (refusedWith p .tallyOverride .badState s)) ∧
  ∀ (s : State), CuesComputed s →
    let pended (t : State) : Prop :=
      CuesComputed t ∧ ∀ l < 64, l ∈ t.ret.cuePending ↔
        l ∈ s.ret.cuePending ∨ heldCue t l ≠ heldCue s l ∧ cueDelivered s l = true
    (∀ a f, a ≤ 63 → f ≤ 7 → ∃ t, exec (.mixerTallyMessage a f) s = .next t ∧
      sourceFlags t a = ⟨f % 2 == 1, f / 2 % 2 == 1, f / 4 == 1⟩ ∧
      (∀ b, b ≠ a → sourceFlags t b = sourceFlags s b) ∧ pended t ∧
      t.tally.map = s.tally.map ∧ t.dir = s.dir ∧ t.talk = s.talk ∧ t.ctl = s.ctl) ∧
    (∀ p a l, MaySend p .tallyMap s → a ≤ 63 → l ≤ 63 ∨ l = 255 →
      let link := if l = 255 then none else some l
      ∃ t, exec (.tallyMap p a l) s = .next (answered p .tallyMap [.one (.index l)] t) ∧
        mapEntry t a = link ∧ (∀ b, b ≠ a → mapEntry t b = mapEntry s b) ∧ pended t ∧
        t.tally.sources = s.tally.sources ∧ t.dir = s.dir ∧ t.talk = s.talk) ∧
    ∀ p l o e, MaySend p .tallyOverride s → entry s l = .enrolled e → o ≤ 3 →
      let setting : TallyOverride := if o = 0 then .auto else if o = 1 then .dark else if o = 2 then .program else .preview
      ∃ t, exec (.tallyOverride p l o) s =
          .next (answered p .tallyOverride [.one (.choice o), .one (.cue (heldCue t l))] t) ∧
        entry t l = .enrolled { e with tally := setting } ∧ (∀ j, j ≠ l → entry t j = entry s j) ∧ pended t ∧
        t.tally.sources = s.tally.sources ∧ t.tally.map = s.tally.map ∧ t.talk = s.talk

/-- LAMP.SET writes a lamp line record and answers with its lit state and pin. A line is lit exactly when its link is
ENROLLED and the link's cue state shows the line's colour; the pin of OFF is released, PUSH_PULL drives the active
level when lit and the other when unlit, OPEN_DRAIN pulls low where that level would be LOW and is released where it
would be HIGH (R133, R134).
TALLY.SOURCES and TALLY.GET read (R122, R136). TALLY.GET carries the lifecycle; the cue state, all off for a link that
is not ENROLLED; the sources mapped to the link in ascending order, each with its flags; of an ENROLLED link the
override; and of an ENROLLED CAMERA the mismatch count, whether a CUE is pending and whether one is in flight. A lamp
line is answered as its link, colour, drive, active level, lit state and pin. The layout, and the numbers of a pin
state, are the model's (log entries 8, 10 and 21). A line, link, colour, drive or active level outside its values, a
source above 63 or a reversed run, and a link above 63 are refused BAD_FIELD. -/
def Obligations.LampLinesAndTallyReads : Prop :=
  (∀ (p : Port) (s : State),
    (∀ n l c d v, MaySend p .lampSet s → 15 < n ∨ (63 < l ∧ l ≠ 255) ∨ 3 < c ∨ 2 < d ∨ 1 < v →
      exec (.lampSet p n l c d v) s = .next (refusedWith p .lampSet .badField s)) ∧
    (∀ a b, 63 < a ∨ 63 < b ∨ b < a →
      exec (.tallySources p a b) s = .next (refusedWith p .tallySources .badField s)) ∧
    ∀ l, 63 < l → exec (.tallyGet p l) s = .next (refusedWith p .tallyGet .badField s)) ∧
  ((∀ (p : Port) (n l c d v : Nat) (s : State), MaySend p .lampSet s →
    n ≤ 15 → l ≤ 63 ∨ l = 255 → c ≤ 3 → d ≤ 2 → v ≤ 1 →
    let r : LampLine := ⟨if l = 255 then none else some l,
      if c = 0 then .program else if c = 1 then .preview else if c = 2 then .iso else .talk,
      if d = 0 then .off else if d = 1 then .pushPull else .openDrain, if v = 0 then .high else .low⟩
    let t := { completeFrame p s with tally.lamps := put s.tally.lamps n r }
    exec (.lampSet p n l c d v) s = .next (answered p .lampSet (lampItems r (lampLit t n) (lampPin t n)) t) ∧
    lampLine t n = r) ∧
  ∀ (n : Nat) (s : State),
    (lampLit s n = true ↔ ∃ l e, (lampLine s n).link = some l ∧ entry s l = .enrolled e ∧
      match (lampLine s n).colour with
      | .program => (heldCue s l).colour = .program
      | .preview => (heldCue s l).colour = .preview
      | .iso => (heldCue s l).iso = true
      | .talk => (heldCue s l).talk = true) ∧
    ((lampLine s n).drive = .off → lampPin s n = .released) ∧
    ((lampLine s n).drive = .pushPull →
      (lampPin s n = .drivenHigh ↔ (lampLit s n = true ↔ (lampLine s n).activeLevel = .high)) ∧
      (lampPin s n = .drivenHigh ∨ lampPin s n = .drivenLow)) ∧
    ((lampLine s n).drive = .openDrain →
      (lampPin s n = .released ↔ (lampLit s n = true ↔ (lampLine s n).activeLevel = .high)) ∧
      (lampPin s n = .released ∨ lampPin s n = .pulledLow))) ∧
  (∀ (p : Port) (s : State),
    (∀ a b, a ≤ b → b ≤ 63 → exec (.tallySources p a b) s = .next (answered p .tallySources
      ((List.range' a (b + 1 - a)).flatMap fun n =>
        [.one (.flags (sourceFlags s n)), .one (.index ((mapEntry s n).getD 255))]) (completeFrame p s))) ∧
    ∀ l, l ≤ 63 → exec (.tallyGet p l) s = .next (answered p .tallyGet (tallyItems s l) (completeFrame p s))) ∧
  (∀ (l : Nat) (s : State),
    let sources := (List.range 64).filter fun a => mapEntry s a == some l
    let items (lifecycle : Nat) (link : List (List Field)) : List Item :=
      [.one (.choice lifecycle), .one (.cue (heldCue s l)), .one (.size sources.length)] ++
      (sources.flatMap fun a => [.one (.index a), .one (.flags (sourceFlags s a))]) ++ [.optional link]
    (entry s l = .vacant → tallyItems s l = items 0 [[], [], [], []]) ∧
    (∀ n, entry s l = .noted n → tallyItems s l = items 1 [[], [], [], []]) ∧
    (CuesComputed s → l ≤ 63 → (entry s l).isEnrolled = false → heldCue s l = ⟨.off, false, false⟩) ∧
    ∀ e, entry s l = .enrolled e →
      let setting : List Field := [.choice (match e.tally with
        | .auto => 0
        | .dark => 1
        | .program => 2
        | .preview => 3)]
      (e.role = .mic → tallyItems s l = items 2 [setting, [], [], []]) ∧
      ∀ o n, e.role = .camera o n → ∃ waits flies : Bool,
        tallyItems s l = items 2 [setting, [.word n], [.flag waits], [.flag flies]] ∧
        (waits = true ↔ l ∈ s.ret.cuePending) ∧
        (flies = true ↔ ∃ m c, s.ret.inFlight = some m ∧ m.link = l ∧ m.content = .cue c)) ∧
  ∀ (r : LampLine) (lit : Bool) (pin : PinState), lampItems r lit pin =
    [.one (.index (r.link.getD 255)),
     .one (.choice (match r.colour with
       | .program => 0
       | .preview => 1
       | .iso => 2
       | .talk => 3)),
     .one (.choice (match r.drive with
       | .off => 0
       | .pushPull => 1
       | .openDrain => 2)),
     .one (.choice (if r.activeLevel = .high then 0 else 1)), .one (.flag lit),
     .one (.choice (match pin with
       | .released => 0
       | .drivenHigh => 1
       | .drivenLow => 2
       | .pulledLow => 3))]

/-! ## Talkback feeds -/

/-- KEY.SET writes an inactive key's level, clamped, mode, locked flag, source and destination set, and is refused BUSY
for an active key; nothing else changes (R138).
FEED.DEFAULT writes the default input of any link's arbiter, and places an order with it for an eligible destination
whose holder is DEFAULT (R143); that it answers with the items of FEED.GET is log entry 10. KEY.GET, FEED.GET and
MATRIX.GET read: MATRIX.GET an output's pending order and confirmed input, whether the order in flight is for the
output, with its input and deadline, and the last served output (R151, R154, R159; the layout is log entry 10's, and the
numbers of the roles log entry 21's). KEY.GET carries the level, mode, locked flag, source, destinations, active state,
status and status pending flag, and while the key is active its eligible destinations in order, each with the role the
key holds there: holder, saved, pending or none. FEED.GET carries whether the link is an eligible destination and then
its output, the default input, the holder, the saved stack and the pending set, each key with its level, and the last
granted key of each level. A key, link, input, output, source, mode or destination outside its values, a destination
given twice and more than 64 of them are refused BAD_FIELD (R138, R143, R151, R154, R159; a locked byte that is neither
yes nor no is log entry 11). -/
def Obligations.TalkbackRequests : Prop :=
  (∀ (p : Port) (s : State),
    (∀ k level mode locked source ds, MaySend p .keySet s →
      31 < k ∨ 1 < mode ∨ 1 < locked ∨ 127 < source ∨ (∃ d ∈ ds, 63 < d) ∨ 64 < ds.length ∨ ¬ ds.Nodup →
      exec (.keySet p k level mode locked source ds) s = .next (refusedWith p .keySet .badField s)) ∧
    (∀ l i, MaySend p .feedDefault s → 63 < l ∨ (127 < i ∧ i ≠ 255) →
      exec (.feedDefault p l i) s = .next (refusedWith p .feedDefault .badField s)) ∧
    (∀ k, 31 < k → exec (.keyGet p k) s = .next (refusedWith p .keyGet .badField s)) ∧
    (∀ l, 63 < l → exec (.feedGet p l) s = .next (refusedWith p .feedGet .badField s)) ∧
    ∀ o, 127 < o → exec (.matrixGet p o) s = .next (refusedWith p .matrixGet .badField s)) ∧
  (∀ (p : Port) (k level mode locked source : Nat) (ds : List Nat) (s : State), MaySend p .keySet s →
    k ≤ 31 → source ≤ 127 → mode ≤ 1 → locked ≤ 1 → ds.Nodup → (∀ d ∈ ds, d ≤ 63) →
    ((keyAt s k).active = false →
      ∃ key : Key, exec (.keySet p k level mode locked source ds) s = .next (answered p .keySet (keyItems key)
          { completeFrame p s with talk.keys := put s.talk.keys k key }) ∧
        key.level = min 7 level ∧ key.mode = (if mode = 0 then .momentary else .latch) ∧
        key.locked = (locked == 1) ∧ key.source = source ∧ key.active = false ∧
        key.status = (keyAt s k).status ∧ key.statusPending = (keyAt s k).statusPending ∧
        IndexSet 64 key.destinations ∧ ∀ d, d ∈ key.destinations ↔ d ∈ ds) ∧
    ((keyAt s k).active = true →
      exec (.keySet p k level mode locked source ds) s = .next (refusedWith p .keySet .busy s))) ∧
  (∀ (p : Port) (s : State),
    (∀ l i, MaySend p .feedDefault s → l ≤ 63 → i ≤ 127 ∨ i = 255 →
      let input : Option Nat := if i = 255 then none else some i
      let a : Arbiter := { arbiterAt s l with defaultInput := input }
      let set : State := { completeFrame p s with talk.arbiters := put s.talk.arbiters l a }
      exec (.feedDefault p l i) s = .next (answered p .feedDefault (arbiterItems (cameraOutput s l) a)
        (match cameraOutput s l, a.holder with
          | some o, none => { set with
            talk.orders := put s.talk.orders o (some (if i = 255 then .mute else .input i)) }
          | _, _ => set))) ∧
    (∀ l, l ≤ 63 → exec (.feedGet p l) s = .next (answered p .feedGet
      (arbiterItems (cameraOutput s l) (arbiterAt s l)) (completeFrame p s))) ∧
    (∀ k, k ≤ 31 → exec (.keyGet p k) s = .next (answered p .keyGet
      (keyItems (keyAt s k) ++ [.optional [rolesField s k]]) (completeFrame p s))) ∧
    (∀ o, o ≤ 127 →
      let items (mine : Bool) (flight : List (List Field)) : List Item :=
        [.optional [maybe matrixField (look s.talk.orders o), maybe matrixField (look s.talk.confirmed o)],
         .one (.flag mine), .optional flight, .one (.index (s.talk.lastServed.getD 255))]
      (∀ f, s.talk.orderInFlight = some f → f.output = o →
        exec (.matrixGet p o) s = .next (answered p .matrixGet
          (items true [[matrixField f.input], [.clock f.deadline]]) (completeFrame p s))) ∧
      ((∀ f, s.talk.orderInFlight = some f → f.output ≠ o) →
        exec (.matrixGet p o) s = .next (answered p .matrixGet (items false [[], []]) (completeFrame p s))))) ∧
  (∀ k : Key, keyItems k =
    [.one (.small k.level), .one (.choice (if k.mode = .momentary then 0 else 1)), .one (.flag k.locked),
     .one (.index k.source), .one (.size k.destinations.length)] ++ k.destinations.map (fun d => .one (.index d)) ++
    [.one (.flag k.active), .one (.choice (match k.status with
       | .idle => 0
       | .waiting => 1
       | .partly => 2
       | .full => 3)), .one (.flag k.statusPending)]) ∧
  (∀ (k : Nat) (s : State),
    let eligible := (keyAt s k).destinations.filter fun l => (cameraOutput s l).isSome
    let role (a : Arbiter) : Nat :=
      if a.holder = some k then 0 else if ∃ w ∈ a.saved, w.key = k then 1 else if ∃ w ∈ a.waiting, w.key = k then 2
      else 3
    rolesField s k = if (keyAt s k).active then
      .size eligible.length :: eligible.flatMap fun l => [.index l, .choice (role (arbiterAt s l))] else []) ∧
  ∀ (output : Option Nat) (a : Arbiter),
    let keys (ws : List Waiter) : List Item :=
      .one (.size ws.length) :: ws.flatMap fun w => [.one (.index w.key), .one (.small w.level)]
    arbiterItems output a =
      [.one (.flag output.isSome), .optional [maybe .index output], .one (.index (a.defaultInput.getD 255)),
       .one (.index (a.holder.getD 255))] ++ keys a.saved ++ keys a.waiting ++
      (List.range 8).map fun level => .one (.index ((look a.lastGranted level).getD 255))

/-- Key events. A DOWN activates an inactive key, and deactivates an active LATCH key; an UP deactivates an active
MOMENTARY key; any other DOWN or UP is ignored and leaves everything as it was. KEY.PRESS and KEY.LIFT are the same
events by request, refused BAD_FIELD for a key above 31. An activation makes the key's request, and a deactivation its
withdrawal, at each eligible destination of its set: the arbiter there and the order of its output are those that
`requestFeed` and `withdrawFeed` give (what these do is said of ArbiterSteps), so that an activated key holds a role at
every eligible destination and a deactivated one none at any. Cue states follow, and set CUE pending as R127 states.
Every key's status follows, and a key's status pending flag is set where its status has changed (R152). The other
arbiters, orders and cue states, every key's level, mode, locked flag, source and destinations, and the other keys'
active states stay (R125, R137, R139 to R141, R147). -/
def Obligations.KeyEvents : Prop :=
  (∀ (k : Nat) (s : State), k ≤ 31 → FeedLaw s → OutputsDistinct s →
    let key := keyAt s k
    let become (active : Bool) (feed : Nat → State) (t : State) : Prop :=
      (∀ j, keyAt t j = { keyAt s j with
        active := if j = k then active else (keyAt s j).active
        status := (keyAt t j).status, statusPending := (keyAt t j).statusPending }) ∧ StatusesFollow s t ∧
      (∀ l ∈ eligibleDestinations s k, hasRole k (arbiterAt t l) = active ∧ arbiterAt t l = arbiterAt (feed l) l ∧
        heldCue t l = computedCue t l ∧
        ∀ o, cameraOutput s l = some o → look t.talk.orders o = look (feed l).talk.orders o) ∧
      (active = false → ∀ l, hasRole k (arbiterAt t l) = false) ∧
      (∀ l, l ∉ eligibleDestinations s k → arbiterAt t l = arbiterAt s l ∧ heldCue t l = heldCue s l) ∧
      (∀ o, (∀ l ∈ eligibleDestinations s k, cameraOutput s l ≠ some o) →
        look t.talk.orders o = look s.talk.orders o) ∧
      (∀ l, l ∈ t.ret.cuePending ↔ l ∈ s.ret.cuePending ∨ heldCue t l ≠ heldCue s l ∧ cueDelivered s l = true) ∧
      t.ret = { s.ret with cuePending := t.ret.cuePending } ∧
      t.tally = { s.tally with cues := t.tally.cues } ∧
      t.dir = s.dir ∧ t.plan = s.plan ∧ t.engine = s.engine ∧ t.retune = s.retune ∧ t.survey = s.survey ∧
      t.ctl.causes = s.ctl.causes ∧ t.ctl.changed = s.ctl.changed ∧
      t.talk.confirmed = s.talk.confirmed ∧ t.talk.orderInFlight = s.talk.orderInFlight ∧
      t.talk.sending = s.talk.sending ∧ t.talk.lastServed = s.talk.lastServed
    let items (t : State) : List Item :=
      [.one (.flag (keyAt t k).active), .one (.choice (statusOfKeyNumber (keyAt t k).status))]
    let accepted (message : Instr) (code : RequestCode) (request : Port → Instr) (active : Bool)
        (feed : Nat → State) : Prop :=
      (∃ t, exec message s = .next t ∧ become active feed t ∧ t.ports = { s.ports with keypanel := none }) ∧
      ∀ p, MaySend p code s →
        ∃ t, become active feed t ∧ exec (request p) s = .next (answered p code (items t) t)
    let ignored (message : Instr) (code : RequestCode) (request : Port → Instr) : Prop :=
      exec message s = .next { s with ports.keypanel := none } ∧
      ∀ p, MaySend p code s → exec (request p) s = .next (answered p code (items s) (completeFrame p s))
    (key.active = false →
      accepted (.keyDown k) .keyPress (.keyPress · k) true (requestFeed k · s) ∧
      ignored (.keyUp k) .keyLift (.keyLift · k)) ∧
    (key.active = true → key.mode = .latch →
      accepted (.keyDown k) .keyPress (.keyPress · k) false (withdrawFeed k · s) ∧
      ignored (.keyUp k) .keyLift (.keyLift · k)) ∧
    (key.active = true → key.mode = .momentary →
      ignored (.keyDown k) .keyPress (.keyPress · k) ∧
      accepted (.keyUp k) .keyLift (.keyLift · k) false (withdrawFeed k · s))) ∧
  ∀ (p : Port) (k : Nat) (s : State), 31 < k →
    (MaySend p .keyPress s → exec (.keyPress p k) s = .next (refusedWith p .keyPress .badField s)) ∧
    (MaySend p .keyLift s → exec (.keyLift p k) s = .next (refusedWith p .keyLift .badField s))

/-- A request at the arbiter of an eligible destination (R144, R147): nothing where the key has a role; the holder role
under DEFAULT; preemption by a lower level of a holder that is not locked, which goes on top of the saved stack with its
level; else the pending set. A change of holder places an order of the new holder's source for the link's output; the
pending set places none.
A withdrawal (R145): a saved or pending key leaves its place and the others keep theirs; the holder's starts selection
and places the order of the holder it gives, or of the default input; without a role nothing changes.
Selection when the holder role is vacated: no candidate gives DEFAULT; the saved top wins at the best level, ties
against pending keys included; else the pending key at the best level that is first after the last granted key of that
level in cyclic order wins, leaves the pending set and becomes the last granted key (R146). -/
def Obligations.ArbiterSteps : Prop :=
  (∀ (k l o : Nat) (s : State), cameraOutput s l = some o →
    let a := arbiterAt s l
    let level := (keyAt s k).level
    let granted (a' : Arbiter) : State := { s with
      talk.arbiters := put s.talk.arbiters l a'
      talk.orders := put s.talk.orders o (some (.input (keyAt s k).source)) }
    (hasRole k a = true → requestFeed k l s = s) ∧
    (a.holder = none → hasRole k a = false → requestFeed k l s = granted { a with holder := some k }) ∧
    (∀ h, hasRole k a = false → a.holder = some h → level < (keyAt s h).level → (keyAt s h).locked = false →
      requestFeed k l s = granted { a with holder := some k, saved := ⟨h, (keyAt s h).level⟩ :: a.saved }) ∧
    (∀ h, hasRole k a = false → a.holder = some h → (keyAt s h).level ≤ level ∨ (keyAt s h).locked = true →
      ∃ w, requestFeed k l s = { s with talk.arbiters := put s.talk.arbiters l { a with waiting := w } } ∧
        (∀ x, x ∈ w ↔ x ∈ a.waiting ∨ x = ⟨k, level⟩))) ∧
  (∀ (k l : Nat) (s : State),
    let a := arbiterAt s l
    let others (ws : List Waiter) : List Waiter := ws.filter fun w => w.key != k
    (hasRole k a = false → withdrawFeed k l s = s) ∧
    (a.holder ≠ some k → (∃ w ∈ a.saved, w.key = k) →
      withdrawFeed k l s = { s with talk.arbiters := put s.talk.arbiters l { a with saved := others a.saved } }) ∧
    (a.holder ≠ some k → (∀ w ∈ a.saved, w.key ≠ k) → (∃ w ∈ a.waiting, w.key = k) →
      withdrawFeed k l s = { s with talk.arbiters := put s.talk.arbiters l { a with waiting := others a.waiting } }) ∧
    (∀ o, a.holder = some k → cameraOutput s l = some o →
      let input : MatrixInput := match (selectHolder a).holder, a.defaultInput with
        | some h, _ => .input (keyAt s h).source
        | none, some i => .input i
        | none, none => .mute
      withdrawFeed k l s = { s with
        talk.arbiters := put s.talk.arbiters l (selectHolder a)
        talk.orders := put s.talk.orders o (some input) })) ∧
  (∀ (a : Arbiter),
    (a.saved = [] → a.waiting = [] → selectHolder a = { a with holder := none }) ∧
    (∀ top rest, a.saved = top :: rest → (∀ w ∈ a.waiting, top.level ≤ w.level) →
      selectHolder a = { a with holder := some top.key, saved := rest }) ∧
    (∀ w ∈ a.waiting, (∀ x ∈ a.waiting, w.level ≤ x.level) →
      (∀ top, a.saved.head? = some top → w.level < top.level) → (a.waiting.map Waiter.key).Pairwise (· < ·) →
      let last := look a.lastGranted w.level
      let before (x y : Nat) : Prop := match last with
        | none => x ≤ y
        | some g => (g < x ∧ (y ≤ g ∨ x ≤ y)) ∨ (x ≤ g ∧ y ≤ g ∧ x ≤ y)
      (∀ x ∈ a.waiting, x.level = w.level → before w.key x.key) →
      selectHolder a = { a with
        holder := some w.key
        waiting := a.waiting.filter fun x => x.key != w.key
        lastGranted := put a.lastGranted w.level (some w.key) }))

/-- The keypanel port's sends: a start takes the lowest key with its status pending flag set, clears the flag and
carries the status held; the end frees the port (R153).
The matrix order port. A start takes the pending order of the first output after the last served in cyclic order,
with a deadline of now plus 50 ms. An ORDER ACK that names the output and input in flight ends it and writes the
confirmed input; any other well-formed one changes nothing; a timeout makes the confirmed input UNKNOWN and raises
MATRIX_FAULT (R156 to R158). -/
def Obligations.TalkbackPorts : Prop :=
  (∀ (s : State),
    (∀ k, s.talk.sending = none → k ≤ 31 → (keyAt s k).statusPending = true →
      (∀ j < k, (keyAt s j).statusPending = false) →
      exec .keyStatusSendStart s = .next { s with
        talk.keys := put s.talk.keys k { keyAt s k with statusPending := false }
        talk.sending := some ⟨k, (keyAt s k).status⟩ }) ∧
    exec .keyStatusSendEnd s = .next { s with talk.sending := none }) ∧
  (∀ (s : State),
    (∀ o i, s.talk.orderInFlight = none → look s.talk.orders o = some i →
      (∀ x, (look s.talk.orders x).isSome = true → match s.talk.lastServed with
        | none => o ≤ x
        | some g => (g < o ∧ (x ≤ g ∨ o ≤ x)) ∨ (o ≤ g ∧ x ≤ g ∧ o ≤ x)) →
      exec .orderSendStart s = .next { s with
        talk.orders := put s.talk.orders o none
        talk.orderInFlight := some ⟨o, i, s.clock + 50#32⟩
        talk.lastServed := some o }) ∧
    (∀ o i, o ≤ 127 → i ≤ 127 ∨ i = 255 →
      let input : MatrixInput := if i = 255 then .mute else .input i
      let taken : State := { s with ports.matrix := none }
      (∀ f, s.talk.orderInFlight = some f → f.output = o → f.input = input →
        exec (.orderAck o i) s = .next { taken with
          talk.orderInFlight := none, talk.confirmed := put s.talk.confirmed o (some input) }) ∧
      ((∀ f, s.talk.orderInFlight = some f → ¬ (f.output = o ∧ f.input = input)) →
        exec (.orderAck o i) s = .next taken)) ∧
    (∀ f, s.talk.orderInFlight = some f → reached f.deadline s.clock = true →
      exec .orderTimeout s = .next { s with
        talk.orderInFlight := none, talk.confirmed := put s.talk.confirmed f.output none
        ctl.causes := s.ctl.causes ||| causeOnly .matrixFault }))

/-! ## Return channel port -/

/-- RETURN.PASS for an enrolled CAMERA joins the tail of the PASS queue and answers how many entries stand ahead; its
refusals are BAD_FIELD, BAD_STATE and FULL, in this order. RETURN.GET reads (R164, R165, R172): the TUNE pending and
the CUE pending set, the last TUNE and the last CUE served, the link and payload length of each PASS queue entry, oldest
first, the next send number, and of a message in flight its kind, TUNE, CUE or PASS from 0, link, send number, content
and deadline. The counts before the lists, the layout and the numbers of the kinds are the model's (log entries 8, 10
and 21). -/
def Obligations.ReturnRequests : Prop :=
  ∀ (p : Port) (s : State),
    (∀ l b, MaySend p .returnPass s →
      (l ≤ 63 → 1 ≤ b.length → b.length ≤ 16 → isCamera s l = true → s.ret.passQueue.length < 16 →
        exec (.returnPass p l b) s = .next (answered p .returnPass [.one (.word s.ret.passQueue.length)]
          { completeFrame p s with ret.passQueue := s.ret.passQueue ++ [⟨l, b⟩] })) ∧
      (63 < l ∨ b = [] ∨ 16 < b.length →
        exec (.returnPass p l b) s = .next (refusedWith p .returnPass .badField s)) ∧
      (l ≤ 63 → 1 ≤ b.length → b.length ≤ 16 → isCamera s l = false →
        exec (.returnPass p l b) s = .next (refusedWith p .returnPass .badState s)) ∧
      (l ≤ 63 → 1 ≤ b.length → b.length ≤ 16 → isCamera s l = true → 16 ≤ s.ret.passQueue.length →
        exec (.returnPass p l b) s = .next (refusedWith p .returnPass .full s))) ∧
    exec (.returnGet p) s = .next (answered p .returnGet (returnItems s.ret) (completeFrame p s)) ∧
    let r := s.ret
    let set (links : List Nat) : List Item := .one (.size links.length) :: links.map fun l => .one (.index l)
    returnItems r = set r.tunePending ++ set r.cuePending ++
      [.one (.index (r.lastTune.getD 255)), .one (.index (r.lastCue.getD 255)), .one (.size r.passQueue.length)] ++
      (r.passQueue.flatMap fun e => [.one (.index e.link), .one (.size e.payload.length)]) ++
      [.one (.small r.sendNumber), .optional (match r.inFlight with
        | none => [[], [], [], [], []]
        | some ⟨l, n, .tune c h, d⟩ => [[.choice 0], [.index l], [.small n], [.freq c, .word h], [.clock d]]
        | some ⟨l, n, .cue c, d⟩ => [[.choice 1], [.index l], [.small n], [.cue c], [.clock d]]
        | some ⟨l, n, .pass b, d⟩ =>
          [[.choice 2], [.index l], [.small n], .size b.length :: b.map .octet, [.clock d]])]

/-- The start of a send: with a TUNE pending the link first after the last TUNE served in cyclic order is sent its new
carrier's centre and half width; else with a CUE pending the link first after the last CUE served its cue state; else
the head of the PASS queue. The message takes the send number, which rises by 1 and goes from 255 to 0, and a deadline
of now plus 20 ms; its entry leaves, and nothing else changes (R166, R167).
DONE that names the message in flight ends it; one that names another number, or arrives with none in flight, is
discarded. A timeout abandons the message and raises RETURN_FAULT; TUNE is set pending again only for an enrolled
CAMERA in ORDERED, CUE only for one in LIVE or FADING, and a PASS is dropped (R169, R170). -/
def Obligations.ReturnSendsAndEnds : Prop :=
  (∀ (s : State), s.ret.inFlight = none →
    let first (last : Option Nat) (l : Nat) (set : List Nat) : Prop := l ∈ set ∧ ∀ x ∈ set, match last with
      | none => l ≤ x
      | some g => (g < l ∧ (x ≤ g ∨ l ≤ x)) ∨ (l ≤ g ∧ x ≤ g ∧ l ≤ x)
    let message (l : Nat) (c : Content) : FlyingMessage := ⟨l, s.ret.sendNumber, c, s.clock + 20#32⟩
    let next := (s.ret.sendNumber + 1) % 256
    (∀ l n r e c, IndexSet 64 s.ret.tunePending → first s.ret.lastTune l s.ret.tunePending →
      entry s l = .enrolled e → e.phase = .ordered r n → (planRecord s n).carrier = some c →
      exec .returnSendStart s = .next { s with
        ret.tunePending := setRemove l s.ret.tunePending, ret.lastTune := some l
        ret.inFlight := some (message l (.tune c.centre c.halfWidth)), ret.sendNumber := next }) ∧
    (∀ l, IndexSet 64 s.ret.cuePending → s.ret.tunePending = [] → first s.ret.lastCue l s.ret.cuePending →
      exec .returnSendStart s = .next { s with
        ret.cuePending := setRemove l s.ret.cuePending, ret.lastCue := some l
        ret.inFlight := some (message l (.cue (heldCue s l))), ret.sendNumber := next }) ∧
    ∀ e rest, s.ret.tunePending = [] → s.ret.cuePending = [] → s.ret.passQueue = e :: rest →
      exec .returnSendStart s = .next { s with
        ret.passQueue := rest, ret.inFlight := some (message e.link (.pass e.payload)), ret.sendNumber := next }) ∧
  (∀ (s : State),
    (∀ m, s.ret.inFlight = some m →
      exec (.doneMessage m.number) s = .next { s with ports.ret := none, ret.inFlight := none }) ∧
    (∀ n, (∀ m, s.ret.inFlight = some m → m.number ≠ n) →
      exec (.doneMessage n) s = .next { s with ports.ret := none }) ∧
    (∀ m, s.ret.inFlight = some m → reached m.deadline s.clock = true →
      let t : State := { s with
        ret.inFlight := none, ctl.causes := s.ctl.causes ||| causeOnly .returnFault }
      exec .returnTimeout s = .next (match m.content with
        | .tune _ _ => if tuneWanted s m.link then { t with ret.tunePending := setAdd m.link s.ret.tunePending } else t
        | .cue _ => if cueDelivered s m.link then { t with ret.cuePending := setAdd m.link s.ret.cuePending } else t
        | .pass _ => t)))

/-! ## Control ports -/

/-- AUTHORITY.YIELD: on the service port while the owner is SERVICE it makes the owner PRIMARY, raises AUTHORITY and is
answered OK; on the service port while the owner is PRIMARY, and on the primary port while it is SERVICE, it is refused
NOT_AUTHORITY; on the primary port while the owner is PRIMARY it is refused BAD_STATE. A hardware reset makes the owner
PRIMARY and a warm restart keeps it (R178). -/
def Obligations.AuthorityYield : Prop :=
  mutating .authorityYield = true ∧
  ∀ (s : State),
    (s.ctl.owner = .service → exec (.authorityYield .service) s = .next (answered .service .authorityYield []
      { completeFrame .service s with
        ctl.owner := .primary, ctl.causes := s.ctl.causes ||| causeOnly .authority })) ∧
    (s.ctl.owner = .primary →
      exec (.authorityYield .service) s = .next (refusedWith .service .authorityYield .notAuthority s)) ∧
    (s.ctl.owner = .primary →
      exec (.authorityYield .primary) s = .next (refusedWith .primary .authorityYield .badState s)) ∧
    (s.ctl.owner = .service →
      exec (.authorityYield .primary) s = .next (refusedWith .primary .authorityYield .notAuthority s)) ∧
    (∀ t, exec .hardwareReset s = .next t → t.ctl.owner = .primary) ∧
    (∀ p t, exec (.runRestart p) s = .next t → t.ctl.owner = s.ctl.owner)

/-- The causes, the mask and the flags. CAUSE.READ returns the causes, the mask, the attention line and the owner;
CAUSE.CLEAR clears the causes named and answers those left; CAUSE.MASK unmasks the causes named and masks every other;
a name that is no cause is refused BAD_FIELD. The line is asserted while a cause is set and unmasked. PORT.FAULTS
returns the thirteen flags and clears them, not the cause (R181 to R183). That the mask is carried as the set of
unmasked causes, the attention line as 1 for asserted and 0 for negated, and the owner as 0 for PRIMARY, are the model's
(log entries 10 and 21). -/
def Obligations.CausesAndFaults : Prop :=
  ∀ (p : Port) (s : State),
    exec (.causeRead p) s = .next (answered p .causeRead
      [.one (.causes s.ctl.causes), .one (.causes s.ctl.unmasked), .one (.flag (attention s)),
       .one (.choice (portNumber s.ctl.owner))] (completeFrame p s)) ∧
    (attention s = true ↔ ∃ c, causeIsSet c s = true ∧ causeIsUnmasked c s = true) ∧
    (∀ n : BitVec 16, n.toNat < 2048 → ∃ left, exec (.causeClear p n) s =
        .next (answered p .causeClear [.one (.causes left)] { completeFrame p s with ctl.causes := left }) ∧
      ∀ i < 11, left.getLsbD i = (s.ctl.causes.getLsbD i && !(n.getLsbD i))) ∧
    (∀ n : BitVec 16, MaySend p .causeMask s → n.toNat < 2048 → ∃ mask, exec (.causeMask p n) s =
        .next (answered p .causeMask [] { completeFrame p s with ctl.unmasked := mask }) ∧
      ∀ i < 11, mask.getLsbD i = n.getLsbD i) ∧
    (∀ n : BitVec 16, 2048 ≤ n.toNat →
      exec (.causeClear p n) s = .next (refusedWith p .causeClear .badField s) ∧
      (MaySend p .causeMask s → exec (.causeMask p n) s = .next (refusedWith p .causeMask .badField s))) ∧
    (let f := s.ctl.faults
     exec (.portFaults p) s = .next (answered p .portFaults
      ([f.service.framing, f.service.parity, f.receiver.framing, f.receiver.parity, f.mixer.framing, f.mixer.parity,
        f.keypanel.framing, f.keypanel.parity, f.matrix.framing, f.matrix.parity, f.ret.framing, f.ret.parity,
        f.directoryFull].map fun b => .one (.flag b))
      { completeFrame p s with ctl.faults :=
        ⟨⟨false, false⟩, ⟨false, false⟩, ⟨false, false⟩, ⟨false, false⟩, ⟨false, false⟩, ⟨false, false⟩, false⟩ }))

/-- A completed malformed frame is answered BAD_FRAME with the code as received and changes nothing else, on the
primary port a transaction with at least one byte whose first is not 00h, on the service port as many characters as
the length byte gives (R173, R175, R187, R188). A read transaction clocks out the held response, or NOT_READY, then
FFh, and empties the slot (R174, R187). The bytes out stand in a field of the model, the first byte clocked, which
the host sends 00h in, left out (log entry 5). -/
def Obligations.FramesAndTransactions : Prop :=
  (∀ (b : Byte) (rest : List Byte) (s : State), b ≠ 0#8 → decodeFrame .primary (b :: rest) = none →
    exec (.badFrame .primary (b :: rest)) s = .next { s with
      ctl.responseSlot := some ⟨match rest with
        | [] => 0
        | code :: _ => code.toNat, .badFrame, []⟩ }) ∧
  (∀ (b : Byte) (rest : List Byte) (s : State), rest.length = b.toNat → decodeFrame .service (b :: rest) = none →
    exec (.badFrame .service (b :: rest)) s = .next (respond .service ⟨match rest with
        | [] => 0
        | code :: _ => code.toNat, .badFrame, []⟩ { s with ctl.servicePartial := none })) ∧
  ∀ (n : Nat) (s : State), ∃ t, exec (.readTransaction n) s = .next t ∧ t.primaryOut.length = n ∧
    t = { s with primaryOut := t.primaryOut, ctl.responseSlot := none } ∧
    (∀ i < n, t.primaryOut[i]? = some (((s.ctl.responseSlot.getD ⟨0, .notReady, []⟩).frame[i]?).getD 0xFF#8))

/-- The service port's own events. A break discards a partial frame and takes authority from the primary port, raising
AUTHORITY only on a change of owner (R177). A parity error or a missing stop bit discards the partial frame and sets
the flag (R175, R183); so does a reached gap deadline. When a transmission ends the waiting response begins (R176).
Damage on an input port discards the message it is in, sets the port's parity or framing flag and raises
INPUT_FAULT: a parity error, a missing stop bit, a first byte that is no type of the port, a reached gap deadline, a
complete message with malformed content. The other flags and every block's records stay (R183, R190, R191). -/
def Obligations.LineEvents : Prop :=
  (∀ (s : State),
    (s.ctl.owner = .primary → exec .lineBreak s = .next { s with
      ctl.servicePartial := none, ctl.owner := .service, ctl.causes := s.ctl.causes ||| causeOnly .authority }) ∧
    (s.ctl.owner = .service → exec .lineBreak s = .next { s with ctl.servicePartial := none }) ∧
    exec (.serviceCharacterError .parity) s = .next { s with
      ctl.servicePartial := none, ctl.faults.service.parity := true
      ctl.causes := s.ctl.causes ||| causeOnly .inputFault } ∧
    exec (.serviceCharacterError .noStop) s = .next { s with
      ctl.servicePartial := none, ctl.faults.service.framing := true
      ctl.causes := s.ctl.causes ||| causeOnly .inputFault } ∧
    (∀ f, s.ctl.servicePartial = some f → reached f.deadline s.clock = true →
      exec .serviceGapExpiry s = .next { s with
        ctl.servicePartial := none, ctl.faults.service.framing := true
        ctl.causes := s.ctl.causes ||| causeOnly .inputFault }) ∧
    (∀ r, s.ctl.serviceSending = some r → exec .serviceResponseEnd s = .next { s with
      ctl.serviceSending := s.ctl.serviceWaiting, ctl.serviceWaiting := none })) ∧
  (∀ (line : InPort) (s : State),
    let damaged (parity : Bool) (t : State) : Prop :=
      t = { s with ports := t.ports, ctl := t.ctl } ∧ portPartial t line = none ∧
      (∀ m, m ≠ line → portPartial t m = portPartial s m) ∧
      t.ctl = { s.ctl with faults := t.ctl.faults, causes := s.ctl.causes ||| causeOnly .inputFault } ∧
      lineFaults t.ctl.faults (.port line) = (if parity then { lineFaults s.ctl.faults (.port line) with parity := true }
        else { lineFaults s.ctl.faults (.port line) with framing := true }) ∧
      (∀ m, m ≠ .port line → lineFaults t.ctl.faults m = lineFaults s.ctl.faults m) ∧
      t.ctl.faults.directoryFull = s.ctl.faults.directoryFull
    (∃ t, exec (.portByteError line .parity) s = .next t ∧ damaged true t) ∧
    (∃ t, exec (.portByteError line .noStop) s = .next t ∧ damaged false t) ∧
    (portPartial s line = none → ∃ t, exec (.portByteError line .unknownType) s = .next t ∧ damaged false t) ∧
    (∀ m, portPartial s line = some m → reached m.deadline s.clock = true →
      ∃ t, exec (.inputGapExpiry line) s = .next t ∧ damaged false t) ∧
    (∀ bytes, messageMalformed line bytes = true →
      ∃ t, exec (.malformedMessage line bytes) s = .next t ∧ damaged false t))

/-! ## Resets -/

/-- RUN.RESTART: every HANDOVER record becomes EMPTY and the others stay; the engine is empty; RUNNING jobs end with
RESTART and every bin is empty; every enrolled link is in STANDBY and phase NONE without timer, with result RESTART
where a retune was aborted, and keeps its identity, carrier, parameters and times; every key is inactive and IDLE with
its status pending flag set where it was not IDLE; the pending sets and the PASS queue are empty; every cause and the
changed-link set are clear, and the mask, the owner, the flags, the partial frame and the clock are kept (R5, R22, R47,
R50, R61, R116, R119, R126, R150, R161, R185). -/
def Obligations.WarmRestart : Prop :=
  ∀ (p : Port) (s : State), MaySend p .runRestart s →
    ∃ t, exec (.runRestart p) s = .next (answered p .runRestart [] t) ∧
      t.clock = s.clock ∧ t.plan.groups = s.plan.groups ∧
      (∀ i, planRecord t i = match planRecord s i with
        | .handover _ _ => .empty
        | r => r) ∧
      t.engine = .reset ∧ t.survey.window = s.survey.window ∧ (∀ b, look t.survey.bins b = none) ∧
      (∀ j, jobAt t j = match jobAt s j with
        | .running r => .ended r .restart
        | job => job) ∧
      (∀ l, match entry s l with
        | .enrolled e => ∃ e', entry t l = .enrolled e' ∧ e'.presence = .standby ∧ e'.phase = .none ∧
            e'.delayTimer = none ∧ e'.lastResult = (if e.phase = .none then e.lastResult else .restart) ∧
            e'.ident = e.ident ∧ e'.carrier = e.carrier ∧ e'.settings = e.settings ∧ e'.tally = e.tally ∧
            e'.lastHeard = e.lastHeard ∧ e'.lastGood = e.lastGood ∧ e'.bestReceiver = e.bestReceiver ∧
            e'.lastMargin = e.lastMargin ∧ e'.role = match e.role with
              | .camera o _ => .camera o 0
              | .mic => .mic
        | other => entry t l = other) ∧
      t.dir.pinBound = s.dir.pinBound ∧ t.dir.rover = s.dir.rover ∧ t.dir.autoAdmit = s.dir.autoAdmit ∧
      t.dir.capture = none ∧ t.retune = ⟨s.retune.limit, [], []⟩ ∧
      (∀ a, sourceFlags t a = .clear) ∧ t.tally.map = s.tally.map ∧ t.tally.lamps = s.tally.lamps ∧ CuesComputed t ∧
      (∀ k, k ≤ 31 → keyAt t k = { keyAt s k with
        active := false, status := .idle,
        statusPending := (keyAt s k).statusPending || (keyAt s k).status != .idle }) ∧
      (∀ l, l ≤ 63 → arbiterAt t l = { Arbiter.reset with defaultInput := (arbiterAt s l).defaultInput }) ∧
      (OutputsDistinct s → ∀ l o, cameraOutput s l = some o → o ≤ 127 →
        look t.talk.orders o = some (matrixInputOf (arbiterAt s l).defaultInput)) ∧
      (∀ o, (∀ l, cameraOutput s l ≠ some o) → look t.talk.orders o = look s.talk.orders o) ∧
      t.talk.sending = s.talk.sending ∧ t.talk.confirmed = s.talk.confirmed ∧
      t.talk.orderInFlight = s.talk.orderInFlight ∧ t.talk.lastServed = s.talk.lastServed ∧
      t.ret = { s.ret with tunePending := [], cuePending := [], passQueue := [] } ∧
      t.ctl = { completeFrame p s with ctl.causes := 0, ctl.changed := [] }.ctl ∧ t.ports = s.ports

/-- A hardware reset leaves every block as after reset, whatever went before. Every band group has edges and guards 0,
both switches on, step 1 and limit 256 (R1) and every plan record is EMPTY (R5). The engine runs nothing, its queue is
empty and every slot EMPTY (R22). The survey window is 0, 1, −90, every bin is empty and every job IDLE (R45, R47, R50).
Every entry is VACANT, the pin bound 0, the rover 63, auto-admit off and the capture slot empty (R59, R63, R64, R67).
The retune limit is 5,000 and no link seeks or waits (R99, R100, R105). The sources are clear, the map NONE, the cue
states all off and the lamp lines NONE, PROGRAM, OFF, HIGH (R119, R121, R126, R133). Every key has level 7, MOMENTARY,
not locked, source 0, no destination, is inactive and IDLE with nothing to send (R137); every arbiter has no default
input, holder DEFAULT and nobody waiting or last granted (R142); no KEY STATUS is in transmission (R153), no order is
pending or in flight, every confirmed input UNKNOWN and no output served (R155). The return scheduler is empty, with
send number 0 (R161). The clock is 0 (R79), the owner PRIMARY (R177), no response is held and no partial frame or
message (R174, R176, R190), no cause is set, every cause masked and the attention line negated (R182), every fault flag
clear (R183) and the changed-link set empty (R184). That the queue behind it stays is the model's, log entry 16. -/
def Obligations.HardwareReset : Prop :=
  ∀ (s : State), exec .hardwareReset s = .next { State.reset with pending := s.pending, arriving := s.arriving } ∧
    let r := State.reset
    r.clock = 0 ∧
    (∀ g ≤ 7, look r.plan.groups g = ⟨0, 0, 0, 0, true, true, 1, 256⟩) ∧ (∀ i, planRecord r i = .empty) ∧
    r.engine.queue = [] ∧ r.engine.running = none ∧ (∀ k, slotAt r k = .empty) ∧
    r.survey.window = ⟨0, 1, -90⟩ ∧ (∀ b, look r.survey.bins b = none) ∧ (∀ j, jobAt r j = .idle) ∧
    (∀ l, entry r l = .vacant) ∧ r.dir.pinBound = 0 ∧ r.dir.rover = 63 ∧ r.dir.autoAdmit = false ∧
    r.dir.capture = none ∧ r.retune = ⟨5000, [], []⟩ ∧
    (∀ a, sourceFlags r a = ⟨false, false, false⟩) ∧ (∀ a, mapEntry r a = none) ∧
    (∀ l, heldCue r l = ⟨.off, false, false⟩) ∧ (∀ n ≤ 15, lampLine r n = ⟨none, .program, .off, .high⟩) ∧
    (∀ k ≤ 31, keyAt r k = ⟨7, .momentary, false, 0, [], false, .idle, false⟩) ∧
    (∀ l ≤ 63, arbiterAt r l = ⟨none, none, [], [], Vector.replicate 8 none⟩) ∧
    r.talk.sending = none ∧ (∀ o, look r.talk.orders o = none) ∧ (∀ o, look r.talk.confirmed o = none) ∧
    r.talk.orderInFlight = none ∧ r.talk.lastServed = none ∧ r.ret = ⟨[], [], [], none, none, none, 0⟩ ∧
    r.ctl.owner = .primary ∧ r.ctl.responseSlot = none ∧ r.ctl.serviceSending = none ∧ r.ctl.serviceWaiting = none ∧
    r.ctl.servicePartial = none ∧ r.ctl.causes = 0 ∧ r.ctl.unmasked = 0 ∧ attention r = false ∧
    (∀ line, lineFaults r.ctl.faults line = ⟨false, false⟩) ∧ r.ctl.faults.directoryFull = false ∧
    r.ctl.changed = [] ∧ ∀ line, portPartial r line = none

/-! ## Rules of the whole machine -/

/-- A setting is written only by its own request and a hardware reset: the band groups by GROUP.SET, the pin bound by
DIRECTORY.PIN, the auto-admit setting by DIRECTORY.ADMIT, the retune limit by RETUNE.LIMIT, the tally map by TALLY.MAP,
the lamp line records by LAMP.SET, the mask by CAUSE.MASK, the survey window by SURVEY.SETUP; no request writes the link
clock (R1, R2, R46, R63, R64, R79, R100, R121, R133, R182). -/
def Obligations.SettingsHaveOneWriter : Prop :=
  ∀ (c : Instr) (s t : State), exec c s = .next t → c ≠ .hardwareReset →
    ((∀ p r, requestParts c ≠ some (p, .groupSet, r)) → t.plan.groups = s.plan.groups) ∧
    ((∀ p r, requestParts c ≠ some (p, .directoryPin, r)) → t.dir.pinBound = s.dir.pinBound) ∧
    ((∀ p r, requestParts c ≠ some (p, .directoryAdmit, r)) → t.dir.autoAdmit = s.dir.autoAdmit) ∧
    ((∀ p r, requestParts c ≠ some (p, .retuneLimit, r)) → t.retune.limit = s.retune.limit) ∧
    ((∀ p r, requestParts c ≠ some (p, .tallyMap, r)) → t.tally.map = s.tally.map) ∧
    ((∀ p r, requestParts c ≠ some (p, .lampSet, r)) → t.tally.lamps = s.tally.lamps) ∧
    ((∀ p r, requestParts c ≠ some (p, .causeMask, r)) → t.ctl.unmasked = s.ctl.unmasked) ∧
    ((∀ p r, requestParts c ≠ some (p, .surveySetup, r)) → t.survey.window = s.survey.window) ∧
    t.clock = s.clock

/-- The authority owner changes only by a break, by AUTHORITY.YIELD from the service port and by a hardware reset, and
a break and a yield that change it raise AUTHORITY (R177, R178).
A cause that is set stays set but for CAUSE.CLEAR naming it, a warm restart and a hardware reset (R181). -/
def Obligations.AuthorityAndCausesHold : Prop :=
  (∀ (c : Instr) (s t : State), exec c s = .next t → t.ctl.owner ≠ s.ctl.owner →
    c = .hardwareReset ∧ t.ctl.owner = .primary ∨
    c = .lineBreak ∧ t.ctl.owner = .service ∧ causeIsSet .authority t = true ∨
    c = .authorityYield .service ∧ t.ctl.owner = .primary ∧ causeIsSet .authority t = true) ∧
  (∀ (c : Instr) (k : Cause) (s t : State), exec c s = .next t → causeIsSet k s = true →
    causeIsSet k t = true ∨ c = .hardwareReset ∨ (∃ p, c = .runRestart p) ∨
    ∃ p n, c = .causeClear p n ∧ n.getLsbD (causeBit k) = true)

/-- Every change of a link's presence or retune phase, but by a warm restart, adds the link to the changed-link set; a
change into LOST or out of it raises PRESENCE; and the end of a retune raises RETUNE_END (R84, R85, R101, R184). -/
def Obligations.LinkChangesAreReported : Prop :=
  ∀ (c : Instr) (l : Nat) (e e' : EnrolledLink) (s t : State), exec c s = .next t → (∀ p, c ≠ .runRestart p) →
    entry s l = .enrolled e → entry t l = .enrolled e' →
    (e'.presence ≠ e.presence ∨ phaseNumber e'.phase ≠ phaseNumber e.phase → l ∈ t.ctl.changed) ∧
    (e'.presence ≠ e.presence → e'.presence = .lost ∨ e.presence = .lost → causeIsSet .presence t = true) ∧
    (e.phase ≠ .none → e'.phase = .none → causeIsSet .retuneEnd t = true)

/-! ## Invariants -/

/-- The laws hold at reset (R1, R5, R22, R50, R59, R63, R126, R142, R161, R184). -/
def Obligations.LawsHoldAtReset : Prop :=
  GroupsWithinCapacity State.reset ∧ OwnershipBinding State.reset ∧ JobsInOrder State.reset ∧
  IdentsDistinct State.reset ∧ OutputsDistinct State.reset ∧ RoverInRange State.reset ∧
  SettingsInRange State.reset ∧ ChangedSetOrdered State.reset ∧ DelayTimersBelong State.reset ∧
  SlotsMatchEngine State.reset ∧ SearchLaw State.reset ∧ SeekingInOrder State.reset ∧
  PendingLinksFit State.reset ∧ ReturnInOrder State.reset ∧
  CuesComputed State.reset ∧ FeedLaw State.reset ∧ KeysInRange State.reset ∧ StatusesComputed State.reset

/-- Every step keeps every band group within 24 plan records that are not EMPTY (R8).
Every step keeps the survey jobs in order: one RUNNING job a receiver, with 1 to 256 samples remaining (R50). -/
def Obligations.StepsKeepGroupsAndJobs : Prop :=
  (∀ (s t : State), GroupsWithinCapacity s → step s = .next t → GroupsWithinCapacity t) ∧
  (∀ (s t : State), JobsInOrder s → step s = .next t → JobsInOrder t)

/-- Every step keeps the binding of links and plan records: each ACTIVE and HANDOVER record has its link, and each
ENROLLED link its records (R6, R7). -/
def Obligations.StepsKeepOwnership : Prop :=
  ∀ (s t : State), OwnershipBinding s → step s = .next t → OwnershipBinding t

/-- Every step keeps the directory: distinct IDs, distinct return audio outputs, parameters, pin bound and rover in
range, and the changed-link set in order (R60, R63, R72 to R74, R184). It keeps `DelayTimersBelong`: a retune-delay
timer that runs belongs to a FADING link in phase NONE with auto-retune on (R95 to R97). -/
def Obligations.StepsKeepDirectory : Prop :=
  ∀ (s t : State), step s = .next t →
    (IdentsDistinct s → IdentsDistinct t) ∧ (OutputsDistinct s → OutputsDistinct t) ∧
    (SettingsInRange s → SettingsInRange t) ∧ (RoverInRange s → RoverInRange t) ∧
    (RoverInRange s → ChangedSetOrdered s → ChangedSetOrdered t) ∧ (DelayTimersBelong s → DelayTimersBelong t)

/-- Every step keeps each slot in agreement with the engine's requests (R23, R26).
Every step keeps the return scheduler in order: its sets and queue within bounds, TUNE pending only for CAMERAs in
ORDERED and CUE pending only for CAMERAs (R161 to R164). -/
def Obligations.StepsKeepSlotsAndReturns : Prop :=
  (∀ (s t : State), SlotsMatchEngine s → step s = .next t → SlotsMatchEngine t) ∧
  (∀ (s t : State), step s = .next t →
    (ReturnInOrder s → ReturnInOrder t) ∧ (PendingLinksFit s → PendingLinksFit t))

/-- Every step keeps the searches placed: at most two internal requests, each the search of a link in SEEKING with
place IN_ENGINE, the others on the seek wait list, which is empty while there is room (R26, R99, R104, R105).
Every step keeps the seek wait list in seeking order, the order in which its links entered SEEKING (R105, R106). -/
def Obligations.StepsKeepSearches : Prop :=
  (∀ (s t : State), SearchLaw s → step s = .next t → SearchLaw t) ∧
  ∀ (s t : State), SearchLaw s → SeekingInOrder s → step s = .next t → SeekingInOrder t

/-- Every step keeps every link's cue state equal to the one computed from its inputs (R124, R125).
Every step keeps the keys in range, and every key's status equal to the one computed from its roles (R137, R152). -/
def Obligations.StepsKeepDerivedState : Prop :=
  (∀ (s t : State), CuesComputed s → step s = .next t → CuesComputed t) ∧
  (∀ (s t : State), step s = .next t →
    (KeysInRange s → KeysInRange t) ∧ (StatusesComputed s → StatusesComputed t))

/-- Every step keeps the law of the feed arbiters and the roles with active keys at eligible destinations (R142,
R145). -/
def Obligations.StepsKeepFeedLaw : Prop :=
  ∀ (s t : State), FeedLaw s → step s = .next t → FeedLaw t

/-! ## The end of an internal search -/

/-- What the retune controller does with a search that ends without a new carrier, before the seek wait list is served
(R29, R105). A stale result keeps the link in SEEKING and puts it back on the wait list at the place of its seeking
order (R106). A result NONE, in an evaluation or in the start of a search that tries no candidate, ends the retune with
NO_CARRIER (R43, R107); a found centre ends it with TABLE_FULL where no record is EMPTY, and else with GROUP_FULL where
the group of the link's carrier has no room (R11, R108). An ended retune leaves phase NONE with the result and raises
RETUNE_END, and the link enters the changed-link set; the plan, the pending sets and every entry that does not wait
stay, all while no request runs. From the state `u` so reached the engine starts the head of its queue, which is what
ENGINE_START does (R27, R29; that it starts in the event of the completion is the model's reading, log entry 19). -/
def Obligations.InternalSearchesEnd : Prop :=
  (∀ (s : State) (r : Running) (l : Nat) (q : Search) (e : EnrolledLink) (rec_ : RetuneRecord),
    s.engine.running = some r → r.request = ⟨.internal l, .find q⟩ →
    entry s l = .enrolled e → e.phase = .seeking rec_ .inEngine → l ∉ s.retune.waitList →
    let centre := q.lower + q.halfWidth + r.evaluated * q.step
    let clear : Prop := conflicts s none ⟨centre, q.halfWidth, q.group⟩ = []
    let stops : Prop := q.upper < centre + q.step + q.halfWidth ∨ q.limit ≤ r.evaluated + 1
    let kept (t : State) : Prop := t.engine.running = none ∧ t.plan = s.plan ∧ t.ret = s.ret ∧ t.tally = s.tally ∧
      t.talk = s.talk ∧ t.survey = s.survey ∧ t.engine.slots = s.engine.slots ∧
      ∀ j, j ≠ l → j ∉ s.retune.waitList → entry t j = entry s j
    let ended (result : RetuneResult) : Prop := ∃ u, exec .candidateEvaluation s = exec .engineStart u ∧ kept u ∧
      entry u l = .enrolled { e with phase := .none, lastResult := result } ∧
      u.ctl.causes = s.ctl.causes ||| causeOnly .retuneEnd ∧ u.ctl.changed = setAdd l s.ctl.changed ∧
      l ∉ u.retune.seekOrder ∧ ListServed s.engine.queue s.retune.waitList s u
    (r.stale = true → clear ∨ stops → ∀ earlier later, s.retune.waitList = earlier ++ later →
      (∀ m ∈ earlier, s.retune.seekOrder.idxOf m < s.retune.seekOrder.idxOf l) →
      (∀ m ∈ later, s.retune.seekOrder.idxOf l ≤ s.retune.seekOrder.idxOf m) →
      ∃ u place, exec .candidateEvaluation s = exec .engineStart u ∧ kept u ∧
        entry u l = .enrolled { e with phase := .seeking rec_ place } ∧
        (place = .waiting ↔ l ∈ u.retune.waitList) ∧ u.ctl = s.ctl ∧ u.retune.seekOrder = s.retune.seekOrder ∧
        ListServed s.engine.queue (earlier ++ l :: later) s u) ∧
    (r.stale = false → ¬ clear → stops → ended .noCarrier) ∧
    (r.stale = false → clear → (∀ n ≤ 95, planRecord s n ≠ .empty) → ended .tableFull) ∧
    (∀ c, r.stale = false → clear → (∃ n ≤ 95, planRecord s n = .empty) →
      (planRecord s e.carrier).carrier = some c → 24 ≤ memberCount s c.group → ended .groupFull)) ∧
  ∀ (s : State) (l : Nat) (q : Search) (rest : List EngineRequest) (e : EnrolledLink) (rec_ : RetuneRecord),
    s.engine.running = none → s.engine.queue = ⟨.internal l, .find q⟩ :: rest →
    entry s l = .enrolled e → e.phase = .seeking rec_ .inEngine → l ∉ s.retune.waitList →
    q.upper < q.lower + q.halfWidth + q.halfWidth →
    ∃ u, exec .engineStart s = exec .engineStart u ∧ u.engine.running = none ∧ u.plan = s.plan ∧ u.ret = s.ret ∧
      u.engine.slots = s.engine.slots ∧ entry u l = .enrolled { e with phase := .none, lastResult := .noCarrier } ∧
      u.ctl.causes = s.ctl.causes ||| causeOnly .retuneEnd ∧ u.ctl.changed = setAdd l s.ctl.changed ∧
      (∀ j, j ≠ l → j ∉ s.retune.waitList → entry u j = entry s j) ∧ ListServed rest s.retune.waitList s u
end

