-- ==== Sys2Proof/Laws/State.lean ====
section
/-! SUPPORT. What each named update writes, and that it writes nothing else: one lemma per block of the state, each
true by unfolding the update. -/

namespace Sys2Proof.Machine

variable (s : State)

@[simp] theorem setEntry_clock (l : Nat) (e : LinkEntry) : (setEntry l e s).clock = s.clock := rfl
@[simp] theorem setEntry_plan (l : Nat) (e : LinkEntry) : (setEntry l e s).plan = s.plan := rfl
@[simp] theorem setEntry_engine (l : Nat) (e : LinkEntry) : (setEntry l e s).engine = s.engine := rfl
@[simp] theorem setEntry_survey (l : Nat) (e : LinkEntry) : (setEntry l e s).survey = s.survey := rfl
@[simp] theorem setEntry_dir (l : Nat) (e : LinkEntry) :
    (setEntry l e s).dir = { s.dir with entries := put s.dir.entries l e } := rfl
@[simp] theorem setEntry_retune (l : Nat) (e : LinkEntry) : (setEntry l e s).retune = s.retune := rfl
@[simp] theorem setEntry_tally (l : Nat) (e : LinkEntry) : (setEntry l e s).tally = s.tally := rfl
@[simp] theorem setEntry_talk (l : Nat) (e : LinkEntry) : (setEntry l e s).talk = s.talk := rfl
@[simp] theorem setEntry_ret (l : Nat) (e : LinkEntry) : (setEntry l e s).ret = s.ret := rfl
@[simp] theorem setEntry_ctl (l : Nat) (e : LinkEntry) : (setEntry l e s).ctl = s.ctl := rfl
@[simp] theorem setEntry_ports (l : Nat) (e : LinkEntry) : (setEntry l e s).ports = s.ports := rfl
@[simp] theorem setEntry_primaryOut (l : Nat) (e : LinkEntry) : (setEntry l e s).primaryOut = s.primaryOut := rfl
@[simp] theorem setEntry_arriving (l : Nat) (e : LinkEntry) : (setEntry l e s).arriving = s.arriving := rfl
@[simp] theorem setEntry_pending (l : Nat) (e : LinkEntry) : (setEntry l e s).pending = s.pending := rfl

@[simp] theorem setRecord_clock (i : Nat) (r : PlanRecord) : (setRecord i r s).clock = s.clock := rfl
@[simp] theorem setRecord_plan (i : Nat) (r : PlanRecord) :
    (setRecord i r s).plan = { s.plan with records := put s.plan.records i r } := rfl
@[simp] theorem setRecord_engine (i : Nat) (r : PlanRecord) : (setRecord i r s).engine = s.engine := rfl
@[simp] theorem setRecord_survey (i : Nat) (r : PlanRecord) : (setRecord i r s).survey = s.survey := rfl
@[simp] theorem setRecord_dir (i : Nat) (r : PlanRecord) : (setRecord i r s).dir = s.dir := rfl
@[simp] theorem setRecord_retune (i : Nat) (r : PlanRecord) : (setRecord i r s).retune = s.retune := rfl
@[simp] theorem setRecord_tally (i : Nat) (r : PlanRecord) : (setRecord i r s).tally = s.tally := rfl
@[simp] theorem setRecord_talk (i : Nat) (r : PlanRecord) : (setRecord i r s).talk = s.talk := rfl
@[simp] theorem setRecord_ret (i : Nat) (r : PlanRecord) : (setRecord i r s).ret = s.ret := rfl
@[simp] theorem setRecord_ctl (i : Nat) (r : PlanRecord) : (setRecord i r s).ctl = s.ctl := rfl
@[simp] theorem setRecord_ports (i : Nat) (r : PlanRecord) : (setRecord i r s).ports = s.ports := rfl
@[simp] theorem setRecord_primaryOut (i : Nat) (r : PlanRecord) : (setRecord i r s).primaryOut = s.primaryOut := rfl
@[simp] theorem setRecord_arriving (i : Nat) (r : PlanRecord) : (setRecord i r s).arriving = s.arriving := rfl
@[simp] theorem setRecord_pending (i : Nat) (r : PlanRecord) : (setRecord i r s).pending = s.pending := rfl

@[simp] theorem markChanged_clock (l : Nat) : (markChanged l s).clock = s.clock := rfl
@[simp] theorem markChanged_plan (l : Nat) : (markChanged l s).plan = s.plan := rfl
@[simp] theorem markChanged_engine (l : Nat) : (markChanged l s).engine = s.engine := rfl
@[simp] theorem markChanged_survey (l : Nat) : (markChanged l s).survey = s.survey := rfl
@[simp] theorem markChanged_dir (l : Nat) : (markChanged l s).dir = s.dir := rfl
@[simp] theorem markChanged_retune (l : Nat) : (markChanged l s).retune = s.retune := rfl
@[simp] theorem markChanged_tally (l : Nat) : (markChanged l s).tally = s.tally := rfl
@[simp] theorem markChanged_talk (l : Nat) : (markChanged l s).talk = s.talk := rfl
@[simp] theorem markChanged_ret (l : Nat) : (markChanged l s).ret = s.ret := rfl
@[simp] theorem markChanged_ctl (l : Nat) :
    (markChanged l s).ctl = { s.ctl with changed := setAdd l s.ctl.changed } := rfl
@[simp] theorem markChanged_ports (l : Nat) : (markChanged l s).ports = s.ports := rfl
@[simp] theorem markChanged_primaryOut (l : Nat) : (markChanged l s).primaryOut = s.primaryOut := rfl
@[simp] theorem markChanged_arriving (l : Nat) : (markChanged l s).arriving = s.arriving := rfl
@[simp] theorem markChanged_pending (l : Nat) : (markChanged l s).pending = s.pending := rfl

@[simp] theorem markStale_clock : (markStale s).clock = s.clock := rfl
@[simp] theorem markStale_plan : (markStale s).plan = s.plan := rfl
@[simp] theorem markStale_engine :
    (markStale s).engine = { s.engine with running := s.engine.running.map fun r => { r with stale := true } } := rfl
@[simp] theorem markStale_survey : (markStale s).survey = s.survey := rfl
@[simp] theorem markStale_dir : (markStale s).dir = s.dir := rfl
@[simp] theorem markStale_retune : (markStale s).retune = s.retune := rfl
@[simp] theorem markStale_tally : (markStale s).tally = s.tally := rfl
@[simp] theorem markStale_talk : (markStale s).talk = s.talk := rfl
@[simp] theorem markStale_ret : (markStale s).ret = s.ret := rfl
@[simp] theorem markStale_ctl : (markStale s).ctl = s.ctl := rfl
@[simp] theorem markStale_ports : (markStale s).ports = s.ports := rfl
@[simp] theorem markStale_primaryOut : (markStale s).primaryOut = s.primaryOut := rfl
@[simp] theorem markStale_arriving : (markStale s).arriving = s.arriving := rfl
@[simp] theorem markStale_pending : (markStale s).pending = s.pending := rfl

@[simp] theorem raise_clock (c : Cause) : (raise c s).clock = s.clock := rfl
@[simp] theorem raise_plan (c : Cause) : (raise c s).plan = s.plan := rfl
@[simp] theorem raise_engine (c : Cause) : (raise c s).engine = s.engine := rfl
@[simp] theorem raise_survey (c : Cause) : (raise c s).survey = s.survey := rfl
@[simp] theorem raise_dir (c : Cause) : (raise c s).dir = s.dir := rfl
@[simp] theorem raise_retune (c : Cause) : (raise c s).retune = s.retune := rfl
@[simp] theorem raise_tally (c : Cause) : (raise c s).tally = s.tally := rfl
@[simp] theorem raise_talk (c : Cause) : (raise c s).talk = s.talk := rfl
@[simp] theorem raise_ret (c : Cause) : (raise c s).ret = s.ret := rfl
@[simp] theorem raise_ctl (c : Cause) :
    (raise c s).ctl = { s.ctl with causes := s.ctl.causes ||| causeOnly c } := rfl
@[simp] theorem raise_ports (c : Cause) : (raise c s).ports = s.ports := rfl
@[simp] theorem raise_primaryOut (c : Cause) : (raise c s).primaryOut = s.primaryOut := rfl
@[simp] theorem raise_arriving (c : Cause) : (raise c s).arriving = s.arriving := rfl
@[simp] theorem raise_pending (c : Cause) : (raise c s).pending = s.pending := rfl

@[simp] theorem directoryFullFault_clock : (directoryFullFault s).clock = s.clock := rfl
@[simp] theorem directoryFullFault_plan : (directoryFullFault s).plan = s.plan := rfl
@[simp] theorem directoryFullFault_engine : (directoryFullFault s).engine = s.engine := rfl
@[simp] theorem directoryFullFault_survey : (directoryFullFault s).survey = s.survey := rfl
@[simp] theorem directoryFullFault_dir : (directoryFullFault s).dir = s.dir := rfl
@[simp] theorem directoryFullFault_retune : (directoryFullFault s).retune = s.retune := rfl
@[simp] theorem directoryFullFault_tally : (directoryFullFault s).tally = s.tally := rfl
@[simp] theorem directoryFullFault_talk : (directoryFullFault s).talk = s.talk := rfl
@[simp] theorem directoryFullFault_ret : (directoryFullFault s).ret = s.ret := rfl
@[simp] theorem directoryFullFault_ctl :
    (directoryFullFault s).ctl = { s.ctl with faults := { s.ctl.faults with directoryFull := true } } := rfl
@[simp] theorem directoryFullFault_ports : (directoryFullFault s).ports = s.ports := rfl
@[simp] theorem directoryFullFault_primaryOut : (directoryFullFault s).primaryOut = s.primaryOut := rfl
@[simp] theorem directoryFullFault_arriving : (directoryFullFault s).arriving = s.arriving := rfl
@[simp] theorem directoryFullFault_pending : (directoryFullFault s).pending = s.pending := rfl

@[simp] theorem setTunePending_clock (l : Nat) : (setTunePending l s).clock = s.clock := rfl
@[simp] theorem setTunePending_plan (l : Nat) : (setTunePending l s).plan = s.plan := rfl
@[simp] theorem setTunePending_engine (l : Nat) : (setTunePending l s).engine = s.engine := rfl
@[simp] theorem setTunePending_survey (l : Nat) : (setTunePending l s).survey = s.survey := rfl
@[simp] theorem setTunePending_dir (l : Nat) : (setTunePending l s).dir = s.dir := rfl
@[simp] theorem setTunePending_retune (l : Nat) : (setTunePending l s).retune = s.retune := rfl
@[simp] theorem setTunePending_tally (l : Nat) : (setTunePending l s).tally = s.tally := rfl
@[simp] theorem setTunePending_talk (l : Nat) : (setTunePending l s).talk = s.talk := rfl
@[simp] theorem setTunePending_ret (l : Nat) :
    (setTunePending l s).ret = { s.ret with tunePending := setAdd l s.ret.tunePending } := rfl
@[simp] theorem setTunePending_ctl (l : Nat) : (setTunePending l s).ctl = s.ctl := rfl
@[simp] theorem setTunePending_ports (l : Nat) : (setTunePending l s).ports = s.ports := rfl
@[simp] theorem setTunePending_primaryOut (l : Nat) : (setTunePending l s).primaryOut = s.primaryOut := rfl
@[simp] theorem setTunePending_arriving (l : Nat) : (setTunePending l s).arriving = s.arriving := rfl
@[simp] theorem setTunePending_pending (l : Nat) : (setTunePending l s).pending = s.pending := rfl

@[simp] theorem removeTunePending_clock (l : Nat) : (removeTunePending l s).clock = s.clock := rfl
@[simp] theorem removeTunePending_plan (l : Nat) : (removeTunePending l s).plan = s.plan := rfl
@[simp] theorem removeTunePending_engine (l : Nat) : (removeTunePending l s).engine = s.engine := rfl
@[simp] theorem removeTunePending_survey (l : Nat) : (removeTunePending l s).survey = s.survey := rfl
@[simp] theorem removeTunePending_dir (l : Nat) : (removeTunePending l s).dir = s.dir := rfl
@[simp] theorem removeTunePending_retune (l : Nat) : (removeTunePending l s).retune = s.retune := rfl
@[simp] theorem removeTunePending_tally (l : Nat) : (removeTunePending l s).tally = s.tally := rfl
@[simp] theorem removeTunePending_talk (l : Nat) : (removeTunePending l s).talk = s.talk := rfl
@[simp] theorem removeTunePending_ret (l : Nat) :
    (removeTunePending l s).ret = { s.ret with tunePending := setRemove l s.ret.tunePending } := rfl
@[simp] theorem removeTunePending_ctl (l : Nat) : (removeTunePending l s).ctl = s.ctl := rfl
@[simp] theorem removeTunePending_ports (l : Nat) : (removeTunePending l s).ports = s.ports := rfl
@[simp] theorem removeTunePending_primaryOut (l : Nat) : (removeTunePending l s).primaryOut = s.primaryOut := rfl
@[simp] theorem removeTunePending_arriving (l : Nat) : (removeTunePending l s).arriving = s.arriving := rfl
@[simp] theorem removeTunePending_pending (l : Nat) : (removeTunePending l s).pending = s.pending := rfl

@[simp] theorem setCuePending_clock (l : Nat) : (setCuePending l s).clock = s.clock := rfl
@[simp] theorem setCuePending_plan (l : Nat) : (setCuePending l s).plan = s.plan := rfl
@[simp] theorem setCuePending_engine (l : Nat) : (setCuePending l s).engine = s.engine := rfl
@[simp] theorem setCuePending_survey (l : Nat) : (setCuePending l s).survey = s.survey := rfl
@[simp] theorem setCuePending_dir (l : Nat) : (setCuePending l s).dir = s.dir := rfl
@[simp] theorem setCuePending_retune (l : Nat) : (setCuePending l s).retune = s.retune := rfl
@[simp] theorem setCuePending_tally (l : Nat) : (setCuePending l s).tally = s.tally := rfl
@[simp] theorem setCuePending_talk (l : Nat) : (setCuePending l s).talk = s.talk := rfl
@[simp] theorem setCuePending_ret (l : Nat) :
    (setCuePending l s).ret = { s.ret with cuePending := setAdd l s.ret.cuePending } := rfl
@[simp] theorem setCuePending_ctl (l : Nat) : (setCuePending l s).ctl = s.ctl := rfl
@[simp] theorem setCuePending_ports (l : Nat) : (setCuePending l s).ports = s.ports := rfl
@[simp] theorem setCuePending_primaryOut (l : Nat) : (setCuePending l s).primaryOut = s.primaryOut := rfl
@[simp] theorem setCuePending_arriving (l : Nat) : (setCuePending l s).arriving = s.arriving := rfl
@[simp] theorem setCuePending_pending (l : Nat) : (setCuePending l s).pending = s.pending := rfl

@[simp] theorem removeCuePending_clock (l : Nat) : (removeCuePending l s).clock = s.clock := rfl
@[simp] theorem removeCuePending_plan (l : Nat) : (removeCuePending l s).plan = s.plan := rfl
@[simp] theorem removeCuePending_engine (l : Nat) : (removeCuePending l s).engine = s.engine := rfl
@[simp] theorem removeCuePending_survey (l : Nat) : (removeCuePending l s).survey = s.survey := rfl
@[simp] theorem removeCuePending_dir (l : Nat) : (removeCuePending l s).dir = s.dir := rfl
@[simp] theorem removeCuePending_retune (l : Nat) : (removeCuePending l s).retune = s.retune := rfl
@[simp] theorem removeCuePending_tally (l : Nat) : (removeCuePending l s).tally = s.tally := rfl
@[simp] theorem removeCuePending_talk (l : Nat) : (removeCuePending l s).talk = s.talk := rfl
@[simp] theorem removeCuePending_ret (l : Nat) :
    (removeCuePending l s).ret = { s.ret with cuePending := setRemove l s.ret.cuePending } := rfl
@[simp] theorem removeCuePending_ctl (l : Nat) : (removeCuePending l s).ctl = s.ctl := rfl
@[simp] theorem removeCuePending_ports (l : Nat) : (removeCuePending l s).ports = s.ports := rfl
@[simp] theorem removeCuePending_primaryOut (l : Nat) : (removeCuePending l s).primaryOut = s.primaryOut := rfl
@[simp] theorem removeCuePending_arriving (l : Nat) : (removeCuePending l s).arriving = s.arriving := rfl
@[simp] theorem removeCuePending_pending (l : Nat) : (removeCuePending l s).pending = s.pending := rfl

@[simp] theorem removePasses_clock (l : Nat) : (removePasses l s).clock = s.clock := rfl
@[simp] theorem removePasses_plan (l : Nat) : (removePasses l s).plan = s.plan := rfl
@[simp] theorem removePasses_engine (l : Nat) : (removePasses l s).engine = s.engine := rfl
@[simp] theorem removePasses_survey (l : Nat) : (removePasses l s).survey = s.survey := rfl
@[simp] theorem removePasses_dir (l : Nat) : (removePasses l s).dir = s.dir := rfl
@[simp] theorem removePasses_retune (l : Nat) : (removePasses l s).retune = s.retune := rfl
@[simp] theorem removePasses_tally (l : Nat) : (removePasses l s).tally = s.tally := rfl
@[simp] theorem removePasses_talk (l : Nat) : (removePasses l s).talk = s.talk := rfl
@[simp] theorem removePasses_ret (l : Nat) :
    (removePasses l s).ret = { s.ret with passQueue := s.ret.passQueue.filter fun e => e.link != l } := rfl
@[simp] theorem removePasses_ctl (l : Nat) : (removePasses l s).ctl = s.ctl := rfl
@[simp] theorem removePasses_ports (l : Nat) : (removePasses l s).ports = s.ports := rfl
@[simp] theorem removePasses_primaryOut (l : Nat) : (removePasses l s).primaryOut = s.primaryOut := rfl
@[simp] theorem removePasses_arriving (l : Nat) : (removePasses l s).arriving = s.arriving := rfl
@[simp] theorem removePasses_pending (l : Nat) : (removePasses l s).pending = s.pending := rfl

@[simp] theorem enqueue_clock (r : EngineRequest) : (enqueue r s).clock = s.clock := rfl
@[simp] theorem enqueue_plan (r : EngineRequest) : (enqueue r s).plan = s.plan := rfl
@[simp] theorem enqueue_engine (r : EngineRequest) :
    (enqueue r s).engine = { s.engine with queue := s.engine.queue ++ [r] } := rfl
@[simp] theorem enqueue_survey (r : EngineRequest) : (enqueue r s).survey = s.survey := rfl
@[simp] theorem enqueue_dir (r : EngineRequest) : (enqueue r s).dir = s.dir := rfl
@[simp] theorem enqueue_retune (r : EngineRequest) : (enqueue r s).retune = s.retune := rfl
@[simp] theorem enqueue_tally (r : EngineRequest) : (enqueue r s).tally = s.tally := rfl
@[simp] theorem enqueue_talk (r : EngineRequest) : (enqueue r s).talk = s.talk := rfl
@[simp] theorem enqueue_ret (r : EngineRequest) : (enqueue r s).ret = s.ret := rfl
@[simp] theorem enqueue_ctl (r : EngineRequest) : (enqueue r s).ctl = s.ctl := rfl
@[simp] theorem enqueue_ports (r : EngineRequest) : (enqueue r s).ports = s.ports := rfl
@[simp] theorem enqueue_primaryOut (r : EngineRequest) : (enqueue r s).primaryOut = s.primaryOut := rfl
@[simp] theorem enqueue_arriving (r : EngineRequest) : (enqueue r s).arriving = s.arriving := rfl
@[simp] theorem enqueue_pending (r : EngineRequest) : (enqueue r s).pending = s.pending := rfl

@[simp] theorem setSlot_clock (k : Nat) (v : Slot) : (setSlot k v s).clock = s.clock := rfl
@[simp] theorem setSlot_plan (k : Nat) (v : Slot) : (setSlot k v s).plan = s.plan := rfl
@[simp] theorem setSlot_engine (k : Nat) (v : Slot) :
    (setSlot k v s).engine = { s.engine with slots := put s.engine.slots k v } := rfl
@[simp] theorem setSlot_survey (k : Nat) (v : Slot) : (setSlot k v s).survey = s.survey := rfl
@[simp] theorem setSlot_dir (k : Nat) (v : Slot) : (setSlot k v s).dir = s.dir := rfl
@[simp] theorem setSlot_retune (k : Nat) (v : Slot) : (setSlot k v s).retune = s.retune := rfl
@[simp] theorem setSlot_tally (k : Nat) (v : Slot) : (setSlot k v s).tally = s.tally := rfl
@[simp] theorem setSlot_talk (k : Nat) (v : Slot) : (setSlot k v s).talk = s.talk := rfl
@[simp] theorem setSlot_ret (k : Nat) (v : Slot) : (setSlot k v s).ret = s.ret := rfl
@[simp] theorem setSlot_ctl (k : Nat) (v : Slot) : (setSlot k v s).ctl = s.ctl := rfl
@[simp] theorem setSlot_ports (k : Nat) (v : Slot) : (setSlot k v s).ports = s.ports := rfl
@[simp] theorem setSlot_primaryOut (k : Nat) (v : Slot) : (setSlot k v s).primaryOut = s.primaryOut := rfl
@[simp] theorem setSlot_arriving (k : Nat) (v : Slot) : (setSlot k v s).arriving = s.arriving := rfl
@[simp] theorem setSlot_pending (k : Nat) (v : Slot) : (setSlot k v s).pending = s.pending := rfl

@[simp] theorem setJob_clock (j : Nat) (v : SurveyJob) : (setJob j v s).clock = s.clock := rfl
@[simp] theorem setJob_plan (j : Nat) (v : SurveyJob) : (setJob j v s).plan = s.plan := rfl
@[simp] theorem setJob_engine (j : Nat) (v : SurveyJob) : (setJob j v s).engine = s.engine := rfl
@[simp] theorem setJob_survey (j : Nat) (v : SurveyJob) :
    (setJob j v s).survey = { s.survey with jobs := put s.survey.jobs j v } := rfl
@[simp] theorem setJob_dir (j : Nat) (v : SurveyJob) : (setJob j v s).dir = s.dir := rfl
@[simp] theorem setJob_retune (j : Nat) (v : SurveyJob) : (setJob j v s).retune = s.retune := rfl
@[simp] theorem setJob_tally (j : Nat) (v : SurveyJob) : (setJob j v s).tally = s.tally := rfl
@[simp] theorem setJob_talk (j : Nat) (v : SurveyJob) : (setJob j v s).talk = s.talk := rfl
@[simp] theorem setJob_ret (j : Nat) (v : SurveyJob) : (setJob j v s).ret = s.ret := rfl
@[simp] theorem setJob_ctl (j : Nat) (v : SurveyJob) : (setJob j v s).ctl = s.ctl := rfl
@[simp] theorem setJob_ports (j : Nat) (v : SurveyJob) : (setJob j v s).ports = s.ports := rfl
@[simp] theorem setJob_primaryOut (j : Nat) (v : SurveyJob) : (setJob j v s).primaryOut = s.primaryOut := rfl
@[simp] theorem setJob_arriving (j : Nat) (v : SurveyJob) : (setJob j v s).arriving = s.arriving := rfl
@[simp] theorem setJob_pending (j : Nat) (v : SurveyJob) : (setJob j v s).pending = s.pending := rfl

@[simp] theorem setKey_clock (k : Nat) (v : Key) : (setKey k v s).clock = s.clock := rfl
@[simp] theorem setKey_plan (k : Nat) (v : Key) : (setKey k v s).plan = s.plan := rfl
@[simp] theorem setKey_engine (k : Nat) (v : Key) : (setKey k v s).engine = s.engine := rfl
@[simp] theorem setKey_survey (k : Nat) (v : Key) : (setKey k v s).survey = s.survey := rfl
@[simp] theorem setKey_dir (k : Nat) (v : Key) : (setKey k v s).dir = s.dir := rfl
@[simp] theorem setKey_retune (k : Nat) (v : Key) : (setKey k v s).retune = s.retune := rfl
@[simp] theorem setKey_tally (k : Nat) (v : Key) : (setKey k v s).tally = s.tally := rfl
@[simp] theorem setKey_talk (k : Nat) (v : Key) :
    (setKey k v s).talk = { s.talk with keys := put s.talk.keys k v } := rfl
@[simp] theorem setKey_ret (k : Nat) (v : Key) : (setKey k v s).ret = s.ret := rfl
@[simp] theorem setKey_ctl (k : Nat) (v : Key) : (setKey k v s).ctl = s.ctl := rfl
@[simp] theorem setKey_ports (k : Nat) (v : Key) : (setKey k v s).ports = s.ports := rfl
@[simp] theorem setKey_primaryOut (k : Nat) (v : Key) : (setKey k v s).primaryOut = s.primaryOut := rfl
@[simp] theorem setKey_arriving (k : Nat) (v : Key) : (setKey k v s).arriving = s.arriving := rfl
@[simp] theorem setKey_pending (k : Nat) (v : Key) : (setKey k v s).pending = s.pending := rfl

@[simp] theorem setArbiter_clock (l : Nat) (v : Arbiter) : (setArbiter l v s).clock = s.clock := rfl
@[simp] theorem setArbiter_plan (l : Nat) (v : Arbiter) : (setArbiter l v s).plan = s.plan := rfl
@[simp] theorem setArbiter_engine (l : Nat) (v : Arbiter) : (setArbiter l v s).engine = s.engine := rfl
@[simp] theorem setArbiter_survey (l : Nat) (v : Arbiter) : (setArbiter l v s).survey = s.survey := rfl
@[simp] theorem setArbiter_dir (l : Nat) (v : Arbiter) : (setArbiter l v s).dir = s.dir := rfl
@[simp] theorem setArbiter_retune (l : Nat) (v : Arbiter) : (setArbiter l v s).retune = s.retune := rfl
@[simp] theorem setArbiter_tally (l : Nat) (v : Arbiter) : (setArbiter l v s).tally = s.tally := rfl
@[simp] theorem setArbiter_talk (l : Nat) (v : Arbiter) :
    (setArbiter l v s).talk = { s.talk with arbiters := put s.talk.arbiters l v } := rfl
@[simp] theorem setArbiter_ret (l : Nat) (v : Arbiter) : (setArbiter l v s).ret = s.ret := rfl
@[simp] theorem setArbiter_ctl (l : Nat) (v : Arbiter) : (setArbiter l v s).ctl = s.ctl := rfl
@[simp] theorem setArbiter_ports (l : Nat) (v : Arbiter) : (setArbiter l v s).ports = s.ports := rfl
@[simp] theorem setArbiter_primaryOut (l : Nat) (v : Arbiter) : (setArbiter l v s).primaryOut = s.primaryOut := rfl
@[simp] theorem setArbiter_arriving (l : Nat) (v : Arbiter) : (setArbiter l v s).arriving = s.arriving := rfl
@[simp] theorem setArbiter_pending (l : Nat) (v : Arbiter) : (setArbiter l v s).pending = s.pending := rfl

@[simp] theorem placeOrder_clock (o : Nat) (i : MatrixInput) : (placeOrder o i s).clock = s.clock := rfl
@[simp] theorem placeOrder_plan (o : Nat) (i : MatrixInput) : (placeOrder o i s).plan = s.plan := rfl
@[simp] theorem placeOrder_engine (o : Nat) (i : MatrixInput) : (placeOrder o i s).engine = s.engine := rfl
@[simp] theorem placeOrder_survey (o : Nat) (i : MatrixInput) : (placeOrder o i s).survey = s.survey := rfl
@[simp] theorem placeOrder_dir (o : Nat) (i : MatrixInput) : (placeOrder o i s).dir = s.dir := rfl
@[simp] theorem placeOrder_retune (o : Nat) (i : MatrixInput) : (placeOrder o i s).retune = s.retune := rfl
@[simp] theorem placeOrder_tally (o : Nat) (i : MatrixInput) : (placeOrder o i s).tally = s.tally := rfl
@[simp] theorem placeOrder_talk (o : Nat) (i : MatrixInput) :
    (placeOrder o i s).talk = { s.talk with orders := put s.talk.orders o (some i) } := rfl
@[simp] theorem placeOrder_ret (o : Nat) (i : MatrixInput) : (placeOrder o i s).ret = s.ret := rfl
@[simp] theorem placeOrder_ctl (o : Nat) (i : MatrixInput) : (placeOrder o i s).ctl = s.ctl := rfl
@[simp] theorem placeOrder_ports (o : Nat) (i : MatrixInput) : (placeOrder o i s).ports = s.ports := rfl
@[simp] theorem placeOrder_primaryOut (o : Nat) (i : MatrixInput) : (placeOrder o i s).primaryOut = s.primaryOut := rfl
@[simp] theorem placeOrder_arriving (o : Nat) (i : MatrixInput) : (placeOrder o i s).arriving = s.arriving := rfl
@[simp] theorem placeOrder_pending (o : Nat) (i : MatrixInput) : (placeOrder o i s).pending = s.pending := rfl

@[simp] theorem darken_clock (l : Nat) : (darken l s).clock = s.clock := rfl
@[simp] theorem darken_plan (l : Nat) : (darken l s).plan = s.plan := rfl
@[simp] theorem darken_engine (l : Nat) : (darken l s).engine = s.engine := rfl
@[simp] theorem darken_survey (l : Nat) : (darken l s).survey = s.survey := rfl
@[simp] theorem darken_dir (l : Nat) : (darken l s).dir = s.dir := rfl
@[simp] theorem darken_retune (l : Nat) : (darken l s).retune = s.retune := rfl
@[simp] theorem darken_tally (l : Nat) :
    (darken l s).tally = { s.tally with cues := put s.tally.cues l .allOff } := rfl
@[simp] theorem darken_talk (l : Nat) : (darken l s).talk = s.talk := rfl
@[simp] theorem darken_ret (l : Nat) : (darken l s).ret = s.ret := rfl
@[simp] theorem darken_ctl (l : Nat) : (darken l s).ctl = s.ctl := rfl
@[simp] theorem darken_ports (l : Nat) : (darken l s).ports = s.ports := rfl
@[simp] theorem darken_primaryOut (l : Nat) : (darken l s).primaryOut = s.primaryOut := rfl
@[simp] theorem darken_arriving (l : Nat) : (darken l s).arriving = s.arriving := rfl
@[simp] theorem darken_pending (l : Nat) : (darken l s).pending = s.pending := rfl

@[simp] theorem discardPartial_clock : (discardPartial s).clock = s.clock := rfl
@[simp] theorem discardPartial_plan : (discardPartial s).plan = s.plan := rfl
@[simp] theorem discardPartial_engine : (discardPartial s).engine = s.engine := rfl
@[simp] theorem discardPartial_survey : (discardPartial s).survey = s.survey := rfl
@[simp] theorem discardPartial_dir : (discardPartial s).dir = s.dir := rfl
@[simp] theorem discardPartial_retune : (discardPartial s).retune = s.retune := rfl
@[simp] theorem discardPartial_tally : (discardPartial s).tally = s.tally := rfl
@[simp] theorem discardPartial_talk : (discardPartial s).talk = s.talk := rfl
@[simp] theorem discardPartial_ret : (discardPartial s).ret = s.ret := rfl
@[simp] theorem discardPartial_ctl :
    (discardPartial s).ctl = { s.ctl with servicePartial := none } := rfl
@[simp] theorem discardPartial_ports : (discardPartial s).ports = s.ports := rfl
@[simp] theorem discardPartial_primaryOut : (discardPartial s).primaryOut = s.primaryOut := rfl
@[simp] theorem discardPartial_arriving : (discardPartial s).arriving = s.arriving := rfl
@[simp] theorem discardPartial_pending : (discardPartial s).pending = s.pending := rfl

@[simp] theorem completeFrame_clock (p : Port) : (completeFrame p s).clock = s.clock := by cases p <;> rfl
@[simp] theorem completeFrame_plan (p : Port) : (completeFrame p s).plan = s.plan := by cases p <;> rfl
@[simp] theorem completeFrame_engine (p : Port) : (completeFrame p s).engine = s.engine := by cases p <;> rfl
@[simp] theorem completeFrame_survey (p : Port) : (completeFrame p s).survey = s.survey := by cases p <;> rfl
@[simp] theorem completeFrame_dir (p : Port) : (completeFrame p s).dir = s.dir := by cases p <;> rfl
@[simp] theorem completeFrame_retune (p : Port) : (completeFrame p s).retune = s.retune := by cases p <;> rfl
@[simp] theorem completeFrame_tally (p : Port) : (completeFrame p s).tally = s.tally := by cases p <;> rfl
@[simp] theorem completeFrame_talk (p : Port) : (completeFrame p s).talk = s.talk := by cases p <;> rfl
@[simp] theorem completeFrame_ret (p : Port) : (completeFrame p s).ret = s.ret := by cases p <;> rfl
@[simp] theorem completeFrame_ports (p : Port) : (completeFrame p s).ports = s.ports := by cases p <;> rfl
@[simp] theorem completeFrame_primaryOut (p : Port) : (completeFrame p s).primaryOut = s.primaryOut := by cases p <;> rfl
@[simp] theorem completeFrame_arriving (p : Port) : (completeFrame p s).arriving = s.arriving := by cases p <;> rfl
@[simp] theorem completeFrame_pending (p : Port) : (completeFrame p s).pending = s.pending := by cases p <;> rfl

@[simp] theorem completeFrame_ctl_owner (p : Port) : (completeFrame p s).ctl.owner = s.ctl.owner := by cases p <;> rfl
@[simp] theorem completeFrame_ctl_responseSlot (p : Port) : (completeFrame p s).ctl.responseSlot = s.ctl.responseSlot := by cases p <;> rfl
@[simp] theorem completeFrame_ctl_serviceSending (p : Port) : (completeFrame p s).ctl.serviceSending = s.ctl.serviceSending := by cases p <;> rfl
@[simp] theorem completeFrame_ctl_serviceWaiting (p : Port) : (completeFrame p s).ctl.serviceWaiting = s.ctl.serviceWaiting := by cases p <;> rfl
@[simp] theorem completeFrame_ctl_causes (p : Port) : (completeFrame p s).ctl.causes = s.ctl.causes := by cases p <;> rfl
@[simp] theorem completeFrame_ctl_unmasked (p : Port) : (completeFrame p s).ctl.unmasked = s.ctl.unmasked := by cases p <;> rfl
@[simp] theorem completeFrame_ctl_faults (p : Port) : (completeFrame p s).ctl.faults = s.ctl.faults := by cases p <;> rfl
@[simp] theorem completeFrame_ctl_changed (p : Port) : (completeFrame p s).ctl.changed = s.ctl.changed := by cases p <;> rfl

@[simp] theorem respond_clock (p : Port) (r : Response) : (respond p r s).clock = s.clock := by 
  cases p
  · rfl
  · simp only [respond]; split <;> rfl
@[simp] theorem respond_plan (p : Port) (r : Response) : (respond p r s).plan = s.plan := by 
  cases p
  · rfl
  · simp only [respond]; split <;> rfl
@[simp] theorem respond_engine (p : Port) (r : Response) : (respond p r s).engine = s.engine := by 
  cases p
  · rfl
  · simp only [respond]; split <;> rfl
@[simp] theorem respond_survey (p : Port) (r : Response) : (respond p r s).survey = s.survey := by 
  cases p
  · rfl
  · simp only [respond]; split <;> rfl
@[simp] theorem respond_dir (p : Port) (r : Response) : (respond p r s).dir = s.dir := by 
  cases p
  · rfl
  · simp only [respond]; split <;> rfl
@[simp] theorem respond_retune (p : Port) (r : Response) : (respond p r s).retune = s.retune := by 
  cases p
  · rfl
  · simp only [respond]; split <;> rfl
@[simp] theorem respond_tally (p : Port) (r : Response) : (respond p r s).tally = s.tally := by 
  cases p
  · rfl
  · simp only [respond]; split <;> rfl
@[simp] theorem respond_talk (p : Port) (r : Response) : (respond p r s).talk = s.talk := by 
  cases p
  · rfl
  · simp only [respond]; split <;> rfl
@[simp] theorem respond_ret (p : Port) (r : Response) : (respond p r s).ret = s.ret := by 
  cases p
  · rfl
  · simp only [respond]; split <;> rfl
@[simp] theorem respond_ports (p : Port) (r : Response) : (respond p r s).ports = s.ports := by 
  cases p
  · rfl
  · simp only [respond]; split <;> rfl
@[simp] theorem respond_primaryOut (p : Port) (r : Response) : (respond p r s).primaryOut = s.primaryOut := by 
  cases p
  · rfl
  · simp only [respond]; split <;> rfl
@[simp] theorem respond_arriving (p : Port) (r : Response) : (respond p r s).arriving = s.arriving := by 
  cases p
  · rfl
  · simp only [respond]; split <;> rfl
@[simp] theorem respond_pending (p : Port) (r : Response) : (respond p r s).pending = s.pending := by 
  cases p
  · rfl
  · simp only [respond]; split <;> rfl

@[simp] theorem respond_ctl_owner (p : Port) (r : Response) : (respond p r s).ctl.owner = s.ctl.owner := by
  cases p
  · rfl
  · simp only [respond]; split <;> rfl
@[simp] theorem respond_ctl_servicePartial (p : Port) (r : Response) : (respond p r s).ctl.servicePartial = s.ctl.servicePartial := by
  cases p
  · rfl
  · simp only [respond]; split <;> rfl
@[simp] theorem respond_ctl_causes (p : Port) (r : Response) : (respond p r s).ctl.causes = s.ctl.causes := by
  cases p
  · rfl
  · simp only [respond]; split <;> rfl
@[simp] theorem respond_ctl_unmasked (p : Port) (r : Response) : (respond p r s).ctl.unmasked = s.ctl.unmasked := by
  cases p
  · rfl
  · simp only [respond]; split <;> rfl
@[simp] theorem respond_ctl_faults (p : Port) (r : Response) : (respond p r s).ctl.faults = s.ctl.faults := by
  cases p
  · rfl
  · simp only [respond]; split <;> rfl
@[simp] theorem respond_ctl_changed (p : Port) (r : Response) : (respond p r s).ctl.changed = s.ctl.changed := by
  cases p
  · rfl
  · simp only [respond]; split <;> rfl

@[simp] theorem setPortPartial_clock (line : InPort) (v : Option Partial) : (setPortPartial line v s).clock = s.clock := by cases line <;> rfl
@[simp] theorem setPortPartial_plan (line : InPort) (v : Option Partial) : (setPortPartial line v s).plan = s.plan := by cases line <;> rfl
@[simp] theorem setPortPartial_engine (line : InPort) (v : Option Partial) : (setPortPartial line v s).engine = s.engine := by cases line <;> rfl
@[simp] theorem setPortPartial_survey (line : InPort) (v : Option Partial) : (setPortPartial line v s).survey = s.survey := by cases line <;> rfl
@[simp] theorem setPortPartial_dir (line : InPort) (v : Option Partial) : (setPortPartial line v s).dir = s.dir := by cases line <;> rfl
@[simp] theorem setPortPartial_retune (line : InPort) (v : Option Partial) : (setPortPartial line v s).retune = s.retune := by cases line <;> rfl
@[simp] theorem setPortPartial_tally (line : InPort) (v : Option Partial) : (setPortPartial line v s).tally = s.tally := by cases line <;> rfl
@[simp] theorem setPortPartial_talk (line : InPort) (v : Option Partial) : (setPortPartial line v s).talk = s.talk := by cases line <;> rfl
@[simp] theorem setPortPartial_ret (line : InPort) (v : Option Partial) : (setPortPartial line v s).ret = s.ret := by cases line <;> rfl
@[simp] theorem setPortPartial_ctl (line : InPort) (v : Option Partial) : (setPortPartial line v s).ctl = s.ctl := by cases line <;> rfl
@[simp] theorem setPortPartial_primaryOut (line : InPort) (v : Option Partial) : (setPortPartial line v s).primaryOut = s.primaryOut := by cases line <;> rfl
@[simp] theorem setPortPartial_arriving (line : InPort) (v : Option Partial) : (setPortPartial line v s).arriving = s.arriving := by cases line <;> rfl
@[simp] theorem setPortPartial_pending (line : InPort) (v : Option Partial) : (setPortPartial line v s).pending = s.pending := by cases line <;> rfl

@[simp] theorem completeMessage_clock (line : InPort) : (completeMessage line s).clock = s.clock := by cases line <;> rfl
@[simp] theorem completeMessage_plan (line : InPort) : (completeMessage line s).plan = s.plan := by cases line <;> rfl
@[simp] theorem completeMessage_engine (line : InPort) : (completeMessage line s).engine = s.engine := by cases line <;> rfl
@[simp] theorem completeMessage_survey (line : InPort) : (completeMessage line s).survey = s.survey := by cases line <;> rfl
@[simp] theorem completeMessage_dir (line : InPort) : (completeMessage line s).dir = s.dir := by cases line <;> rfl
@[simp] theorem completeMessage_retune (line : InPort) : (completeMessage line s).retune = s.retune := by cases line <;> rfl
@[simp] theorem completeMessage_tally (line : InPort) : (completeMessage line s).tally = s.tally := by cases line <;> rfl
@[simp] theorem completeMessage_talk (line : InPort) : (completeMessage line s).talk = s.talk := by cases line <;> rfl
@[simp] theorem completeMessage_ret (line : InPort) : (completeMessage line s).ret = s.ret := by cases line <;> rfl
@[simp] theorem completeMessage_ctl (line : InPort) : (completeMessage line s).ctl = s.ctl := by cases line <;> rfl
@[simp] theorem completeMessage_primaryOut (line : InPort) : (completeMessage line s).primaryOut = s.primaryOut := by cases line <;> rfl
@[simp] theorem completeMessage_arriving (line : InPort) : (completeMessage line s).arriving = s.arriving := by cases line <;> rfl
@[simp] theorem completeMessage_pending (line : InPort) : (completeMessage line s).pending = s.pending := by cases line <;> rfl

@[simp] theorem framingFault_clock (line : SerialLine) : (framingFault line s).clock = s.clock := by rfl
@[simp] theorem framingFault_plan (line : SerialLine) : (framingFault line s).plan = s.plan := by rfl
@[simp] theorem framingFault_engine (line : SerialLine) : (framingFault line s).engine = s.engine := by rfl
@[simp] theorem framingFault_survey (line : SerialLine) : (framingFault line s).survey = s.survey := by rfl
@[simp] theorem framingFault_dir (line : SerialLine) : (framingFault line s).dir = s.dir := by rfl
@[simp] theorem framingFault_retune (line : SerialLine) : (framingFault line s).retune = s.retune := by rfl
@[simp] theorem framingFault_tally (line : SerialLine) : (framingFault line s).tally = s.tally := by rfl
@[simp] theorem framingFault_talk (line : SerialLine) : (framingFault line s).talk = s.talk := by rfl
@[simp] theorem framingFault_ret (line : SerialLine) : (framingFault line s).ret = s.ret := by rfl
@[simp] theorem framingFault_ports (line : SerialLine) : (framingFault line s).ports = s.ports := by rfl
@[simp] theorem framingFault_primaryOut (line : SerialLine) : (framingFault line s).primaryOut = s.primaryOut := by rfl
@[simp] theorem framingFault_arriving (line : SerialLine) : (framingFault line s).arriving = s.arriving := by rfl
@[simp] theorem framingFault_pending (line : SerialLine) : (framingFault line s).pending = s.pending := by rfl

@[simp] theorem parityFault_clock (line : SerialLine) : (parityFault line s).clock = s.clock := by rfl
@[simp] theorem parityFault_plan (line : SerialLine) : (parityFault line s).plan = s.plan := by rfl
@[simp] theorem parityFault_engine (line : SerialLine) : (parityFault line s).engine = s.engine := by rfl
@[simp] theorem parityFault_survey (line : SerialLine) : (parityFault line s).survey = s.survey := by rfl
@[simp] theorem parityFault_dir (line : SerialLine) : (parityFault line s).dir = s.dir := by rfl
@[simp] theorem parityFault_retune (line : SerialLine) : (parityFault line s).retune = s.retune := by rfl
@[simp] theorem parityFault_tally (line : SerialLine) : (parityFault line s).tally = s.tally := by rfl
@[simp] theorem parityFault_talk (line : SerialLine) : (parityFault line s).talk = s.talk := by rfl
@[simp] theorem parityFault_ret (line : SerialLine) : (parityFault line s).ret = s.ret := by rfl
@[simp] theorem parityFault_ports (line : SerialLine) : (parityFault line s).ports = s.ports := by rfl
@[simp] theorem parityFault_primaryOut (line : SerialLine) : (parityFault line s).primaryOut = s.primaryOut := by rfl
@[simp] theorem parityFault_arriving (line : SerialLine) : (parityFault line s).arriving = s.arriving := by rfl
@[simp] theorem parityFault_pending (line : SerialLine) : (parityFault line s).pending = s.pending := by rfl

@[simp] theorem discardMalformed_clock (line : InPort) : (discardMalformed line s).clock = s.clock := by cases line <;> rfl
@[simp] theorem discardMalformed_plan (line : InPort) : (discardMalformed line s).plan = s.plan := by cases line <;> rfl
@[simp] theorem discardMalformed_engine (line : InPort) : (discardMalformed line s).engine = s.engine := by cases line <;> rfl
@[simp] theorem discardMalformed_survey (line : InPort) : (discardMalformed line s).survey = s.survey := by cases line <;> rfl
@[simp] theorem discardMalformed_dir (line : InPort) : (discardMalformed line s).dir = s.dir := by cases line <;> rfl
@[simp] theorem discardMalformed_retune (line : InPort) : (discardMalformed line s).retune = s.retune := by cases line <;> rfl
@[simp] theorem discardMalformed_tally (line : InPort) : (discardMalformed line s).tally = s.tally := by cases line <;> rfl
@[simp] theorem discardMalformed_talk (line : InPort) : (discardMalformed line s).talk = s.talk := by cases line <;> rfl
@[simp] theorem discardMalformed_ret (line : InPort) : (discardMalformed line s).ret = s.ret := by cases line <;> rfl
@[simp] theorem discardMalformed_primaryOut (line : InPort) : (discardMalformed line s).primaryOut = s.primaryOut := by cases line <;> rfl
@[simp] theorem discardMalformed_arriving (line : InPort) : (discardMalformed line s).arriving = s.arriving := by cases line <;> rfl
@[simp] theorem discardMalformed_pending (line : InPort) : (discardMalformed line s).pending = s.pending := by cases line <;> rfl

end Sys2Proof.Machine
end

