-- ==== Sys2Proof/Laws/Ops.lean ====
section
/-! SUPPORT. What the shared operations do: tables, sets of indices, causes, requests and their responses, link
entries and plan records. -/

namespace Sys2Proof.Machine

/-! ## Tables -/

section Tables
variable {α : Type} [Inhabited α] {n : Nat}

theorem look_eq (t : Vector α n) (i : Nat) : look t i = t[i]?.getD default := rfl

@[simp] theorem look_replicate (x : α) (i : Nat) :
    look (Vector.replicate n x) i = if i < n then x else default := by
  unfold look
  by_cases h : i < n <;> simp [h]

theorem look_put (t : Vector α n) (i j : Nat) (x : α) :
    look (put t i x) j = if i = j ∧ i < n then x else look t j := by
  unfold look put
  rw [Vector.getElem?_setIfInBounds]
  by_cases h : i = j
  · subst h
    by_cases hi : i < n <;> simp [hi]
  · simp [h]

@[simp] theorem look_put_self (t : Vector α n) (i : Nat) (x : α) (h : i < n) : look (put t i x) i = x := by
  simp [look_put, h]

@[simp] theorem look_put_ne (t : Vector α n) (i j : Nat) (x : α) (h : j ≠ i) : look (put t i x) j = look t j := by
  simp [look_put, Ne.symm h]

theorem look_out (t : Vector α n) (i : Nat) (h : n ≤ i) : look t i = default := by
  unfold look
  simp [h]

/-- A record other than the one an unlisted index reads as stands inside the table. -/
theorem lt_of_look_ne (t : Vector α n) (i : Nat) (h : look t i ≠ default) : i < n := by
  by_contra hn
  exact h (look_out t i (by omega))

omit [Inhabited α] in
@[simp] theorem put_put (t : Vector α n) (i : Nat) (x y : α) : put (put t i x) i y = put t i y := by
  unfold put
  ext k hk
  simp only [Vector.getElem_setIfInBounds]
  split <;> rfl

@[simp] theorem look_rewrite (f : Nat → α → α) (t : Vector α n) (i : Nat) :
    look (rewrite f t) i = if i < n then f i (look t i) else default := by
  unfold look rewrite
  by_cases h : i < n <;> simp [h]

theorem mem_indicesWhere (t : Vector α n) (test : α → Bool) (i : Nat) :
    i ∈ indicesWhere t test ↔ i < n ∧ test (look t i) = true := by
  simp [indicesWhere]

theorem indicesWhere_sorted (t : Vector α n) (test : α → Bool) : (indicesWhere t test).Pairwise (· < ·) :=
  List.Pairwise.filter _ List.pairwise_lt_range

end Tables

/-! ## Sets of indices -/

@[simp] theorem mem_setAdd (a n : Nat) (l : List Nat) : a ∈ setAdd n l ↔ a = n ∨ a ∈ l := by
  induction l with
  | nil => simp [setAdd]
  | cons m ms ih =>
    unfold setAdd
    split
    · simp
    · split
      · next h => subst h; simp
      · simp [ih]; tauto

theorem setAdd_sorted (n : Nat) (l : List Nat) (h : l.Pairwise (· < ·)) : (setAdd n l).Pairwise (· < ·) := by
  induction l with
  | nil => simp [setAdd]
  | cons m ms ih =>
    rw [List.pairwise_cons] at h
    unfold setAdd
    split
    · next hlt =>
      refine List.pairwise_cons.2 ⟨?_, List.pairwise_cons.2 h⟩
      intro a ha
      rcases List.mem_cons.1 ha with rfl | ha
      · exact hlt
      · exact lt_trans hlt (h.1 a ha)
    · split
      · exact List.pairwise_cons.2 h
      · refine List.pairwise_cons.2 ⟨?_, ih h.2⟩
        intro a ha
        rcases (mem_setAdd a n ms).1 ha with rfl | ha
        · omega
        · exact h.1 a ha

@[simp] theorem setAdd_setAdd (n : Nat) (l : List Nat) : setAdd n (setAdd n l) = setAdd n l := by
  induction l with
  | nil => simp [setAdd]
  | cons m ms ih =>
    by_cases h1 : n < m
    · simp [setAdd, h1]
    · by_cases h2 : n = m
      · simp [setAdd, h2]
      · simp [setAdd, h1, h2, ih]

@[simp] theorem mem_setRemove (a n : Nat) (l : List Nat) : a ∈ setRemove n l ↔ a ∈ l ∧ a ≠ n := by
  simp [setRemove]

theorem setRemove_sorted (n : Nat) (l : List Nat) (h : l.Pairwise (· < ·)) : (setRemove n l).Pairwise (· < ·) :=
  h.filter _

/-- Cyclic order as the rules speak of it: `x` comes no later than `y` after `last` (00_scope.md, Conventions). -/
def comesFirst (last : Option Nat) (x y : Nat) : Prop :=
  match last with
  | none => x ≤ y
  | some g => (g < x ∧ (y ≤ g ∨ x ≤ y)) ∨ (x ≤ g ∧ y ≤ g ∧ x ≤ y)

theorem head_of_least (l : List Nat) (x : Nat) (hs : l.Pairwise (· < ·)) (hx : x ∈ l) (h : ∀ y ∈ l, x ≤ y) :
    l.head? = some x := by
  cases l with
  | nil => simp at hx
  | cons a as =>
    rw [List.pairwise_cons] at hs
    rcases List.mem_cons.1 hx with rfl | hx
    · rfl
    · have h1 := hs.1 x hx
      have h2 := h a (by simp)
      omega

/-- What cyclicNext chooses of a set in ascending order. -/
theorem cyclicNext_eq_some (last : Option Nat) (l : List Nat) (x : Nat) (hs : l.Pairwise (· < ·)) (hx : x ∈ l)
    (h : ∀ y ∈ l, comesFirst last x y) : cyclicNext last l = some x := by
  cases last with
  | none => exact head_of_least l x hs hx h
  | some g =>
    simp only [cyclicNext]
    simp only [comesFirst] at h
    by_cases hg : g < x
    · have hfind : l.find? (g < ·) = some x := by
        rw [← List.head?_filter]
        apply head_of_least _ _ (hs.filter _) (by simp [hx, hg])
        intro y hy
        have hy' := List.mem_filter.1 hy
        have := h y hy'.1
        have := hy'.2
        simp at this
        omega
      rw [hfind]; rfl
    · have hnone : l.find? (g < ·) = none := by
        rw [List.find?_eq_none]
        intro y hy
        have := h y hy
        simp
        omega
      rw [hnone]
      apply head_of_least l x hs hx
      intro y hy
      have := h y hy
      omega

@[simp] theorem cyclicNext_nil (last : Option Nat) : cyclicNext last [] = none := by
  cases last <;> rfl

/-! ## Causes -/

@[simp] theorem causeIsSet_raise_self (c : Cause) (s : State) : causeIsSet c (raise c s) = true := by
  cases c <;> simp [causeIsSet, causeOnly, causeBit]

theorem causeIsSet_raise (c d : Cause) (s : State) : causeIsSet c (raise d s) = (causeIsSet c s || (c == d)) := by
  cases c <;> cases d <;> simp [causeIsSet, causeOnly, causeBit]

/-! ## Requests -/

/-- What taking a request can do, once for all: refused for want of authority, refused by its rule, or accepted. -/
theorem takeRequest_cases (p : Port) (c : RequestCode) (rule : State → Verdict) (s : State) :
    (authorised p c (completeFrame p s) = false ∧
      takeRequest p c rule s = respond p ⟨c.number, .notAuthority, []⟩ (completeFrame p s)) ∨
    (∃ st, authorised p c (completeFrame p s) = true ∧ rule (completeFrame p s) = .refuse st ∧
      takeRequest p c rule s = respond p ⟨c.number, st, []⟩ (completeFrame p s)) ∨
    (∃ items t, authorised p c (completeFrame p s) = true ∧ rule (completeFrame p s) = .accept items t ∧
      takeRequest p c rule s = respond p ⟨c.number, .ok, items⟩ t) := by
  unfold takeRequest
  cases ha : authorised p c (completeFrame p s)
  · simp [ha]
  · cases hr : rule (completeFrame p s) <;> simp [ha, hr]

theorem takeRequest_accept {p : Port} {c : RequestCode} {rule : State → Verdict} {s t : State} {items : List Item}
    (ha : authorised p c (completeFrame p s) = true) (hr : rule (completeFrame p s) = .accept items t) :
    takeRequest p c rule s = respond p ⟨c.number, .ok, items⟩ t := by
  simp [takeRequest, ha, hr]

theorem takeRequest_refuse {p : Port} {c : RequestCode} {rule : State → Verdict} {s : State} {st : Status}
    (ha : authorised p c (completeFrame p s) = true) (hr : rule (completeFrame p s) = .refuse st) :
    takeRequest p c rule s = respond p ⟨c.number, st, []⟩ (completeFrame p s) := by
  simp [takeRequest, ha, hr]

theorem authorised_read {p : Port} {c : RequestCode} (s : State) (h : mutating c = false) : authorised p c s = true := by
  simp [authorised, h]

/-! ## Link entries and plan records through an update -/

section Entries
variable (s : State)

theorem entry_setEntry (l j : Nat) (e : LinkEntry) :
    entry (setEntry l e s) j = if l = j ∧ l < 64 then e else entry s j := by
  simp [entry, setEntry, look_put]

@[simp] theorem entry_setRecord (i j : Nat) (r : PlanRecord) : entry (setRecord i r s) j = entry s j := rfl
@[simp] theorem entry_markChanged (l j : Nat) : entry (markChanged l s) j = entry s j := rfl
@[simp] theorem entry_markStale (j : Nat) : entry (markStale s) j = entry s j := rfl
@[simp] theorem entry_raise (c : Cause) (j : Nat) : entry (raise c s) j = entry s j := rfl
@[simp] theorem entry_completeFrame (p : Port) (j : Nat) : entry (completeFrame p s) j = entry s j := by
  cases p <;> rfl
@[simp] theorem entry_respond (p : Port) (r : Response) (j : Nat) : entry (respond p r s) j = entry s j := by
  simp [entry]
@[simp] theorem entry_completeMessage (line : InPort) (j : Nat) : entry (completeMessage line s) j = entry s j := by
  simp [entry]

@[simp] theorem planRecord_setEntry (l j : Nat) (e : LinkEntry) : planRecord (setEntry l e s) j = planRecord s j := rfl
@[simp] theorem planRecord_markChanged (l j : Nat) : planRecord (markChanged l s) j = planRecord s j := rfl
@[simp] theorem planRecord_markStale (j : Nat) : planRecord (markStale s) j = planRecord s j := rfl
@[simp] theorem planRecord_raise (c : Cause) (j : Nat) : planRecord (raise c s) j = planRecord s j := rfl
@[simp] theorem planRecord_completeFrame (p : Port) (j : Nat) : planRecord (completeFrame p s) j = planRecord s j := by
  cases p <;> rfl
@[simp] theorem planRecord_respond (p : Port) (r : Response) (j : Nat) :
    planRecord (respond p r s) j = planRecord s j := by
  simp [planRecord]
@[simp] theorem planRecord_completeMessage (line : InPort) (j : Nat) :
    planRecord (completeMessage line s) j = planRecord s j := by
  simp [planRecord]

theorem planRecord_setRecord (i j : Nat) (r : PlanRecord) :
    planRecord (setRecord i r s) j = if i = j ∧ i < 96 then r else planRecord s j := by
  simp [planRecord, setRecord, look_put]

/-- An ENROLLED entry has an index of the table. -/
theorem enrolled_lt {l : Nat} {e : EnrolledLink} (h : entry s l = .enrolled e) : l < 64 := by
  apply lt_of_look_ne s.dir.entries l
  intro hd
  rw [entry, hd] at h
  cases h

theorem updateLink_enrolled {l : Nat} {e : EnrolledLink} (f : EnrolledLink → EnrolledLink)
    (h : entry s l = .enrolled e) : updateLink l f s = setEntry l (.enrolled (f e)) s := by
  simp [updateLink, h]

theorem entryIdent_lt {l x : Nat} (h : entryIdent (entry s l) = some x) : l < 64 := by
  apply lt_of_look_ne s.dir.entries l
  intro hd
  rw [entry, hd] at h
  cases h

/-- The lookup of a HEARD report finds an entry that holds the ID (R65, R66). -/
theorem probe_some {i x : Nat} (h : probe s x = some i) : entryIdent (entry s i) = some x := by
  have := List.find?_some h
  simpa using this

/-- The lookup finds none exactly when no entry holds the ID. -/
theorem probe_none {x : Nat} : probe s x = none ↔ ∀ i, entryIdent (entry s i) ≠ some x := by
  unfold probe
  rw [List.find?_eq_none]
  constructor
  · intro h i hi
    exact h i (List.mem_range.2 (entryIdent_lt s hi)) (by simp [hi])
  · intro h i _
    simpa using h i

theorem heldElsewhere_iff (i x : Nat) :
    heldElsewhere s i x = true ↔ ∃ j, j ≠ i ∧ entryIdent (entry s j) = some x := by
  unfold heldElsewhere
  rw [List.any_eq_true]
  constructor
  · rintro ⟨j, -, h⟩
    simp at h
    exact ⟨j, h.1, h.2⟩
  · rintro ⟨j, hj, h⟩
    exact ⟨j, List.mem_range.2 (entryIdent_lt s h), by simp [hj, h]⟩

/-! ## Slots, keys and arbiters through an update -/

theorem slotAt_setSlot (k j : Nat) (v : Slot) :
    slotAt (setSlot k v s) j = if k = j ∧ k < 4 then v else slotAt s j := look_put _ _ _ _

theorem keyAt_setKey (k j : Nat) (v : Key) : keyAt (setKey k v s) j = if k = j ∧ k < 32 then v else keyAt s j :=
  look_put _ _ _ _

theorem arbiterAt_setArbiter (l j : Nat) (v : Arbiter) :
    arbiterAt (setArbiter l v s) j = if l = j ∧ l < 64 then v else arbiterAt s j := look_put _ _ _ _

@[simp] theorem keyAt_setArbiter (l j : Nat) (v : Arbiter) : keyAt (setArbiter l v s) j = keyAt s j := rfl
@[simp] theorem arbiterAt_setKey (k j : Nat) (v : Key) : arbiterAt (setKey k v s) j = arbiterAt s j := rfl
@[simp] theorem keyAt_placeOrder (o j : Nat) (i : MatrixInput) : keyAt (placeOrder o i s) j = keyAt s j := rfl
@[simp] theorem arbiterAt_placeOrder (o j : Nat) (i : MatrixInput) :
    arbiterAt (placeOrder o i s) j = arbiterAt s j := rfl

end Entries

end Sys2Proof.Machine
end

