-- ==== Sys2Proof/Laws/EngineQueue.lean ====
section
/-! SUPPORT. What the operations on the engine queue do: how much work they leave, what they keep, and that a started
engine runs a request or has none waiting. -/

namespace Sys2Proof.Machine

variable (s : State)

/-! ## What the entries' updates keep -/

@[simp] theorem updateLink_engine (l : Nat) (f : EnrolledLink → EnrolledLink) :
    (updateLink l f s).engine = s.engine := by
  unfold updateLink; split <;> rfl

@[simp] theorem updateLink_retune (l : Nat) (f : EnrolledLink → EnrolledLink) :
    (updateLink l f s).retune = s.retune := by
  unfold updateLink; split <;> rfl

/-- An update of a link's entry touches the directory alone. -/
theorem updateLink_frame (l : Nat) (f : EnrolledLink → EnrolledLink) :
    updateLink l f s = { s with dir := (updateLink l f s).dir } := by
  unfold updateLink; split <;> rfl

@[simp] theorem setPlace_engine (p : SearchPlace) (l : Nat) : (setPlace p l s).engine = s.engine := by simp [setPlace]

@[simp] theorem setPlace_retune (p : SearchPlace) (l : Nat) : (setPlace p l s).retune = s.retune := by simp [setPlace]

/-! ## The requests and searches still to come -/

/-- The requests that wait in the engine and the searches that wait for it. -/
def waitingWork (s : State) : Nat := s.engine.queue.length + s.retune.waitList.length

/-- Serving the seek wait list moves at most one search into the queue, and starts nothing. -/
theorem serveWaitList_work : waitingWork (serveWaitList s) ≤ waitingWork s ∧
    (serveWaitList s).engine.running = s.engine.running := by
  unfold serveWaitList
  split
  · exact ⟨le_refl _, rfl⟩
  · next l rest h =>
    split
    · unfold queueSearch
      split
      · simp [waitingWork, enqueue, h]; omega
      · simp [waitingWork, h]
    · exact ⟨le_refl _, rfl⟩

/-- A search that found nothing leaves the queue as it is and the seek wait list no longer. -/
theorem applySearchResult_none_work (l : Nat) (tried : Nat) (w : Option Conflict) :
    waitingWork (applySearchResult l ⟨none, tried, w, false⟩ s) ≤ waitingWork s ∧
      (applySearchResult l ⟨none, tried, w, false⟩ s).engine = s.engine := by
  unfold applySearchResult
  split
  · split
    · simp only [Bool.false_eq_true, ↓reduceIte]
      refine ⟨?_, by simp [endRetune]⟩
      simp only [waitingWork, endRetune, raise_engine, markChanged_engine, updateLink_engine, raise_retune,
        markChanged_retune]
      have := List.length_filter_le (· != l) s.retune.waitList
      simp only [updateLink_retune, setRemove]
      omega
    · exact ⟨le_refl _, rfl⟩
  · exact ⟨le_refl _, rfl⟩

/-- The result NONE of a search that tries no candidate: nothing runs afterwards, and no more work waits. -/
theorem deliverNone_work (r : EngineRequest) :
    (deliverResult r (.find ⟨none, 0, none, false⟩) s).engine.running = none ∧
      waitingWork (deliverResult r (.find ⟨none, 0, none, false⟩) s) ≤ waitingWork s := by
  unfold deliverResult
  rcases r with ⟨_ | l, job⟩
  · simp [setSlot, waitingWork]
  · obtain ⟨hw, hr⟩ := serveWaitList_work
      (applySearchResult l ⟨none, 0, none, false⟩ { s with engine.running := none })
    obtain ⟨ha, he⟩ := applySearchResult_none_work { s with engine.running := none } l 0 none
    exact ⟨by simp [hr, he], le_trans hw (le_trans ha (le_refl _))⟩

/-! ## The start of the head -/

@[simp] theorem startHeads_running {n : Nat} {r : Running} (h : s.engine.running = some r) : startHeads n s = s := by
  cases n <;> simp [startHeads, h]

@[simp] theorem startHeads_empty {n : Nat} (h : s.engine.queue = []) : startHeads n s = s := by
  cases n <;> simp [startHeads, h]

theorem beginRequest_work (r : EngineRequest) (rest : List EngineRequest) :
    (beginRequest r rest s).engine.running = some ⟨r, 0, false⟩ ∧
      waitingWork (beginRequest r rest s) = rest.length + s.retune.waitList.length := by
  unfold beginRequest
  rcases r with ⟨_ | _, _⟩ <;> exact ⟨rfl, rfl⟩

/-- Enough starts for the work that waits leave the engine running, or with nothing waiting. -/
theorem startHeads_settled (n : Nat) (h : waitingWork s ≤ n) :
    (startHeads n s).engine.running ≠ none ∨ (startHeads n s).engine.queue = [] := by
  induction n generalizing s with
  | zero =>
    refine .inr (List.length_eq_zero_iff.1 ?_)
    simp only [waitingWork] at h
    simp only [startHeads]
    omega
  | succ n ih =>
    unfold startHeads
    split
    · next r rest hr hq =>
      obtain ⟨hb, hw⟩ := beginRequest_work s r rest
      simp only
      split
      · refine ih _ (le_trans (deliverNone_work _ r).2 ?_)
        simp only [waitingWork, hq, List.length_cons] at h hw ⊢
        omega
      · exact .inl (by simp [hb])
    · next hn =>
      rcases hr : s.engine.running with _ | q
      · rcases hq : s.engine.queue with _ | ⟨r, rest⟩
        · exact .inr rfl
        · exact absurd hq (hn r rest hr)
      · exact .inl (by simp)

/-- After the start a request runs, or none waits (R27). -/
theorem startHead_settled : (startHead s).engine.running ≠ none ∨ (startHead s).engine.queue = [] :=
  startHeads_settled s _ (le_refl _)

/-- More starts than the work that waits change nothing. -/
theorem startHeads_enough (n : Nat) (h : waitingWork s ≤ n) : startHeads n s = startHead s := by
  suffices H : ∀ k m (u : State), waitingWork u ≤ k → waitingWork u ≤ m → startHeads k u = startHeads m u from
    H n _ s h (le_refl _)
  intro k
  induction k with
  | zero =>
    intro m u hk _
    have : u.engine.queue = [] := List.length_eq_zero_iff.1 (by simp only [waitingWork] at hk; omega)
    simp [this]
  | succ k ih =>
    intro m u hk hm
    rcases hr : u.engine.running with _ | q
    · rcases hq : u.engine.queue with _ | ⟨r, rest⟩
      · simp [hq]
      · cases m with
        | zero => simp [waitingWork, hq] at hm
        | succ m =>
          obtain ⟨_, hw⟩ := beginRequest_work u r rest
          have hd := (deliverNone_work (beginRequest r rest u) r).2
          simp only [startHeads, hr, hq]
          split
          · apply ih <;> (simp only [waitingWork, hq, List.length_cons] at hk hm hw hd ⊢; omega)
          · rfl
    · simp [hr]

@[simp] theorem startHead_running {r : Running} (h : s.engine.running = some r) : startHead s = s := by
  simp [startHead, h]

@[simp] theorem startHead_empty (h : s.engine.queue = []) : startHead s = s := by
  simp [startHead, h]

/-- The start of a head that tries a candidate: it becomes the running request (R27). -/
theorem startHead_tries {r : EngineRequest} {rest : List EngineRequest} (hr : s.engine.running = none)
    (hq : s.engine.queue = r :: rest) (ht : triesNone r.job = false) : startHead s = beginRequest r rest s := by
  simp [startHead, hq, startHeads, hr, ht, Nat.add_right_comm]

/-- The start of a search that tries none: its result NONE is delivered, and the engine starts what then stands at the
head (R29, R43). -/
theorem startHead_triesNone {r : EngineRequest} {rest : List EngineRequest} (hr : s.engine.running = none)
    (hq : s.engine.queue = r :: rest) (ht : triesNone r.job = true) :
    startHead s = startHead (deliverResult r (.find ⟨none, 0, none, false⟩) (beginRequest r rest s)) := by
  obtain ⟨_, hw⟩ := beginRequest_work s r rest
  have h := (deliverNone_work (beginRequest r rest s) r).2
  rw [← startHeads_enough (deliverResult r _ (beginRequest r rest s)) _ (hw ▸ h)]
  simp [startHead, hq, startHeads, hr, ht, Nat.add_right_comm]

end Sys2Proof.Machine
end

