-- ==== Sys2Proof/Laws/Formats.lean ====
section
/-! SUPPORT. How long the bytes of a response are, and what a transaction of the primary control port is taken as
(R173, R186 to R188). -/

namespace Sys2Proof.Machine

/-! ## Lengths -/

@[simp] theorem bytes1_length (n : Nat) : (bytes1 n).length = 1 := rfl
@[simp] theorem bytes2_length (n : Nat) : (bytes2 n).length = 2 := rfl
@[simp] theorem bytes3_length (n : Nat) : (bytes3 n).length = 3 := rfl
@[simp] theorem bytes4_length (n : Nat) : (bytes4 n).length = 4 := rfl

/-- A field takes at most four bytes (R186). -/
theorem Field.bytes_length (f : Field) : f.bytes.length ≤ 4 := by
  cases f <;> try simp [Field.bytes]
  next b => cases b <;> simp

/-- A record's presence bytes are one, or at most one for each optional field (R188, log entry 7). -/
theorem presenceBytes_length (present : List Bool) : (presenceBytes present).length ≤ max 1 present.length := by
  unfold presenceBytes
  split
  · simp
  · exact (List.length_take_le _ _).trans (le_max_right _ _)

/-- The bytes written for the members of a list, at most `n` for each. -/
theorem flatMap_length_le {α : Type} (f : α → List Byte) (n : Nat) :
    ∀ l : List α, (∀ a ∈ l, (f a).length ≤ n) → (l.flatMap f).length ≤ n * l.length
  | [], _ => by simp
  | a :: l, h => by
    have h1 := h a (by simp)
    have h2 := flatMap_length_le f n l fun b hb => h b (by simp [hb])
    simp only [List.flatMap_cons, List.length_append, List.length_cons, Nat.mul_succ]
    omega

/-- Optional fields of one value each: their presence bytes, and at most four bytes each. -/
theorem optional_length (fs : List (List Field)) (h : ∀ f ∈ fs, f.length ≤ 1) :
    (Item.optional fs).bytes.length ≤ max 1 fs.length + 4 * fs.length := by
  have h1 := presenceBytes_length (fs.map fun f => !f.isEmpty)
  have h2 := flatMap_length_le (fun f : List Field => f.flatMap Field.bytes) 4 fs fun f hf =>
    (flatMap_length_le Field.bytes 4 f fun g _ => g.bytes_length).trans (by have := h f hf; omega)
  simp only [List.length_map] at h1
  simp only [Item.bytes, List.length_append]
  omega

/-- A record's state and its optional fields fit a response of 255 bytes, with at most 49 of them (R188). -/
theorem record_length (st : Field) (fs : List (List Field)) (h : ∀ f ∈ fs, f.length ≤ 1) (hn : fs.length ≤ 49) :
    2 + (([.one st, .optional fs] : List Item).flatMap Item.bytes).length ≤ 255 := by
  have h1 := st.bytes_length
  have h2 := optional_length fs h
  simp only [List.flatMap_cons, List.flatMap_nil, List.length_append, List.length_nil, Item.bytes] at *
  omega

/-! ## Responses with more than eight optional fields (R188) -/

theorem maybe_length {α : Type} (f : α → Field) (x : Option α) : (maybe f x).length ≤ 1 := by
  cases x <;> simp [maybe]

theorem conflictFields_fit (c : Option Conflict) :
    (∀ f ∈ conflictFields c, f.length ≤ 1) ∧ (conflictFields c).length = 7 := by
  rcases c with _ | ⟨_ | _ | _ | _ | _, _⟩ <;> simp [conflictFields]

theorem jobFields_fit (j : Job) : (∀ f ∈ jobFields j, f.length ≤ 1) ∧ (jobFields j).length = 11 := by
  cases j <;> simp [jobFields, maybe_length]

theorem resultFields_fit (r : Option EngineResult) :
    (∀ f ∈ resultFields r, f.length ≤ 1) ∧ (resultFields r).length = 25 := by
  rcases r with _ | ⟨r | r⟩
  · simp [resultFields]
  · have h := conflictFields_fit r.worst
    simp only [resultFields, List.forall_mem_append, List.length_append, h.2]
    exact ⟨⟨⟨⟨by simp, h.1⟩, by simp⟩, by simp⟩, by simp⟩
  · have h := conflictFields_fit r.lastWorst
    simp only [resultFields, List.forall_mem_append, List.length_append, h.2]
    exact ⟨⟨⟨⟨by simp, by simp [maybe_length]⟩, h.1⟩, by simp⟩, by simp⟩

/-- CHECK.READ fits a response. -/
theorem slotItems_length (slot : Slot) (ahead : Nat) (progress : Nat × Bool) :
    2 + ((slotItems slot ahead progress).flatMap Item.bytes).length ≤ 255 := by
  cases slot with
  | empty => exact record_length _ _ (by simp) (by simp)
  | queued job =>
    have hj := jobFields_fit job
    have hr := resultFields_fit none
    refine record_length _ _ ?_ (by simp [hj.2, hr.2])
    simp only [List.forall_mem_append]
    exact ⟨⟨hj.1, by simp⟩, hr.1⟩
  | running job =>
    have hj := jobFields_fit job
    have hr := resultFields_fit none
    refine record_length _ _ ?_ (by simp [hj.2, hr.2])
    simp only [List.forall_mem_append]
    exact ⟨⟨hj.1, by simp⟩, hr.1⟩
  | done job result =>
    have hj := jobFields_fit job
    have hr := resultFields_fit (some result)
    refine record_length _ _ ?_ (by simp [hj.2, hr.2])
    simp only [List.forall_mem_append]
    exact ⟨⟨hj.1, by simp⟩, hr.1⟩

/-- LINK.GET, LINK.NOTE, LINK.ENROLL and LINK.SET fit a response. -/
theorem entryItems_length (e : LinkEntry) : 2 + ((entryItems e).flatMap Item.bytes).length ≤ 255 := by
  cases e with
  | vacant => exact record_length _ _ (by simp) (by simp)
  | noted n => exact record_length _ _ (by simp [maybe_length]) (by simp)
  | enrolled e =>
    refine record_length _ _ ?_ (by simp)
    simp only [List.forall_mem_cons, maybe_length, List.length_singleton, le_refl, true_and, and_true,
      List.not_mem_nil, false_implies, implies_true]
    rcases e.phase with _ | _ | _ <;> rcases e.role with _ | _ <;> simp

/-- CAPTURE.READ fits a response. -/
theorem captureItems_length (c : Option Capture) : 2 + ((captureItems c).flatMap Item.bytes).length ≤ 255 := by
  cases c <;> exact record_length _ _ (by simp) (by simp)

/-! ## Transactions of the primary control port -/

/-- What a transaction with a byte is taken as (R173, R187). -/
theorem transactionCommand_cons (b : Byte) (rest : List Byte) :
    transactionCommand (b :: rest) = some (if b = 0#8 then .readTransaction rest.length
      else (decodeFrame .primary (b :: rest)).getD (.badFrame .primary (b :: rest))) := rfl

/-- Taking a transaction queues its command and changes nothing else. -/
theorem takeTransaction_eq (bytes : List Byte) (s : State) :
    takeTransaction bytes s = { s with pending := s.pending ++ (transactionCommand bytes).toList } := by
  unfold takeTransaction
  cases transactionCommand bytes <;> simp [post]

end Sys2Proof.Machine
end

