-- ==== Sys2Proof/Laws/KeyStatus.lean ====
section
/-! SUPPORT. What the recomputation of the key statuses does (R152): each status is computed from what the recomputation
does not touch, so that every key is refreshed on its own. -/

namespace Sys2Proof.Machine

variable (s : State)

/-- Key `k` after the recomputation: unchanged where its status is the computed one, and otherwise with that status and
its status pending flag set (R152). -/
def refreshedKey (s : State) (k : Nat) : Key :=
  if computedStatus s k = (keyAt s k).status then keyAt s k
  else { keyAt s k with status := computedStatus s k, statusPending := true }

theorem refreshStatus_eq (k : Nat) :
    refreshStatus k s = if computedStatus s k = (keyAt s k).status then s else setKey k (refreshedKey s k) s := by
  unfold refreshStatus refreshedKey
  split <;> simp_all

/-- The computed statuses depend on the keys by their active states and destinations alone. -/
theorem computedStatus_setKey (k j : Nat) (key : Key) (ha : key.active = (keyAt s k).active)
    (hd : key.destinations = (keyAt s k).destinations) : computedStatus (setKey k key s) j = computedStatus s j := by
  have h : (keyAt (setKey k key s) j).active = (keyAt s j).active ∧
      (keyAt (setKey k key s) j).destinations = (keyAt s j).destinations := by
    rw [keyAt_setKey]
    split
    · next hj => obtain ⟨rfl, _⟩ := hj; exact ⟨ha, hd⟩
    · exact ⟨rfl, rfl⟩
  unfold computedStatus eligibleDestinations
  rw [h.1, h.2]
  rfl

@[simp] theorem computedStatus_refreshStatus (k j : Nat) :
    computedStatus (refreshStatus k s) j = computedStatus s j := by
  rw [refreshStatus_eq]
  split
  · rfl
  · next h =>
    refine computedStatus_setKey s k j _ ?_ ?_ <;> (unfold refreshedKey; rw [if_neg h])

/-- One key's recomputation touches that key alone. -/
theorem keyAt_refreshStatus (k j : Nat) (hk : k < 32) :
    keyAt (refreshStatus k s) j = if k = j then refreshedKey s k else keyAt s j := by
  rw [refreshStatus_eq]
  split
  · next h =>
    split
    · next hj => subst hj; rw [refreshedKey, if_pos h]
    · rfl
  · simp [keyAt_setKey, hk]

/-- What the recomputation does to every key (R152). -/
theorem keyAt_refreshStatuses (j : Nat) (hj : j < 32) : keyAt (refreshStatuses s) j = refreshedKey s j := by
  suffices H : ∀ (ks : List Nat) (u : State), ks.Nodup → (∀ k ∈ ks, k < 32) →
      keyAt (ks.foldl (fun s k => refreshStatus k s) u) j = if j ∈ ks then refreshedKey u j else keyAt u j by
    have := H (List.range 32) s List.nodup_range (by simp)
    rw [refreshStatuses, this, if_pos (by simpa using hj)]
  intro ks
  induction ks with
  | nil => intro u _ _; rfl
  | cons k ks ih =>
    intro u hn hk
    obtain ⟨hnk, hn⟩ := List.nodup_cons.1 hn
    have hk32 := hk k (by simp)
    rw [List.foldl_cons, ih _ hn fun a ha => hk a (by simp [ha])]
    have hf : k ≠ j → refreshedKey (refreshStatus k u) j = refreshedKey u j := by
      intro hne
      simp [refreshedKey, keyAt_refreshStatus u k j hk32, hne]
    by_cases hj : j = k
    · subst hj
      simp [hnk, keyAt_refreshStatus u _ _ hk32]
    · simp [hj, Ne.symm hj, keyAt_refreshStatus u _ _ hk32, hf (Ne.symm hj)]

end Sys2Proof.Machine
end

