-- ==== Sys2Proof/Tests/Slice0.lean ====
section
/-! SUPPORT. The model's own tests: ill-formed terms that WellFormed refuses, frames and messages byte by byte, single
steps on small states, and for every claim with hypotheses a state and operands that meet them. The expected values
are the manual's tables and worked sequences, or hand calculation from its rules. -/

namespace Sys2Proof.Tests

open Sys2Proof.Machine

/-! ## Small states -/

/-- A CAMERA in LIVE on plan record 4 with output 33 and the settings of the worked retune (6). -/
def camera : EnrolledLink :=
  { ident := 77, role := .camera 33 0, carrier := 4, settings := ⟨12, 300, 2000, true, 1000⟩, presence := .live
    lastHeard := some 0, lastGood := some 0, bestReceiver := none, lastMargin := none, delayTimer := none
    phase := .none, lastResult := .none, tally := .auto }

/-- 606.000 MHz, half width 20. -/
def carrier : Carrier := ⟨121200, 20, 0⟩

/-- Reset, but for one link entry and one plan record. -/
def oneLink (l : Nat) (e : EnrolledLink) (i : Nat) (r : PlanRecord) : State :=
  setRecord i r (setEntry l (.enrolled e) State.reset)

/-- Camera link 3 on plan record 4, LIVE. -/
def live : State := oneLink 3 camera 4 (.active carrier 3)

/-- The limit deadline of a retune started at clock 0. -/
def record : RetuneRecord := ⟨.requested, false, 5000⟩

/-- Link 3 in ORDERED with new carrier 0. -/
def ordered : State :=
  setRecord 0 (.handover ⟨94020, 20, 0⟩ 3) (oneLink 3 { camera with phase := .ordered record 0 } 4 (.active carrier 3))

/-- A search of band group 0 from 100 to 400, step 20, half width 20, limit 4. -/
def search : Search := ⟨0, 100, 400, 20, 20, 4⟩

/-- Link 3 in SEEKING, its search running. -/
def seeking : State :=
  let s := oneLink 3 { camera with phase := .seeking record .inEngine } 4 (.active carrier 3)
  { s with
    plan.groups := put s.plan.groups 0 ⟨100, 400, 5, 3, true, true, 20, 4⟩
    engine.running := some ⟨⟨.internal 3, .find search⟩, 0, false⟩
    retune.seekOrder := [3] }

/-- Link 63 waits behind the search of link 3. -/
def waitingBehind : State :=
  let s := setEntry 63 (.enrolled { camera with ident := 78, carrier := 95, phase := .seeking record .waiting })
    (setRecord 95 (.active carrier 63) seeking)
  { s with retune.waitList := [63], retune.seekOrder := [3, 63] }

/-- Reset with host check slot `k` in the given state. -/
def slotState (k : Nat) (v : Slot) : State := setSlot k v State.reset

/-- A HEARD report of the camera with a given frequency and margin, and no echo. -/
def report (freq margin : Nat) : HeardReport := ⟨4, 77, 0, freq, -40, margin, some 255⟩

/-- The state after a command. -/
def after (c : Instr) (s : State) : State :=
  match exec c s with
  | .next t => t
  | _ => s

/-- The status of the response in the primary slot. -/
def status (s : State) : Option Status := s.ctl.responseSlot.map Response.status

theorem entry_reset (j : Nat) : entry State.reset j = .vacant := by
  simp only [entry, State.reset, Directory.reset, look_replicate]
  split <;> rfl

theorem planRecord_reset (j : Nat) : planRecord State.reset j = .empty := by
  simp only [planRecord, State.reset, Plan.reset, look_replicate]
  split <;> rfl

theorem jobAt_reset (j : Nat) : jobAt State.reset j = .idle := by
  simp only [jobAt, State.reset, Survey.reset, look_replicate]
  split <;> rfl

theorem slotAt_slotState (k j : Nat) (v : Slot) (h : k < 4) : slotAt (slotState k v) j = if k = j then v else .empty := by
  simp only [slotAt, slotState, setSlot, look_put, h, and_true]
  split
  · rfl
  · simp only [State.reset, Engine.reset, look_replicate]
    split <;> rfl

theorem entry_oneLink (l : Nat) (e : EnrolledLink) (i : Nat) (r : PlanRecord) (j : Nat) (h : l < 64) :
    entry (oneLink l e i r) j = if l = j then .enrolled e else .vacant := by
  simp only [oneLink, entry_setRecord, entry_setEntry, h, and_true, entry_reset]

theorem planRecord_oneLink (l : Nat) (e : EnrolledLink) (i : Nat) (r : PlanRecord) (j : Nat) (h : i < 96) :
    planRecord (oneLink l e i r) j = if i = j then r else .empty := by
  simp only [oneLink, planRecord_setRecord, h, and_true, planRecord_setEntry, planRecord_reset]

theorem idents_oneLink (l : Nat) (e : EnrolledLink) (i : Nat) (r : PlanRecord) (h : l < 64) :
    IdentsDistinct (oneLink l e i r) := by
  intro a b x
  rw [entry_oneLink _ _ _ _ _ h, entry_oneLink _ _ _ _ _ h]
  split <;> split <;> simp [entryIdent]
  omega

theorem entry_live (j : Nat) : entry live j = if 3 = j then .enrolled camera else .vacant :=
  entry_oneLink _ _ _ _ _ (by decide)

theorem planRecord_live (j : Nat) : planRecord live j = if 4 = j then .active carrier 3 else .empty :=
  planRecord_oneLink _ _ _ _ _ (by decide)

theorem idents_live : IdentsDistinct live := idents_oneLink _ _ _ _ (by decide)

/-! ## Ill-formed terms (WellFormed) -/

theorem test_wellFormed_index : (Instr.groupGet .primary 256).wellFormed = false ∧
    (Instr.groupGet .primary 255).wellFormed = true := by decide
theorem test_wellFormed_frequency : (Instr.checkStart .primary (.explicit 16777216 0 0)).wellFormed = false := by decide
theorem test_wellFormed_word : (Instr.retuneLimit .primary 65536).wellFormed = false := by decide
theorem test_wellFormed_level : (Instr.surveySetup .primary 0 0 (-129)).wellFormed = false ∧
    (Instr.sample 0 128).wellFormed = false := by decide
theorem test_wellFormed_ident : (Instr.linkProbe .primary 16777216).wellFormed = false := by decide
theorem test_wellFormed_params :
    (Instr.linkSet .primary 0 ⟨some 256, none, none, none, none⟩).wellFormed = false ∧
    (Instr.linkSet .primary 0 ⟨none, some 65536, none, none, none⟩).wellFormed = false := by decide
theorem test_wellFormed_echo : (Instr.heard ⟨4, 77, 1, 0, 0, 0, some 255⟩).wellFormed = false ∧
    (Instr.heard ⟨4, 77, 0, 0, 0, 0, none⟩).wellFormed = false := by decide
theorem test_wellFormed_link : (Instr.fadeExpiry 64).wellFormed = false ∧
    (Instr.retuneLimitExpiry 63).wellFormed = true := by decide
set_option maxRecDepth 4000 in
theorem test_wellFormed_list : (Instr.keySet .primary 0 0 0 0 0 (List.replicate 249 0)).wellFormed = false ∧
    (Instr.keySet .primary 0 0 0 0 0 [256]).wellFormed = false := by decide
set_option maxRecDepth 4000 in
theorem test_wellFormed_payload : (Instr.returnPass .primary 0 (List.replicate 253 0)).wellFormed = false := by decide

/-! ## Frames and messages, byte by byte (R186 to R191) -/

/-- PLAN.PUT, code 3, of record 4: RESERVED, centre 121,200 = 01D970h, half width 20, group 2. -/
theorem test_frame_planPut :
    decodeFrame .primary [9#8, 3#8, 4#8, 1#8, 0x01#8, 0xD9#8, 0x70#8, 0x00#8, 0x14#8, 2#8]
      = some (.planPut .primary 4 1 121200 20 2) := by decide
/-- CHECK.START begins with its choice byte: 0 explicit, 1 a record. -/
theorem test_frame_checkStart :
    decodeFrame .primary [3#8, 7#8, 1#8, 20#8] = some (.checkStart .primary (.record 20)) ∧
    decodeFrame .primary [3#8, 7#8, 2#8, 20#8] = none := by decide
/-- LINK.SET, code 19, of link 3 with fade time 300: presence bit 1. -/
theorem test_frame_linkSet :
    decodeFrame .service [5#8, 19#8, 3#8, 0b00010#8, 0x01#8, 0x2C#8]
      = some (.linkSet .service 3 ⟨none, some 300, none, none, none⟩) ∧
    decodeFrame .service [3#8, 19#8, 3#8, 0b100000#8] = none := by decide
/-- SURVEY.SETUP, code 11, with hot level −90 = A6h. -/
theorem test_frame_surveySetup :
    decodeFrame .primary [7#8, 11#8, 0x01#8, 0xD8#8, 0xA8#8, 0x00#8, 0x0A#8, 0xA6#8]
      = some (.surveySetup .primary 121000 10 (-90)) := by decide
/-- KEY.SET, code 42, with two destinations; a count that disagrees with the bytes is malformed. -/
theorem test_frame_keySet :
    decodeFrame .primary [9#8, 42#8, 5#8, 4#8, 0#8, 0#8, 12#8, 2#8, 3#8, 7#8]
      = some (.keySet .primary 5 4 0 0 12 [3, 7]) ∧
    decodeFrame .primary [9#8, 42#8, 5#8, 4#8, 0#8, 0#8, 12#8, 3#8, 3#8, 7#8] = none := by decide
/-- Codes 0 and 57, and a length that disagrees, are malformed. -/
theorem test_frame_malformed :
    decodeFrame .primary [1#8, 0#8] = none ∧ decodeFrame .primary [1#8, 57#8] = none ∧
    decodeFrame .primary [3#8, 37#8, 3#8] = none := by decide
theorem test_code_authorityYield : RequestCode.authorityYield.number = 51 := by decide
/-- A transaction of the primary port: 00h first reads, 9 first is the frame of test_frame_planPut, 2 first is malformed. -/
theorem test_transaction :
    transactionCommand [0#8, 0#8, 5#8] = some (.readTransaction 2) ∧
    transactionCommand [9#8, 3#8, 4#8, 1#8, 0x01#8, 0xD9#8, 0x70#8, 0x00#8, 0x14#8, 2#8]
      = some (.planPut .primary 4 1 121200 20 2) ∧
    transactionCommand [2#8, 57#8, 0#8] = some (.badFrame .primary [2#8, 57#8, 0#8]) ∧
    transactionCommand [] = none := by decide
/-- HEARD of step 5 of the worked session: level −40 = D8h, margin 70, echo PROGRAM. -/
theorem test_message_heard :
    decodeMessage .receiver [0x48#8, 4#8, 0#8, 0#8, 77#8, 0#8, 0x01#8, 0xD9#8, 0x70#8, 0xD8#8, 70#8, 2#8]
      = some (.heard ⟨4, 77, 0, 121200, -40, 70, some 2⟩) := by decide
theorem test_message_mic :
    messageComplete .receiver [0x48#8, 9#8, 0#8, 0#8, 77#8, 1#8, 0#8, 0#8, 5#8, 0#8, 7#8] = true ∧
    messageComplete .receiver [0x48#8, 9#8, 0#8, 0#8, 77#8, 0#8, 0#8, 0#8, 5#8, 0#8, 7#8] = false := by decide
theorem test_message_tally :
    decodeMessage .mixer [0x54#8, 1#8, 2#8] = some (.mixerTallyMessage 1 2) ∧
    decodeMessage .mixer [0x54#8, 1#8, 8#8] = some (.malformedMessage .mixer [0x54#8, 1#8, 8#8]) := by decide
theorem test_message_keys :
    decodeMessage .keypanel [0x44#8, 31#8] = some (.keyDown 31) ∧
    decodeMessage .keypanel [0x55#8, 5#8] = some (.keyUp 5) := by decide
theorem test_message_ack :
    decodeMessage .matrix [0x41#8, 33#8, 0xFF#8] = some (.orderAck 33 255) ∧
    decodeMessage .ret [0x64#8, 42#8] = some (.doneMessage 42) := by decide
theorem test_message_echo : cueByteOk 0x0E = true ∧ cueByteOk 0x03 = false ∧ cueByteOk 0x10 = false := by decide
/-- The part's messages out (R189): CUE 17 for link 3, and TUNE of 94,020 = 016F44h, half width 20. -/
theorem test_message_out :
    returnBytes ⟨3, 17, .cue ⟨.program, true, true⟩, 0⟩ = [0x72#8, 17#8, 3#8, 0x0E#8] ∧
    returnBytes ⟨3, 41, .tune 94020 20, 0⟩ = [0x71#8, 41#8, 3#8, 0x01#8, 0x6F#8, 0x44#8, 0x00#8, 0x14#8] := by decide

/-! ## One step each -/

set_option maxRecDepth 8000

/-- The worked session, step 1. -/
theorem test_tallyOverride :
    let t := after (.tallyOverride .primary 3 2) live
    (t.ret.cuePending, status t, heldCue t 3) = ([3], some .ok, ⟨.program, false, false⟩) := by decide
theorem test_groupSet :
    let t := after (.groupSet .primary 2 94000 9999999 5 300 0 1 0 0) State.reset
    look t.plan.groups 2 = ⟨94000, 2097151, 5, 255, true, false, 1, 1⟩ := by decide
theorem test_groupSet_edges : status (after (.groupSet .primary 2 5 4 0 0 0 0 1 1) State.reset) = some .badField := by decide
theorem test_planPut_clamps :
    planRecord (after (.planPut .primary 9 4 121700 6000 2) State.reset) 9 = .foreign ⟨121700, 4095, 2⟩ := by decide
theorem test_planPut_inUse : status (after (.planPut .primary 4 1 121220 20 2) live) = some .inUse := by decide
theorem test_planDrop : status (after (.planDrop .primary 9) State.reset) = some .badState := by decide
theorem test_checkStart :
    let t := after (.checkStart .primary (.record 4)) live
    (slotAt t 0, t.engine.queue) = (.queued (.check (some 4) carrier), [⟨.host 0, .check (some 4) carrier⟩]) := by decide
/-- The worked queue sequence from its step 5: slot 0's search runs stale, link 3's search and slot 1's check wait. -/
def queueSequence : State :=
  { seeking with
    engine.running := some ⟨⟨.host 0, .find search⟩, 0, true⟩
    engine.queue := [⟨.internal 3, .find search⟩, ⟨.host 1, .check none carrier⟩]
    engine.slots := put (put State.reset.engine.slots 0 (.running (.find search))) 1 (.queued (.check none carrier)) }
/-- Its step 6: the cancel of the running slot starts link 3's search, with a clear stale flag, and raises nothing. -/
theorem test_queue_cancel :
    let t := after (.checkCancel .primary 0) queueSequence
    (t.engine.running, t.engine.queue, slotAt t 0, t.ctl.causes)
      = (some ⟨⟨.internal 3, .find search⟩, 0, false⟩, [⟨.host 1, .check none carrier⟩], .empty, 0) := by decide
/-- Its step 7: the found carrier is opened while no request runs, and slot 1's check starts with a clear stale flag. -/
theorem test_queue_completion :
    let t := after .candidateEvaluation (after (.checkCancel .primary 0) queueSequence)
    (t.engine.running, t.engine.queue, slotAt t 1, planRecord t 0)
      = (some ⟨⟨.host 1, .check none carrier⟩, 0, false⟩, [], .running (.check none carrier),
        .handover ⟨120, 20, 0⟩ 3) := by decide
theorem test_edge_conflict :
    (conflicts live (some 4) carrier).map Conflict.kind = [.edge] := by decide
theorem test_surveyStart_count :
    jobAt (after (.surveyStart .primary 3 15 255 0 0 0) State.reset) 3 = .running ⟨15, 255, 256, .sweep⟩ := by decide
theorem test_sample_wraps :
    let t := after (.sample 15 (-128)) { State.reset with
      survey.jobs := put State.reset.survey.jobs 3 (.running ⟨15, 255, 1, .watch (-127)⟩) }
    (jobAt t 3, look t.survey.bins 255) = (.ended ⟨15, 0, 0, .watch (-127)⟩ .count, some ⟨1, -127, -127⟩) := by decide
theorem test_heard_live :
    let t := after (.heard (report 121220 12)) { live with clock := 300 }
    (enrolledLink t 3).map EnrolledLink.lastGood = some (some 300) := by decide
theorem test_heard_mistuned :
    let t := after (.heard (report 121221 12)) { live with clock := 300 }
    (t.dir.capture.map Capture.kind, t.dir.rover, t.ctl.causes) = (some .mistuned, 62, 2#11) := by decide
theorem test_heard_completes :
    let t := after (.heard (report 94020 25)) ordered
    (planRecord t 0, planRecord t 4, t.ctl.causes) = (.active ⟨94020, 20, 0⟩ 3, .empty, 8#11) := by decide
theorem test_fadeExpiry :
    let t := after (.fadeExpiry 3) { live with clock := 300 }
    (enrolledLink t 3).map (fun e => (e.presence, e.delayTimer)) = some (.fading, some 1300) := by decide
theorem test_fadeExpiry_early : after (.fadeExpiry 3) { live with clock := 299 } = { live with clock := 299 } := by rfl
theorem test_fadeExpiry_lost :
    let t := after (.fadeExpiry 3) { live with clock := 2000 }
    (enrolledLink t 3).map EnrolledLink.presence = some .lost ∧ t.ctl.causes = 4#11 := by decide
theorem test_deadline_wraps : reached 104#32 103#32 = false ∧ reached 104#32 104#32 = true ∧
    reached 104#32 4294967295#32 = false := by decide
theorem test_linkRetune :
    let t := after (.linkRetune .primary 3 255 1) live
    (searchingLinks t, t.retune.seekOrder, t.ctl.changed) = ([3], [3], [3]) := by decide
theorem test_linkHalt :
    let t := after (.linkHalt .primary 3) ordered
    (planRecord t 0, planRecord t 4, t.ctl.causes) = (.empty, .active carrier 3, 8#11) := by decide
theorem test_retire :
    let t := after (.linkRetire .primary 3) live
    (entry t 3, look t.talk.orders 33, planRecord t 4)
      = (.noted ⟨77, .camera, some 0, some .none⟩, some .mute, .reserved carrier) := by decide
/-- The search of a retired link runs: the check behind it starts in the same event, and the release marks it stale. -/
theorem test_retire_starts :
    let t := after (.linkRetire .primary 3) { seeking with engine.queue := [⟨.host 1, .check none carrier⟩] }
    t.engine.running = some ⟨⟨.host 1, .check none carrier⟩, 0, true⟩ := by decide
theorem test_enroll :
    let t := after (.linkEnroll .primary 63 7 0 12 ⟨none, some 5, some 50, none, none⟩ 90)
      (setRecord 12 (.reserved carrier) State.reset)
    (enrolledLink t 63).map EnrolledLink.settings = some ⟨12, 10, 100, false, 1000⟩ ∧
    look t.talk.orders 90 = some .mute := by decide
theorem test_keyDown :
    let s := setKey 5 { Key.reset with level := 4, source := 12, destinations := [3] } live
    let t := after (.keyDown 5) s
    ((arbiterAt t 3).holder, look t.talk.orders 33, (keyAt t 5).status, (keyAt t 5).statusPending, t.ret.cuePending)
      = (some 5, some (.input 12), .full, true, [3]) := by decide
/-- A WAITING key of the enrolled link becomes FULL, and its status is to be sent; that of an inactive key is not. -/
theorem test_enroll_status :
    let s := setKey 6 { Key.reset with destinations := [63] }
      (setKey 5 { Key.reset with destinations := [63], active := true, status := .waiting }
        (setRecord 12 (.reserved carrier) State.reset))
    let t := after (.linkEnroll .primary 63 7 0 12 ⟨none, none, none, none, none⟩ 90) s
    ((keyAt t 5).status, (keyAt t 5).statusPending, (keyAt t 6).statusPending) = (.full, true, false) := by decide
/-- A retune to a target, its completion and its abort are plan changes, and mark the running request stale. -/
theorem test_retune_stales :
    let run (s : State) : State := { s with engine.running := some ⟨⟨.host 0, .check none carrier⟩, 0, false⟩ }
    let stale (s : State) : Option Bool := s.engine.running.map Running.stale
    (stale (after (.linkRetune .primary 3 95 0) (run (setRecord 95 (.reserved carrier) live))),
      stale (after (.heard (report 94020 25)) (run ordered)), stale (after (.linkHalt .primary 3) (run ordered)))
      = (some true, some true, some true) := by decide
/-- MATRIX.GET of output 33 while its order for input 12 is in flight: no pending order, confirmed UNKNOWN, yes, the
input and deadline 50, last served 33. -/
theorem test_matrixGet :
    let s := { State.reset with talk.orderInFlight := some ⟨33, .input 12, 50⟩, talk.lastServed := some 33 }
    (after (.matrixGet .primary 33) s).ctl.responseSlot.map Response.frame
      = some [11#8, 48#8, 0#8, 0#8, 1#8, 3#8, 12#8, 0#8, 0#8, 0#8, 50#8, 33#8] := by decide
theorem test_orderTimeout :
    let t := after .orderTimeout { State.reset with clock := 50, talk.orderInFlight := some ⟨33, .mute, 50⟩ }
    (t.talk.orderInFlight, t.ctl.causes) = (none, 128#11) := by decide
theorem test_returnSendStart :
    let t := after .returnSendStart { State.reset with
      clock := 9, ret.cuePending := [3, 7], ret.lastCue := some 5, ret.sendNumber := 255 }
    (t.ret.inFlight, t.ret.cuePending, t.ret.sendNumber)
      = (some ⟨7, 255, .cue ⟨.off, false, false⟩, 29⟩, [3], 0) := by decide
theorem test_yield_primary : status (after (.authorityYield .primary) State.reset) = some .badState := by decide
theorem test_lineBreak :
    let t := after .lineBreak State.reset
    (t.ctl.owner, t.ctl.causes) = (.service, 1024#11) := by decide
theorem test_readTransaction :
    (after (.readTransaction 5) State.reset).primaryOut = [2#8, 0#8, 1#8, 0xFF#8, 0xFF#8] := by decide
theorem test_badFrame :
    (after (.badFrame .primary [2#8, 57#8, 0#8]) State.reset).ctl.responseSlot = some ⟨57, .badFrame, []⟩ := by decide
theorem test_malformedMessage :
    (after (.malformedMessage .receiver [0x53#8, 20#8, 0xB0#8]) State.reset).ctl.faults.receiver = ⟨true, false⟩ := by decide
theorem test_runRestart :
    let t := after (.runRestart .primary) ordered
    (planRecord t 0, (enrolledLink t 3).map EnrolledLink.lastResult, look t.talk.orders 33)
      = (.empty, some .restart, some .mute) := by decide


/-! ## What meets the hypotheses of the claims

One theorem per claim that has hypotheses, named after it: for each of its clauses a state and operands, at the edge of
their range where they have one, that meet the clause's hypotheses together. -/

/-- A state holds the authority for PRIMARY, so that it may send every request. -/
theorem maySend_primary (c : RequestCode) (s : State) (h : s.ctl.owner = .primary) : MaySend .primary c s := fun _ => h

theorem witness_StepRunsFrontCommand :
    ({ State.reset with pending := [.lineBreak, .engineStart] } : State).pending = .lineBreak :: [.engineStart] := rfl

theorem witness_IdleSteps :
    (State.reset.pending = [] ∧ State.reset.arriving = [] ∧ State.reset.clock ≠ 4294967295#32) ∧
    ({ State.reset with clock := 4294967295#32 }.clock = 4294967295#32) ∧
    frameEnded .service [2#8, 56#8] = false ∧
    (frameEnded .service [1#8, 56#8] = true ∧ decodeFrame .service [1#8, 56#8] = some (.runRestart .service)) ∧
    (frameEnded .service [0#8] = true ∧ decodeFrame .service [0#8] = none) ∧
    messageCount .keypanel [0x44#8] = some 2 ∧
    (messageComplete .keypanel [0x44#8, 31#8] = true ∧ messageMalformed .keypanel [0x44#8, 31#8] = false ∧
      messageCommand .keypanel [0x44#8, 31#8] = some (.keyDown 31)) ∧
    messageMalformed .keypanel [0x44#8, 32#8] = true ∧ messageCount .keypanel [0x54#8] = none ∧
    (let s (bytes : List Byte) : State := { State.reset with arriving := [.transaction bytes] }
     (s []).arriving = .transaction [] :: [] ∧ (s [0#8]).arriving = .transaction (0#8 :: []) :: []) ∧
    ((1#8 : Byte) ≠ 0#8 ∧ decodeFrame .primary [1#8, 56#8] = some (.runRestart .primary)) ∧
    ((255#8 : Byte) ≠ 0#8 ∧ decodeFrame .primary [255#8] = none) := by decide

theorem witness_CommandsComplete : exec .lineBreak State.reset = .next (after .lineBreak State.reset) := rfl

theorem witness_ResponsesArePlaced :
    State.reset.ctl.serviceSending = none ∧
    (respond .service notReadyResponse State.reset).ctl.serviceSending = some notReadyResponse := ⟨rfl, rfl⟩

theorem witness_MutatingNeedsAuthority :
    requestParts (.planDrop .service 9) = some (.service, .planDrop, [.nat 9]) ∧
    mutating .planDrop = true ∧ State.reset.ctl.owner ≠ .service := by decide

theorem witness_RefusalsAndReadsChangeNothing :
    requestParts (.lampGet .service 15) = some (.service, .lampGet, [.nat 15]) ∧ isRead .lampGet = true := by decide

theorem witness_PortMessagesReadBack :
    let good : Instr := .heard ⟨15, 16777215, 1, 0, -128, 255, none⟩
    let bad : Instr := .heard ⟨16, 0, 0, 0, 127, 0, some 255⟩
    (good.wellFormed = true ∧ (encodeMessage good).isSome ∧ contentMalformed good = false) ∧
    (bad.wellFormed = true ∧ (encodeMessage bad).isSome ∧ contentMalformed bad = true) := by decide

theorem reset_groups : GroupsWithinCapacity State.reset := by
  intro g
  have h : indicesWhere State.reset.plan.records (inGroup g) = [] := by
    apply List.filter_eq_nil_iff.2
    intro i _
    have h := planRecord_reset i
    simp only [planRecord] at h
    simp [h, inGroup, PlanRecord.carrier]
  simp [memberCount, h]

theorem witness_StatedReads : (7 ≤ 7 ∧ 7 < 8) ∧ (15 ≤ 15 ∧ 15 < 16) ∧ GroupsWithinCapacity State.reset :=
  ⟨by decide, by decide, reset_groups⟩

/-- Every one of the 24 records of group 7 is FOREIGN. -/
def fullGroup : State :=
  { State.reset with plan.records := rewrite (fun i r => if i < 24 then .foreign ⟨100 * i, 1, 7⟩ else r) State.reset.plan.records }

theorem witness_GroupAndPlanRequests :
    MaySend .primary .groupSet live ∧ MaySend .primary .planPut live ∧ (7 < 8 ∧ 1 < 2) ∧
    (planRecord live 95).owner = none ∧ (planRecord live 4).owner = some 3 ∧ memberCount live 7 < 24 ∧
    ((planRecord fullGroup 23).owner = none ∧ inGroup 7 (planRecord fullGroup 23) = true) ∧
    (inGroup 7 (planRecord fullGroup 95) = false ∧ 24 ≤ memberCount fullGroup 7) := by
  exact ⟨fun _ => rfl, fun _ => rfl, by decide, by decide, by decide, by decide, by decide, by decide⟩

theorem witness_PlanDrop :
    MaySend .primary .planDrop live ∧ (planRecord live 4).owner = some 3 ∧ planRecord live 95 = .empty ∧
    planRecord fullGroup 0 = .foreign ⟨0, 1, 7⟩ ∧
    planRecord (setRecord 95 (.reserved carrier) State.reset) 95 = .reserved carrier :=
  ⟨fun _ => rfl, by decide, by decide, by decide, by decide⟩

/-- Three slots are taken; slot 3 is EMPTY. -/
def threeSlots : State :=
  { State.reset with engine.slots := rewrite (fun k v => if k < 3 then .queued (.check none carrier) else v) State.reset.engine.slots }

/-- The request of slot 3 runs. -/
def running3 : State :=
  { slotState 3 (.running (.find search)) with engine.running := some ⟨⟨.host 3, .find search⟩, 0, false⟩ }

/-- All four slots are taken, and record 95 is RESERVED. -/
def fourSlots : State := setRecord 95 (.reserved carrier) (setSlot 3 (.queued (.find search)) threeSlots)

theorem witness_HostCheckRequests :
    (slotAt threeSlots 3 = .empty ∧ ∀ j < 3, slotAt threeSlots j ≠ .empty) ∧
    ((∀ j ≤ 3, slotAt fourSlots j ≠ .empty) ∧ 7 ≤ 7 ∧ (planRecord fourSlots 95).carrier = some carrier) ∧
    (planRecord live 4).carrier = some carrier ∧ (7 < 8 ∧ 95 < 96 ∧ 3 < 4) ∧ planRecord live 95 = .empty ∧
    slotAt (slotState 3 (.queued (.find search))) 3 = .queued (.find search) ∧
    slotAt running3 3 = .running (.find search) ∧ running3.engine.running = some ⟨⟨.host 3, .find search⟩, 0, false⟩ ∧
    slotAt (slotState 3 (.done (.find search) (.find ⟨none, 0, none, false⟩))) 3
      = .done (.find search) (.find ⟨none, 0, none, false⟩) := by decide

/-- The request of slot 3 is queued behind one of link 63 and one of slot 0. -/
def queuedThird : State :=
  { slotState 3 (.queued (.find search)) with engine.queue :=
      [⟨.internal 63, .find search⟩, ⟨.host 0, .check none carrier⟩, ⟨.host 3, .find search⟩] }

/-- CHECK.READ of a queued slot with two requests before its own, and of a running one. -/
theorem witness_HostCheckRequests_read :
    slotAt queuedThird 3 = .queued (.find search) ∧
    queuedThird.engine.queue =
      [⟨.internal 63, .find search⟩, ⟨.host 0, .check none carrier⟩] ++ ⟨.host 3, .find search⟩ :: [] ∧
    (∀ r ∈ [(⟨.internal 63, .find search⟩ : EngineRequest), ⟨.host 0, .check none carrier⟩], r.client ≠ .host 3) ∧
    slotAt running3 3 = .running (.find search) ∧ running3.engine.running = some ⟨⟨.host 3, .find search⟩, 0, false⟩ := by
  decide

/-- R30: the requests waiting ahead are counted, host and internal. -/
theorem test_check_read_ahead : aheadOf 3 queuedThird = 2 := by decide

/-- A host search of slot 3 runs; group 0 is the window 100 to 400. -/
def hostRun (q : Search) (evaluated : Nat) : State :=
  { State.reset with
    plan.groups := put State.reset.plan.groups 0 ⟨100, 400, 5, 3, true, true, 20, 4⟩
    engine.running := some ⟨⟨.host 3, .find q⟩, evaluated, false⟩ }

/-- The links and slots whose entries and records a start keeps: link 3 and slot 3 have no request, link 63 waits. -/
theorem witness_EngineStartsAndEvaluations_kept :
    State.reset.engine.queue = [] ∧ running3.engine.running ≠ none ∧
    (let s : State := { waitingBehind with engine.queue := [⟨.host 1, .find search⟩, ⟨.internal 5, .find search⟩] }
     (∀ r ∈ s.engine.queue, r.client ≠ .internal 3) ∧ 3 ∉ s.retune.waitList ∧
       ∀ r ∈ s.engine.queue, r.client ≠ .host 3) := by decide

theorem witness_EngineStartsAndEvaluations :
    (∃ s : State, s.engine.running = none ∧ s.engine.queue = [⟨.host 3, .find ⟨0, 100, 140, 20, 20, 1⟩⟩] ∧
      (∀ q, Job.find ⟨0, 100, 140, 20, 20, 1⟩ = .find q → q.lower + q.halfWidth + q.halfWidth ≤ q.upper ∧ 1 ≤ q.limit)) ∧
    (∃ s : State, s.engine.running = none ∧ s.engine.queue = [⟨.host 3, .find ⟨0, 100, 139, 20, 20, 1⟩⟩] ∧
      139 < 100 + 20 + 20) ∧
    (∃ s : State, s.engine.running = some ⟨⟨.host 3, .check none carrier⟩, 0, false⟩) ∧
    conflicts (hostRun search 0) none ⟨120, 20, 0⟩ = [] ∧
    (conflicts (hostRun { search with lower := 60 } 0) none ⟨80, 20, 0⟩ ≠ [] ∧ 80 + 20 + 20 ≤ 400 ∧ 0 + 1 < 4) ∧
    (conflicts (hostRun { search with lower := 20 } 3) none ⟨100, 20, 0⟩ ≠ [] ∧ 4 ≤ 3 + 1) ∧
    (let s : State := { seeking with engine.running := some ⟨⟨.internal 3, .find { search with lower := 60 }⟩, 0, false⟩ }
     s.engine.running = some ⟨⟨.internal 3, .find { search with lower := 60 }⟩, 0, false⟩ ∧
       conflicts s none ⟨80, 20, 0⟩ ≠ [] ∧ 80 + 20 + 20 ≤ 400 ∧ 0 + 1 < 4) := by
  refine ⟨⟨{ State.reset with engine.queue := [⟨.host 3, .find ⟨0, 100, 140, 20, 20, 1⟩⟩] }, rfl, rfl, ?_⟩,
    ⟨{ State.reset with engine.queue := [⟨.host 3, .find ⟨0, 100, 139, 20, 20, 1⟩⟩] }, rfl, rfl, by decide⟩,
    ⟨{ State.reset with engine.running := some ⟨⟨.host 3, .check none carrier⟩, 0, false⟩ }, rfl⟩, by decide, by decide, by decide,
    by decide⟩
  intro q h
  cases h
  decide

theorem witness_EdgeAndSpacingComparisons :
    let g : BandGroup := { BandGroup.reset with spacingGuard := 5 }
    g.spacingGuard = 5 ∧ BandGroup.reset.spacingGuard = 0 ∧ BandGroup.reset.lower = BandGroup.reset.upper ∧
    1 ≤ carrier.halfWidth := by decide

/-- Records 4 and 5 of group 0, as in the worked check. -/
def workedPlan : State :=
  let s := setRecord 4 (.reserved carrier) (setRecord 5 (.reserved ⟨121280, 20, 0⟩) State.reset)
  { s with plan.groups := put s.plan.groups 0 ⟨94000, 140000, 5, 3, true, true, 20, 256⟩ }

/-- The worked check of Chapter 2. -/
theorem witness_ProductsAndTheWorstConflict :
    conflicts workedPlan none ⟨121120, 20, 0⟩
      = [⟨.im2 .membersOnCandidate 4 5 96, 83⟩, ⟨.im2 .candidateOnMember 4 96 5, 83⟩] ∧
    worstOf (conflicts workedPlan none ⟨121120, 20, 0⟩) = some ⟨.im2 .membersOnCandidate 4 5 96, 83⟩ := by decide

/-- Bin 0, the span 121,100 to 121,109, is hot: its ten steps lie in the guarded band of the worked check's candidate.
Under a third record at 121,360 the product 121,200 + 121,280 − 121,120 falls on that record's centre. -/
theorem witness_ProductsAndTheWorstConflict_found :
    let s : State := { setRecord 6 (.reserved ⟨121360, 20, 0⟩) workedPlan with
      survey.window := ⟨121100, 10, -60⟩, survey.bins := put State.reset.survey.bins 0 (some ⟨1, -60, -60⟩) }
    isHot s 0 = true ∧ (⟨.occupied 0, 10⟩ : Conflict) ∈ conflicts s none ⟨121120, 20, 0⟩ ∧
    (⟨.im3 .candidateOnMember 4 5 96 6, 83⟩ : Conflict) ∈ conflicts s none ⟨121120, 20, 0⟩ := by decide

/-- Three carriers of the greatest half width under the greatest guards: an IM2 overlap of 12,285 + 4,095 + 255. -/
def widest : State :=
  let s := setRecord 4 (.reserved ⟨121200, 4095, 0⟩) (setRecord 5 (.reserved ⟨121280, 4095, 0⟩) State.reset)
  { s with plan.groups := put s.plan.groups 0 ⟨94000, 140000, 255, 255, true, true, 20, 256⟩ }

theorem carriers_widest : CarriersInRange widest := by
  intro i c h
  have hp : planRecord widest i = if 4 = i ∧ 4 < 96 then .reserved ⟨121200, 4095, 0⟩
      else if 5 = i ∧ 5 < 96 then .reserved ⟨121280, 4095, 0⟩ else planRecord State.reset i := by
    rw [← planRecord_setRecord, ← planRecord_setRecord]
    rfl
  rw [hp, planRecord_reset] at h
  split at h
  · cases h; decide
  · split at h
    · cases h; decide
    · cases h

theorem witness_ProductsAndTheWorstConflict_widest :
    CarriersInRange widest ∧ (4095 ≤ 4095 ∧ (look widest.plan.groups 0).spacingGuard ≤ 255 ∧
      (look widest.plan.groups 0).productGuard ≤ 255) ∧
    (⟨.im2 .membersOnCandidate 4 5 96, 16635⟩ : Conflict) ∈ conflicts widest none ⟨121120, 4095, 0⟩ :=
  ⟨carriers_widest, by decide, by decide⟩

/-- R41: a count stops at 255, and an EDGE overlap above 16,635 is recorded as 16,635. -/
theorem test_counts_stop_and_edge_is_bounded :
    (countsOf (List.replicate 256 ⟨.occupied 3, 1⟩)).occupied = 255 ∧
    (countsOf [⟨.im2 .membersOnCandidate 4 5 96, 83⟩, ⟨.im2 .candidateOnMember 4 96 5, 83⟩]) = ⟨0, 0, 0, 2, 0⟩ ∧
    recorded ⟨.edge, 16636⟩ = ⟨.edge, 16635⟩ ∧ recorded ⟨.spacing 4, 16636⟩ = ⟨.spacing 4, 16636⟩ := by decide

theorem witness_FoundCarrierOpens :
    let r : Running := ⟨⟨.internal 3, .find search⟩, 0, false⟩
    seeking.engine.running = some r ∧ r.request = ⟨.internal 3, .find search⟩ ∧ r.stale = false ∧
    entry seeking 3 = .enrolled { camera with phase := .seeking record .inEngine } ∧
    (planRecord seeking 4).carrier = some carrier ∧ conflicts seeking none ⟨120, 20, 0⟩ = [] ∧
    0 ≤ 95 ∧ planRecord seeking 0 = .empty ∧ (∀ j < 0, planRecord seeking j ≠ .empty) ∧
    memberCount seeking 0 < 24 ∧ 3 ∉ seeking.retune.waitList := by decide

/-- The wait list of a found carrier's state may hold a link, for whose search the engine has room. -/
theorem witness_FoundCarrierOpens_waiting :
    waitingBehind.retune.waitList = 63 :: [] ∧ 3 ∉ waitingBehind.retune.waitList ∧
    waitingBehind.engine.queue.countP isInternal < 2 ∧
    entry waitingBehind 63 = .enrolled { camera with ident := 78, carrier := 95, phase := .seeking record .waiting } ∧
    (planRecord waitingBehind 95).carrier = some carrier := by decide

/-- Job 3 runs for receiver 15, at the last bin with one sample remaining. -/
def surveying (mode : SurveyMode) : State :=
  { State.reset with survey.jobs := put State.reset.survey.jobs 3 (.running ⟨15, 255, 1, mode⟩) }

theorem jobAt_surveying (mode : SurveyMode) (j : Nat) :
    jobAt (surveying mode) j = if 3 = j then .running ⟨15, 255, 1, mode⟩ else .idle := by
  have h : jobAt (surveying mode) j
      = if 3 = j ∧ 3 < 4 then .running ⟨15, 255, 1, mode⟩ else jobAt State.reset j := look_put _ _ _ _
  simp only [h, jobAt_reset]
  simp

theorem jobs_surveying (mode : SurveyMode) : JobsInOrder (surveying mode) := by
  constructor
  · intro j r h
    rw [jobAt_surveying] at h
    split at h
    · cases h; simp
    · cases h
  · intro i j r q hi hj _
    rw [jobAt_surveying] at hi hj
    split at hi <;> split at hj
    · omega
    · cases hj
    · cases hi
    · cases hi

theorem witness_SurveyRequests :
    MaySend .primary .surveySetup State.reset ∧ (∀ j r, jobAt State.reset j ≠ .running r) ∧
    jobAt (surveying .sweep) 3 = .running ⟨15, 255, 1, .sweep⟩ ∧
    (∀ r, jobAt (surveying .sweep) 0 ≠ .running r) ∧ 255 - 192 ≤ 63 ∧
    (3 < 4 ∧ 15 < 16 ∧ 255 < 256 ∧ 1 < 2 ∧ 63 < 255 - 191 ∧ 0 < 1) ∧
    MaySend .primary .surveyStart State.reset ∧ MaySend .primary .surveyStop State.reset ∧
    MaySend .primary .binsClear State.reset ∧ MaySend .primary .surveySetup (surveying .sweep) := by
  refine ⟨fun _ => rfl, ?_, by rw [jobAt_surveying]; rfl, ?_, by decide, by decide, fun _ => rfl, fun _ => rfl,
    fun _ => rfl, fun _ => rfl⟩
  · intro j r
    rw [jobAt_reset]
    simp
  · intro r
    rw [jobAt_surveying]
    simp

theorem witness_SampleFiling :
    (15 ≤ 15 ∧ jobAt (surveying (.watch (-60))) 3 = .running ⟨15, 255, 1, .watch (-60)⟩ ∧
      JobsInOrder (surveying (.watch (-60)))) ∧
    (∀ j r, jobAt (surveying .sweep) j = .running r → r.receiver ≠ 14) ∧ 15 < 16 := by
  refine ⟨⟨by decide, by rw [jobAt_surveying]; rfl, jobs_surveying _⟩, ?_, by decide⟩
  intro j r h
  rw [jobAt_surveying] at h
  split at h
  · cases h; decide
  · cases h

/-- Entry 60 is NOTED with ID 9. -/
def noted : State := setEntry 60 (.noted ⟨9, .mic, some 5, some .retired⟩) State.reset

theorem entry_noted (j : Nat) :
    entry noted j = if 60 = j then .noted ⟨9, .mic, some 5, some .retired⟩ else .vacant := by
  simp [noted, entry_setEntry, entry_reset]

theorem witness_LinkNoteAndSet :
    MaySend .primary .linkNote noted ∧ 60 ≤ 63 ∧
    (entry noted 60 = .noted ⟨9, .mic, some 5, some .retired⟩ ∧ ∀ j, j ≠ 60 → entryIdent (entry noted j) ≠ some 9) ∧
    ((entry noted 63).isEnrolled = false ∧ entryIdent (entry noted 63) ≠ some 8 ∧
      ∀ j, j ≠ 63 → entryIdent (entry noted j) ≠ some 8) ∧
    ((entry noted 63).isEnrolled = false ∧ entryIdent (entry noted 60) = some 9) ∧
    (entry live 3 = .enrolled camera ∧ MaySend .primary .linkSet live ∧
      ∀ a, (⟨none, some 5, some 5, some 1, none⟩ : LinkParams).autoRetune = some a → a ≤ 1) ∧
    (63 < 64 ∧ 1 < 2 ∧ (⟨none, none, none, some 2, none⟩ : LinkParams).autoRetune = some 2) ∧
    (entry live 63).isEnrolled = false := by
  simp only [entry_noted]
  refine ⟨fun _ => rfl, by decide, ⟨rfl, ?_⟩, ⟨rfl, by decide, ?_⟩, by decide, ⟨by decide, fun _ => rfl, by simp⟩,
    by decide, by decide⟩
  · intro j hj
    simp [Ne.symm hj, entryIdent]
  · intro j _
    split <;> simp [entryIdent]

theorem witness_LinkEnroll :
    let s := setRecord 95 (.reserved carrier) live
    MaySend .primary .linkEnroll s ∧ (entry s 63).isEnrolled = false ∧
    (∀ j, j ≠ 63 → entryIdent (entry s j) ≠ some 9) ∧ (∀ j, j ≠ 63 → cameraOutput s j ≠ some 127) ∧
    planRecord s 95 = .reserved carrier := by
  refine ⟨fun _ => rfl, by decide, ?_, ?_, by decide⟩
  · intro j _
    simp only [entry_setRecord, entry_live]
    split <;> simp [entryIdent, camera]
  · intro j _
    simp only [cameraOutput, entry_setRecord, entry_live]
    split <;> simp_all [camera]
    rename_i h
    split at h <;> simp_all
    cases h
    simp

/-- Key 31 is active and names link 63, so that it holds a role there after the seeding. -/
theorem witness_LinkEnroll_role :
    let s := setKey 31 { Key.reset with destinations := [3, 63], active := true } live
    (keyAt s 31).active = true ∧ 63 ∈ (keyAt s 31).destinations ∧ (keyAt s 0).active = false := by decide

/-- The refusals of LINK.ENROLL in their order: each condition alone, those before it false. -/
theorem witness_LinkEnroll_refused :
    let s := setRecord 95 (.reserved carrier) live
    (63 < 64 ∧ 95 < 96 ∧ 1 < 2 ∧ 127 < 128 ∧ (⟨none, none, none, some 2, none⟩ : LinkParams).autoRetune = some 2) ∧
    (entry s 3).isEnrolled = true ∧
    ((entry s 63).isEnrolled = false ∧ 3 ≠ 63 ∧ entryIdent (entry s 3) = some 77 ∧ cameraOutput s 3 = some 33) ∧
    ∀ c, planRecord s 94 ≠ .reserved c := by
  refine ⟨by decide, by decide, by decide, ?_⟩
  intro c
  rw [planRecord_setRecord, planRecord_live]
  simp

/-- The search of the link to be retired runs, another link's search waits. -/
theorem witness_RetireAndErase_starts :
    (entry waitingBehind 3 = .enrolled { camera with phase := .seeking record .inEngine } ∧
      planRecord waitingBehind 4 = .active carrier 3 ∧
      waitingBehind.engine.running = some ⟨⟨.internal 3, .find search⟩, 0, false⟩ ∧ 3 ∉ waitingBehind.retune.waitList) ∧
    (63 < 64 ∧ (entry noted 60).isEnrolled = false ∧ entry noted 63 = .vacant) := by decide

/-- A MIC has no return audio output. -/
theorem witness_RetireAndErase_mic :
    let s := oneLink 63 { camera with role := .mic } 95 (.active carrier 63)
    entry s 63 = .enrolled { camera with role := .mic } ∧ planRecord s 95 = .active carrier 63 ∧
    cameraOutput s 63 = none := by decide

theorem witness_RetireAndErase :
    (entry ordered 3 = .enrolled { camera with phase := .ordered record 0 } ∧ MaySend .primary .linkRetire ordered ∧
      planRecord ordered 4 = .active carrier 3 ∧ planRecord ordered 0 = .handover ⟨94020, 20, 0⟩ 3) ∧
    (entry live 3 = .enrolled camera ∧ planRecord live 4 = .active carrier 3 ∧ camera.phase = .none) ∧
    entry noted 60 = .noted ⟨9, .mic, some 5, some .retired⟩ :=
  ⟨⟨by decide, fun _ => rfl, by decide, by decide⟩, by decide, by decide⟩

theorem witness_LinkProbe :
    (IdentsDistinct live ∧ entryIdent (entry live 3) = some 77) ∧ ∀ i, entryIdent (entry live i) ≠ some 78 := by
  refine ⟨⟨idents_live, by decide⟩, ?_⟩
  intro i
  rw [entry_live]
  split <;> simp [entryIdent, camera]

theorem witness_DirectoryRequests :
    MaySend .primary .directoryPin State.reset ∧ MaySend .primary .directoryAdmit State.reset ∧
    (48 ≤ 48 ∧ 48 < 49) ∧ (63 ≤ 63 ∧ 63 < 64) ∧ 1 ≤ 1 ∧ 1 < 2 := ⟨fun _ => rfl, fun _ => rfl, by decide, by decide, by decide, by decide⟩

/-- Auto-admit is on, and entry 63 is the first that the rover claims. -/
def admitting : State := { noted with dir.autoAdmit := true }

/-- Every entry is ENROLLED. -/
def fullDirectory : State :=
  { State.reset with dir.autoAdmit := true, dir.entries := rewrite (fun i _ => .enrolled { camera with ident := i }) State.reset.dir.entries }

theorem entry_admitting (i : Nat) : entry admitting i = entry noted i := rfl

theorem entry_fullDirectory (i : Nat) :
    entry fullDirectory i = if i < 64 then .enrolled { camera with ident := i } else .vacant := by
  simp only [entry, fullDirectory, look_rewrite]
  rfl

theorem witness_ReportsCaptured :
    (report 5 5).malformed = false ∧
    (IdentsDistinct noted ∧ entry noted 60 = .noted ⟨9, .mic, some 5, some .retired⟩) ∧
    ((∀ i, entryIdent (entry noted i) ≠ some 77) ∧ noted.dir.autoAdmit = false) ∧
    ((∀ i, entryIdent (entry admitting i) ≠ some 77) ∧ RoverInRange admitting ∧
      (entry admitting 63).isEnrolled = false ∧ admitting.dir.pinBound ≤ 63 ∧
      ∀ j, admitting.dir.pinBound ≤ j → j ≤ 63 → (entry admitting j).isEnrolled = false →
        (63 ≤ admitting.dir.rover → admitting.dir.rover < j ∨ j ≤ 63) ∧
        (admitting.dir.rover < 63 → admitting.dir.rover < j ∧ j ≤ 63)) ∧
    ((∀ j, entryIdent (entry fullDirectory j) ≠ some 77) ∧ RoverInRange fullDirectory ∧
      ∀ j, fullDirectory.dir.pinBound ≤ j → j ≤ 63 → (entry fullDirectory j).isEnrolled = true) ∧
    (IdentsDistinct live ∧ entry live 3 = .enrolled camera ∧ liesOn 121179 (planRecord live 4) = false) := by
  have hn (i : Nat) : entryIdent (entry noted i) ≠ some 77 := by
    rw [entry_noted]
    split <;> simp [entryIdent]
  refine ⟨by decide, ⟨?_, entry_noted 60⟩, ⟨hn, rfl⟩, ⟨?_, ?_, ?_, by decide, ?_⟩, ⟨?_, ?_, ?_⟩,
    idents_live, entry_live 3, by decide⟩
  · intro i j x
    rw [entry_noted, entry_noted]
    split <;> split <;> simp [entryIdent]
    omega
  · intro i
    rw [entry_admitting]
    exact hn i
  · exact ⟨by decide, by decide, by decide⟩
  · rw [entry_admitting, entry_noted]
    rfl
  · intro j _ hj _
    exact ⟨fun _ => .inr hj, fun h => absurd h (by decide)⟩
  · intro j
    rw [entry_fullDirectory]
    split <;> simp [entryIdent]
    omega
  · exact ⟨by decide, by decide, by decide⟩
  · intro j _ hj
    rw [entry_fullDirectory, if_pos (by omega)]
    rfl

theorem witness_ReportsOnTheCarrier :
    (report 121220 12).malformed = false ∧ IdentsDistinct live ∧ entry live 3 = .enrolled camera ∧
    camera.ident = (report 121220 12).ident ∧ (∀ r n, camera.phase ≠ .ordered r n) ∧
    liesOn (report 121220 12).freq (planRecord live 4) = true ∧ camera.settings.floor ≤ min 63 12 :=
  ⟨by decide, idents_live, entry_live 3, rfl, by simp [camera], by decide, by decide⟩

theorem entry_ordered (j : Nat) :
    entry ordered j = if 3 = j then .enrolled { camera with phase := .ordered record 0 } else .vacant :=
  entry_oneLink _ _ 4 (.active carrier 3) _ (by decide)

theorem idents_ordered : IdentsDistinct ordered := by
  intro i j x
  rw [entry_ordered, entry_ordered]
  split <;> split <;> simp [entryIdent]
  omega

/-- A link in ORDERED: a report on its old carrier, and a weak one on the new. -/
theorem witness_ReportsOnTheCarrier_ordered :
    (report 121220 0).malformed = false ∧ IdentsDistinct ordered ∧
    entry ordered 3 = .enrolled { camera with phase := .ordered record 0 } ∧
    (liesOn 121220 (planRecord ordered 0) = false ∧ liesOn 121220 (planRecord ordered 4) = true) ∧
    (liesOn 94040 (planRecord ordered 0) = true ∧ min 63 11 < camera.settings.floor) :=
  ⟨by decide, idents_ordered, entry_ordered 3, by decide, by decide⟩

theorem witness_RetuneCompletes :
    (report 94040 12).malformed = false ∧ IdentsDistinct ordered ∧
    entry ordered 3 = .enrolled { camera with phase := .ordered record 0 } ∧
    planRecord ordered 4 = .active carrier 3 ∧ planRecord ordered 0 = .handover ⟨94020, 20, 0⟩ 3 ∧
    liesOn 94040 (planRecord ordered 0) = true ∧ camera.settings.floor ≤ min 63 12 :=
  ⟨by decide, idents_ordered, entry_ordered 3, by decide, by decide, by decide, by decide⟩

/-- A link that was LOST and comes on the air on its new carrier, without an echo. -/
theorem witness_RetuneCompletes_lost :
    let s := setEntry 3 (.enrolled { camera with phase := .ordered record 0, presence := .lost }) ordered
    entry s 3 = .enrolled { camera with phase := .ordered record 0, presence := .lost } ∧ IdentsDistinct s ∧
    planRecord s 4 = .active carrier 3 ∧ planRecord s 0 = .handover ⟨94020, 20, 0⟩ 3 ∧ isCamera s 3 = true ∧
    reportEcho (report 94040 12) = none ∧ 3 ∉ s.retune.seekOrder ∧ 3 ∉ s.retune.waitList := by
  refine ⟨by decide, ?_, by decide, by decide, by decide, by decide, by decide, by decide⟩
  intro i j x
  rw [entry_setEntry, entry_setEntry, entry_ordered, entry_ordered]
  split <;> split <;> (repeat' split) <;> simp [entryIdent] <;> omega

/-- R84, R85, R127: the LOST camera's completing report raises PRESENCE and sets CUE pending. -/
theorem test_completion_of_a_lost_camera :
    let t := after (.heard (report 94040 12))
      (setEntry 3 (.enrolled { camera with phase := .ordered record 0, presence := .lost }) ordered)
    (t.ret.cuePending, causeIsSet .presence t, causeIsSet .retuneEnd t) = ([3], true, true) := by decide

theorem witness_EchoComparison :
    (entry live 3 = .enrolled camera ∧ camera.role = .camera 33 0) ∧ heldCue live 3 = ⟨.off, false, false⟩ ∧
    cueOnTheWay live 3 = false ∧ cueOnTheWay { live with ret.cuePending := [3] } 3 = true :=
  ⟨⟨entry_live 3, rfl⟩, by decide, by decide, by decide⟩

/-- Reports with an echo of PROGRAM and talk, on the carrier and on a new carrier. -/
theorem witness_EchoComparison_heard :
    (let r : HeardReport := { report 121220 12 with echo := some 10 }
     r.malformed = false ∧ r.kind = 0 ∧ IdentsDistinct live ∧ entry live 3 = .enrolled camera ∧ camera.ident = r.ident ∧
       r.echo = some (2 + 0 + 8) ∧ liesOn r.freq (planRecord live 4) = true) ∧
    ({ report 94040 12 with echo := some 10 }.malformed = false ∧ IdentsDistinct ordered ∧
      entry ordered 3 = .enrolled { camera with phase := .ordered record 0 } ∧ liesOn 94040 (planRecord ordered 0) = true) :=
  ⟨⟨by decide, rfl, idents_live, entry_live 3, rfl, rfl, by decide⟩, by decide, idents_ordered, entry_ordered 3,
    by decide⟩

theorem witness_PresenceExpiries :
    (entry live 3 = .enrolled camera ∧ camera.presence = .live ∧ camera.lastGood = some 0#32 ∧
      camera.lastHeard = some 0#32 ∧ reached (0#32 + BitVec.ofNat 32 300) 300#32 = true ∧
      reached (0#32 + BitVec.ofNat 32 2000) 1999#32 = false ∧ reached (0#32 + BitVec.ofNat 32 2000) 2000#32 = true) ∧
    (∃ e : EnrolledLink, entry (oneLink 63 e 95 (.active carrier 63)) 63 = .enrolled e ∧ e.presence = .fading ∧
      e.lastHeard = some 0#32) ∧
    (∃ e : EnrolledLink, entry (oneLink 63 e 95 (.active carrier 63)) 63 = .enrolled e ∧ e.delayTimer = some 0#32 ∧
      e.phase = .none ∧ reached 0#32 (oneLink 63 e 95 (.active carrier 63)).clock = true ∧
      internalCount (oneLink 63 e 95 (.active carrier 63)) < 2) :=
  ⟨⟨entry_live 3, rfl, rfl, rfl, by decide, by decide, by decide⟩,
    ⟨{ camera with presence := .fading }, entry_oneLink _ _ _ _ _ (by decide), rfl, rfl⟩,
    ⟨{ camera with presence := .fading, delayTimer := some 0 }, entry_oneLink _ _ _ _ _ (by decide), rfl, rfl,
      by decide, by decide⟩⟩

/-- Two internal searches are in the engine. -/
def fullEngine : State :=
  { live with engine.queue := [⟨.internal 0, .find search⟩, ⟨.internal 1, .find search⟩] }

theorem witness_fullEngine : entry fullEngine 3 = .enrolled camera ∧ 2 ≤ internalCount fullEngine :=
  ⟨entry_live 3, by decide⟩

theorem witness_DeadlinesAcrossTheWrap : 60000 ≤ 60000 ∧ 59999 < 60000 ∧ 60000 < 60000 + 2 ^ 31 := by decide

theorem entry_seeking (j : Nat) :
    entry seeking j = if 3 = j then .enrolled { camera with phase := .seeking record .inEngine } else .vacant :=
  entry_oneLink _ _ 4 (.active carrier 3) _ (by decide)

theorem witness_TimerAndRetuneRequests :
    entry live 3 = .enrolled camera ∧ (entry live 63).isEnrolled = false ∧ MaySend .primary .retuneLimit live ∧
    entry seeking 3 = .enrolled { camera with phase := .seeking record .inEngine } ∧ 63 < 64 :=
  ⟨entry_live 3, by rw [entry_live]; rfl, fun _ => rfl, entry_seeking 3, by decide⟩

/-- Links in phase NONE stand on neither list of the retune controller, and a link that waits has no search running. -/
theorem witness_RetuneRequests_lists :
    (3 ∉ live.retune.seekOrder ∧ 3 ∉ live.retune.waitList) ∧
    entry waitingBehind 63 = .enrolled { camera with ident := 78, carrier := 95, phase := .seeking record .waiting } := by
  decide

theorem witness_RetuneRequests :
    let s := setRecord 95 (.reserved carrier) live
    (MaySend .primary .linkRetune s ∧ entry s 3 = .enrolled camera ∧ camera.phase = .none ∧ 1 ≤ 1 ∧
      planRecord s 95 = .reserved carrier) ∧
    (∀ c, planRecord s 0 ≠ .reserved c) ∧
    entry ordered 3 = .enrolled { camera with phase := .ordered record 0 } ∧
    (63 < 64 ∧ 95 < 96 ∧ 96 ≠ 255 ∧ 1 < 2) ∧ (entry s 63).isEnrolled = false := by
  refine ⟨⟨fun _ => rfl, entry_live 3, rfl, by decide, by decide⟩, ?_, entry_ordered 3, by decide, by decide⟩
  intro c
  rw [planRecord_setRecord, planRecord_live]
  simp

theorem witness_RetuneAborts :
    (entry ordered 3 = .enrolled { camera with phase := .ordered record 0 } ∧ MaySend .primary .linkHalt ordered ∧
      planRecord ordered 0 = .handover ⟨94020, 20, 0⟩ 3 ∧
      reached record.limit { ordered with clock := 5000 }.clock = true) ∧
    (entry seeking 3 = .enrolled { camera with phase := .seeking record .inEngine } ∧
      seeking.engine.running = some ⟨⟨.internal 3, .find search⟩, 0, false⟩ ∧ 3 ∉ seeking.retune.waitList ∧
      reached record.limit { seeking with clock := 5000 }.clock = true) ∧
    (63 < 64 ∧ (entry live 63).isEnrolled = false ∧ entry live 3 = .enrolled camera ∧ camera.phase = .none) :=
  ⟨⟨entry_ordered 3, fun _ => rfl, by decide, by decide⟩, ⟨entry_seeking 3, rfl, by decide, by decide⟩, by decide,
    by decide, entry_live 3, rfl⟩

theorem seeksAt_seeking (l : Nat) (place : SearchPlace) : SeeksAt seeking l place ↔ l = 3 ∧ place = .inEngine := by
  constructor
  · rintro ⟨e, r, he, hp⟩
    rw [entry_seeking] at he
    split at he
    · next hl =>
      cases he
      cases hp
      exact ⟨hl.symm, rfl⟩
    · cases he
  · rintro ⟨rfl, rfl⟩
    exact ⟨_, _, entry_seeking 3, rfl⟩

/-- The law of the searches in a state with a search. -/
theorem searchLaw_seeking : SearchLaw seeking := by
  refine ⟨⟨?_, by decide, by decide, ?_, ?_⟩, (by decide : internalCount seeking ≤ 2), fun _ => rfl⟩
  · intro r hr _
    have he : engineRequests seeking = [⟨.internal 3, .find search⟩] := by decide
    have : r = ⟨.internal 3, .find search⟩ := by simpa [he] using hr
    exact ⟨search, by rw [this]⟩
  · intro l
    rw [seeksAt_seeking]
    have : searchingLinks seeking = [3] := by decide
    simp [this]
  · intro l
    rw [seeksAt_seeking]
    have : seeking.retune.waitList = [] := rfl
    simp [this]

theorem inOrder_seeking : SeekingInOrder seeking := by
  refine ⟨by decide, ?_, by decide⟩
  intro l
  simp only [seeksAt_seeking]
  have : seeking.retune.seekOrder = [3] := rfl
  simp [this]

theorem witness_CueOfALink : (entry live 63).isEnrolled = false ∧ entry live 3 = .enrolled camera :=
  ⟨by rw [entry_live]; rfl, entry_live 3⟩

theorem cues_live : CuesComputed live := by
  unfold CuesComputed
  decide

theorem witness_TallyWrites :
    CuesComputed live ∧ (63 ≤ 63 ∧ 7 ≤ 7) ∧ MaySend .primary .tallyMap live ∧ MaySend .primary .tallyOverride live ∧
    entry live 3 = .enrolled camera ∧ 3 ≤ 3 ∧ (63 < 64 ∧ 64 ≠ 255 ∧ 3 < 4) ∧ (entry live 63).isEnrolled = false :=
  ⟨cues_live, by decide, fun _ => rfl, fun _ => rfl, entry_live 3, by decide, by decide, by decide⟩

theorem witness_LampLinesAndTallyReads :
    MaySend .primary .lampSet live ∧ (15 ≤ 15 ∧ 3 ≤ 3 ∧ 2 ≤ 2 ∧ 1 ≤ 1) ∧
    (15 < 16 ∧ 64 ≠ 255 ∧ 3 < 4 ∧ 2 < 3 ∧ 1 < 2 ∧ 63 < 64) ∧
    (CuesComputed live ∧ (entry live 63).isEnrolled = false ∧ entry live 3 = .enrolled camera ∧
      camera.role = .camera 33 0) ∧
    (lampLine live 0).drive = .off ∧
    (lampLine (after (.lampSet .primary 15 255 3 1 1) live) 15).drive = .pushPull ∧
    (lampLine (after (.lampSet .primary 15 63 3 2 1) live) 15).drive = .openDrain :=
  ⟨fun _ => rfl, by decide, by decide, ⟨cues_live, by rw [entry_live]; rfl, entry_live 3, rfl⟩, by decide, by decide,
    by decide⟩

/-- TALLY.GET of a VACANT, a NOTED and a MIC's link. -/
theorem witness_LampLinesAndTallyReads_links :
    entry live 63 = .vacant ∧
    entry (setEntry 63 (.noted ⟨5, .mic, none, none⟩) live) 63 = .noted ⟨5, .mic, none, none⟩ ∧
    entry (setEntry 3 (.enrolled { camera with role := .mic }) live) 3 = .enrolled { camera with role := .mic } := by
  decide

/-- Key 31 in a given mode holds the feed of camera link 3. -/
def talking (mode : KeyMode) : State :=
  setArbiter 3 { Arbiter.reset with holder := some 31 }
    (setKey 31 { Key.reset with mode := mode, destinations := [3], active := true, status := .full } live)

theorem keyAt_talking (mode : KeyMode) (k : Nat) :
    keyAt (talking mode) k = if 31 = k then { Key.reset with mode := mode, destinations := [3], active := true, status := .full }
      else keyAt live k := by
  simp [talking, keyAt_setKey]

theorem arbiterAt_live (l : Nat) : arbiterAt live l = .reset := by
  have h := look_replicate (n := 64) Arbiter.reset l
  have h' : arbiterAt live l = look (Vector.replicate 64 Arbiter.reset) l := rfl
  rw [h', h]
  split <;> rfl

theorem arbiterAt_talking (mode : KeyMode) (l : Nat) :
    arbiterAt (talking mode) l = if 3 = l then { Arbiter.reset with holder := some 31 } else .reset := by
  simp [talking, arbiterAt_setArbiter, arbiterAt_live]

/-- The law of the feeds in a state with a role. -/
theorem feedLaw_talking (mode : KeyMode) : FeedLaw (talking mode) := by
  constructor
  · intro l
    rw [arbiterAt_talking]
    split <;> simp [Arbiter.reset, roleKeys]
  · intro l k h
    rw [arbiterAt_talking] at h
    split at h
    · next hl =>
      subst hl
      have hk : 31 = k := by simpa [hasRole, waits, Arbiter.reset] using h
      subst hk
      rw [keyAt_talking]
      exact ⟨rfl, by cases mode <;> decide, by simp⟩
    · simp [hasRole, waits, Arbiter.reset] at h

theorem feedLaw_live : FeedLaw live := by
  constructor
  · intro l
    rw [arbiterAt_live]
    simp [Arbiter.reset, roleKeys]
  · intro l k h
    rw [arbiterAt_live] at h
    simp [hasRole, waits, Arbiter.reset] at h

theorem witness_TalkbackRequests :
    (MaySend .primary .keySet live ∧ 31 ≤ 31 ∧ 127 ≤ 127 ∧ [63, 0].Nodup ∧ (∀ d ∈ [63, 0], d ≤ 63) ∧
      (keyAt live 31).active = false) ∧
    (keyAt (talking .latch) 31).active = true ∧ MaySend .primary .feedDefault live ∧
    (let s : State := { live with talk.orderInFlight := some ⟨127, .mute, 50⟩ }
     s.talk.orderInFlight = some ⟨127, .mute, 50⟩ ∧ (⟨127, .mute, 50⟩ : FlyingOrder).output ≠ 126) ∧
    (31 < 32 ∧ 1 < 2 ∧ 127 < 128 ∧ 128 ≠ 255 ∧ 63 < 64 ∧ ¬ [5, 5].Nodup ∧ 64 < (List.range 65).length) :=
  ⟨⟨fun _ => rfl, by decide, by decide, by decide, by decide, by decide⟩, by rw [keyAt_talking]; rfl, fun _ => rfl,
    ⟨rfl, by decide⟩, by decide⟩

theorem outputs_live : OutputsDistinct live := by
  intro i j o hi hj
  simp only [cameraOutput, entry_live] at hi hj
  by_cases h : 3 = i <;> by_cases h' : 3 = j <;> simp_all

theorem outputs_talking (mode : KeyMode) : OutputsDistinct (talking mode) := outputs_live

/-- Key 31 inactive, active in mode LATCH and active in mode MOMENTARY, with camera link 3 as eligible destination. -/
theorem witness_KeyEvents :
    (31 ≤ 31 ∧ 31 < 32) ∧ (FeedLaw live ∧ OutputsDistinct live ∧ (keyAt live 31).active = false) ∧
    (∀ mode, FeedLaw (talking mode) ∧ OutputsDistinct (talking mode) ∧ (keyAt (talking mode) 31).active = true ∧
      (keyAt (talking mode) 31).mode = mode) ∧
    (3 ∈ eligibleDestinations (talking .latch) 31 ∧ cameraOutput (talking .latch) 3 = some 33) ∧
    MaySend .primary .keyPress live ∧ MaySend .primary .keyLift live :=
  ⟨by decide, ⟨feedLaw_live, outputs_live, by decide⟩,
    fun mode => ⟨feedLaw_talking mode, outputs_talking mode, by simp [keyAt_talking], by simp [keyAt_talking]⟩,
    by decide, fun _ => rfl, fun _ => rfl⟩

theorem witness_ArbiterSteps :
    cameraOutput live 3 = some 33 ∧
    ((arbiterAt live 3).holder = none ∧ hasRole 0 (arbiterAt live 3) = false) ∧
    (hasRole 31 (arbiterAt (talking .latch) 3) = true ∧ hasRole 0 (arbiterAt (talking .latch) 3) = false) ∧
    (let s := setKey 0 { Key.reset with level := 0 } (talking .latch)
     (keyAt s 0).level < (keyAt s 31).level ∧ (keyAt s 31).locked = false ∧ (keyAt s 31).level ≤ (keyAt s 1).level) ∧
    (let a : Arbiter := { Arbiter.reset with holder := some 9, saved := [⟨5, 4⟩], waiting := [⟨6, 4⟩, ⟨7, 7⟩] }
     (∀ w ∈ a.waiting, 4 ≤ w.level) ∧
      -- withdrawal: key 5 is saved, key 7 pending, key 31 has no role
      (a.holder ≠ some 5 ∧ (∃ w ∈ a.saved, w.key = 5)) ∧
      (a.holder ≠ some 7 ∧ (∀ w ∈ a.saved, w.key ≠ 7) ∧ ∃ w ∈ a.waiting, w.key = 7) ∧ hasRole 31 a = false) ∧
    (arbiterAt (talking .latch) 3).holder = some 31 ∧ cameraOutput (talking .latch) 3 = some 33 ∧
    (let a : Arbiter := { Arbiter.reset with
      holder := some 9, saved := [⟨5, 5⟩], waiting := [⟨6, 4⟩, ⟨31, 4⟩], lastGranted := put Arbiter.reset.lastGranted 4 (some 6) }
     (∀ x ∈ a.waiting, 4 ≤ x.level) ∧ (a.waiting.map Waiter.key).Pairwise (· < ·) ∧ look a.lastGranted 4 = some 6 ∧
      ∀ x ∈ a.waiting, x.level = 4 → (6 < 31 ∧ (x.key ≤ 6 ∨ 31 ≤ x.key))) := by
  refine ⟨by decide, by decide, by decide, by decide, by decide, by decide, by decide, by decide⟩

theorem witness_TalkbackPorts :
    (let s := setKey 31 { Key.reset with statusPending := true } State.reset
     s.talk.sending = none ∧ (keyAt s 31).statusPending = true ∧ ∀ j < 31, (keyAt s j).statusPending = false) ∧
    (let s := placeOrder 127 .mute State.reset
     s.talk.orderInFlight = none ∧ look s.talk.orders 127 = some .mute ∧ s.talk.lastServed = none) ∧
    (let s : State := { State.reset with talk.orderInFlight := some ⟨127, .mute, 50⟩, clock := 50 }
     s.talk.orderInFlight = some ⟨127, .mute, 50⟩ ∧ reached 50#32 s.clock = true ∧ ¬ ((127 : Nat) = 0 ∧ MatrixInput.mute = .mute)) := by
  decide

theorem orders_one (x : Nat) (h : (look (placeOrder 127 .mute State.reset).talk.orders x).isSome = true) : 127 ≤ x := by
  simp only [placeOrder, look_put] at h
  split at h
  · omega
  · have h' : look State.reset.talk.orders x = none := by
      have hr := look_replicate (n := 128) (none : Option MatrixInput) x
      have : look State.reset.talk.orders x = look (Vector.replicate 128 none) x := rfl
      rw [this, hr]
      split <;> rfl
    rw [h'] at h
    simp at h

/-- Sixteen entries wait in the PASS queue. -/
def fullQueue : State := { live with ret.passQueue := List.replicate 16 ⟨3, [0#8]⟩ }

theorem witness_ReturnRequests :
    MaySend .primary .returnPass live ∧ isCamera live 3 = true ∧ live.ret.passQueue.length < 16 ∧
    isCamera live 63 = false ∧ (isCamera fullQueue 3 = true ∧ 16 ≤ fullQueue.ret.passQueue.length) :=
  ⟨fun _ => rfl, by decide, by decide, by decide, by decide⟩

theorem witness_ReturnSendsAndEnds :
    (ordered.ret.inFlight = none ∧ entry ordered 3 = .enrolled { camera with phase := .ordered record 0 } ∧
      (planRecord ordered 0).carrier = some ⟨94020, 20, 0⟩ ∧ IndexSet 64 [3] ∧ IndexSet 64 [3, 63] ∧ 3 ∈ [3, 63]) ∧
    (fullQueue.ret.inFlight = none ∧ fullQueue.ret.tunePending = [] ∧ fullQueue.ret.cuePending = [] ∧
      ∃ rest, fullQueue.ret.passQueue = ⟨3, [0#8]⟩ :: rest) ∧
    (let s : State := { live with ret.inFlight := some ⟨3, 255, .cue .allOff, 20⟩, clock := 20 }
     s.ret.inFlight = some ⟨3, 255, .cue .allOff, 20⟩ ∧ reached 20#32 s.clock = true ∧ (255 : Nat) ≠ 0) := by
  refine ⟨⟨rfl, entry_ordered 3, by decide, ⟨by decide, by decide⟩, ⟨by decide, by decide⟩, by decide⟩,
    ⟨rfl, rfl, rfl, List.replicate 15 ⟨3, [0#8]⟩, rfl⟩, rfl, by decide, by decide⟩

/-- The service port owns the authority. -/
def serviceOwned : State := after .lineBreak State.reset

theorem witness_AuthorityYield :
    serviceOwned.ctl.owner = .service ∧ State.reset.ctl.owner = .primary ∧
    (∃ t, exec .hardwareReset serviceOwned = .next t) ∧ ∃ t, exec (.runRestart .service) serviceOwned = .next t :=
  ⟨rfl, rfl, ⟨_, rfl⟩, ⟨_, rfl⟩⟩

theorem witness_CausesAndFaults :
    (2047#16).toNat < 2048 ∧ 2048 ≤ (2048#16).toNat ∧ MaySend .primary .causeMask State.reset :=
  ⟨by decide, by decide, fun _ => rfl⟩

theorem witness_FramesAndTransactions :
    (2#8 ≠ 0#8 ∧ decodeFrame .primary [2#8, 57#8, 0#8] = none) ∧
    ([57#8].length = (1#8).toNat ∧ decodeFrame .service [1#8, 57#8] = none) ∧
    (([] : List Byte).length = (0#8).toNat ∧ decodeFrame .service [0#8] = none) := by decide

/-- A partial frame and a partial keypanel message are held, their gap deadlines reached. -/
def partials : State :=
  { State.reset with
    clock := 20, ctl.servicePartial := some ⟨[2#8], 20⟩, ports.keypanel := some ⟨[0x44#8], 20⟩
    ctl.serviceSending := some notReadyResponse }

theorem witness_LineEvents :
    (State.reset.ctl.owner = .primary ∧ serviceOwned.ctl.owner = .service) ∧
    (partials.ctl.servicePartial = some ⟨[2#8], 20⟩ ∧ reached 20#32 partials.clock = true ∧
      partials.ctl.serviceSending = some notReadyResponse ∧ portPartial partials .keypanel = some ⟨[0x44#8], 20⟩ ∧
      portPartial partials .ret = none) ∧
    messageMalformed .receiver [0x53#8, 16#8, 0#8] = true := by decide

theorem witness_WarmRestart :
    MaySend .primary .runRestart live ∧ OutputsDistinct live ∧ cameraOutput live 3 = some 33 ∧ 33 ≤ 127 ∧
    (∀ l, cameraOutput live l ≠ some 127) := by
  refine ⟨fun _ => rfl, outputs_live, by decide, by decide, ?_⟩
  intro l
  simp only [cameraOutput, entry_live]
  by_cases h : 3 = l <;> simp [h, camera]

theorem witness_SettingsHaveOneWriter :
    exec .engineStart live = .next (after .engineStart live) ∧ Instr.engineStart ≠ .hardwareReset ∧
    ∀ p r, requestParts .engineStart ≠ some (p, .groupSet, r) := ⟨rfl, by decide, by simp [requestParts]⟩

theorem witness_AuthorityAndCausesHold :
    (exec .lineBreak State.reset = .next serviceOwned ∧ serviceOwned.ctl.owner ≠ State.reset.ctl.owner) ∧
    (exec .engineStart serviceOwned = .next (after .engineStart serviceOwned) ∧
      causeIsSet .authority serviceOwned = true) := ⟨⟨rfl, by decide⟩, rfl, by decide⟩

theorem witness_LinkChangesAreReported :
    let s : State := { live with clock := 2000 }
    exec (.fadeExpiry 3) s = .next (after (.fadeExpiry 3) s) ∧ entry s 3 = .enrolled camera ∧
    entry (after (.fadeExpiry 3) s) 3 = .enrolled { camera with presence := .lost } ∧
    entry (after (.linkHalt .primary 3) ordered) 3 = .enrolled { camera with lastResult := .halted } ∧
    ∀ p, Instr.fadeExpiry 3 ≠ .runRestart p := by
  refine ⟨rfl, entry_live 3, by decide, by decide, by simp⟩

/-- Group 0 with two members, and a survey job that runs. -/
theorem witness_StepsKeepGroupsAndJobs :
    (GroupsWithinCapacity State.reset ∧ ∃ t, step State.reset = .next t) ∧
    (JobsInOrder (surveying .sweep) ∧ ∃ t, step (surveying .sweep) = .next t) :=
  ⟨⟨reset_groups, _, rfl⟩, jobs_surveying _, _, rfl⟩

theorem owners_live : OwnershipBinding live := by
  constructor
  · intro l e h
    rw [entry_live] at h
    split at h
    · next hl =>
      cases h
      subst hl
      exact ⟨⟨carrier, by decide⟩, by simp [camera]⟩
    · cases h
  · intro i c l
    rw [planRecord_live]
    refine ⟨fun h => ?_, fun h => ?_⟩
    · split at h
      · next hi =>
        cases h
        exact ⟨camera, entry_live 3, hi⟩
      · cases h
    · split at h <;> cases h

theorem witness_StepsKeepOwnership : OwnershipBinding live ∧ ∃ t, step live = .next t := ⟨owners_live, _, rfl⟩

theorem witness_StepsKeepDirectory :
    (∃ t, step live = .next t) ∧ IdentsDistinct live ∧ OutputsDistinct live ∧ SettingsInRange live ∧
    RoverInRange live ∧ ChangedSetOrdered live ∧ DelayTimersBelong live := by
  refine ⟨⟨_, rfl⟩, idents_live, outputs_live, ?_, ?_, ?_, ?_⟩
  · intro l e h
    rw [entry_live] at h
    split at h
    · cases h; decide
    · cases h
  · exact ⟨by decide, by decide, by decide⟩
  · exact ⟨by decide, by decide⟩
  · intro l e h
    rw [entry_live] at h
    split at h
    · cases h; decide
    · cases h

theorem witness_StepsKeepSlotsAndReturns :
    (∃ t, step (slotState 3 (.done (.find search) (.find ⟨none, 0, none, false⟩))) = .next t) ∧
    SlotsMatchEngine (slotState 3 (.done (.find search) (.find ⟨none, 0, none, false⟩))) ∧
    ReturnInOrder live ∧ PendingLinksFit { ordered with ret.tunePending := [3] } := by
  refine ⟨⟨_, rfl⟩, ⟨?_, ?_, by decide⟩, ⟨⟨by decide, by decide⟩, ⟨by decide, by decide⟩, by decide, by decide, by decide⟩,
    by decide, by decide⟩
  · intro k job
    rw [slotAt_slotState _ _ _ (by decide)]
    split <;> simp [slotState, setSlot, State.reset, Engine.reset]
  · intro k job
    rw [slotAt_slotState _ _ _ (by decide)]
    split <;> simp [slotState, setSlot, State.reset, Engine.reset]

theorem witness_StepsKeepSearches : SearchLaw seeking ∧ SeekingInOrder seeking ∧ ∃ t, step seeking = .next t :=
  ⟨searchLaw_seeking, inOrder_seeking, _, rfl⟩

theorem keyAt_live (k : Nat) : keyAt live k = if k < 32 then .reset else default := look_replicate _ _

theorem witness_StepsKeepDerivedState :
    (∃ t, step live = .next t) ∧ CuesComputed live ∧ KeysInRange live ∧ StatusesComputed live := by
  refine ⟨⟨_, rfl⟩, cues_live, ?_, ?_⟩
  · intro k
    rw [keyAt_live]
    split <;> exact ⟨by decide, by decide, by decide⟩
  · unfold StatusesComputed
    decide

theorem witness_StepsKeepFeedLaw : FeedLaw (talking .latch) ∧ ∃ t, step (talking .latch) = .next t :=
  ⟨feedLaw_talking _, _, rfl⟩

/-- The running search of link 3 with a given start and stale flag, in a plan changed by `f`. -/
def searching (lower : Nat) (stale : Bool) (f : State → State) : State :=
  let s := f waitingBehind
  { s with engine.running := some ⟨⟨.internal 3, .find { search with lower := lower, limit := 1 }⟩, 0, stale⟩ }

/-- Every record of the plan is taken. -/
def tableFull (s : State) : State := { s with
  plan.records := rewrite (fun _ r => if r = .empty then .foreign ⟨9000, 1, 7⟩ else r) s.plan.records }

/-- Group 0 has 24 more records, and its product checking is off. -/
def groupFull (s : State) : State := { s with
  plan.groups := put s.plan.groups 0 ⟨100, 400, 5, 3, false, false, 20, 4⟩
  plan.records := rewrite (fun i r => if 5 ≤ i ∧ i < 29 then .foreign ⟨9000 + i, 1, 0⟩ else r) s.plan.records }

/-- A search for link 3 of a band that is too narrow waits at the queue's head. -/
def narrow : State := { waitingBehind with
  engine.running := none, engine.queue := [⟨.internal 3, .find { search with upper := 139 }⟩] }

theorem witness_InternalSearchesEnd :
    (∀ s ∈ [searching 100 true id, searching 60 false id, searching 100 false tableFull,
        searching 100 false groupFull, narrow],
      entry s 3 = .enrolled { camera with phase := .seeking record .inEngine } ∧ 3 ∉ s.retune.waitList) ∧
    1 ≤ 0 + 1 ∧ (conflicts (searching 60 false id) none ⟨80, 20, 0⟩ ≠ []) ∧
    (waitingBehind.retune.waitList = [] ++ [63] ∧
      ∀ m ∈ [63], waitingBehind.retune.seekOrder.idxOf 3 ≤ waitingBehind.retune.seekOrder.idxOf m) ∧
    (conflicts (searching 100 false tableFull) none ⟨120, 20, 0⟩ = [] ∧
      ∀ n ≤ 95, planRecord (searching 100 false tableFull) n ≠ .empty) ∧
    (conflicts (searching 100 false groupFull) none ⟨120, 20, 0⟩ = [] ∧
      planRecord (searching 100 false groupFull) 0 = .empty ∧
      (planRecord (searching 100 false groupFull) 4).carrier = some carrier ∧
      24 ≤ memberCount (searching 100 false groupFull) 0) ∧
    (narrow.engine.queue = ⟨.internal 3, .find { search with upper := 139 }⟩ :: [] ∧ 139 < 100 + 20 + 20) := by
  refine ⟨by decide, by decide, by decide, by decide, by decide, by decide, by decide⟩

end Sys2Proof.Tests
end

section
/-! SUPPORT. What most operations leave alone: the settings, the survey, the plan records, and the records that each
link is bound to. One lemma per operation says so, and the claims about every step are read off from them. -/

namespace Sys2Proof.Machine

/-! ## The standing part of a state -/

/-- The settings that requests of their own write (R2, R46, R63, R64, R100, R121, R133, R182), the whole survey, and
the link clock. -/
structure Settings where
  clock : Clock
  groups : Vector BandGroup 8
  survey : Survey
  pinBound : Nat
  autoAdmit : Bool
  retuneLimit : Nat
  tallyMap : Vector (Option Nat) 64
  lamps : Vector LampLine 16
  unmasked : BitVec 11

def settings (s : State) : Settings :=
  ⟨s.clock, s.plan.groups, s.survey, s.dir.pinBound, s.dir.autoAdmit, s.retune.limit, s.tally.map, s.tally.lamps,
   s.ctl.unmasked⟩

/-- The new carrier, which ORDERED alone has (R99). -/
def RetunePhase.newCarrier : RetunePhase → Option Nat
  | .ordered _ n => some n
  | _ => Option.none

@[simp] theorem newCarrier_none : RetunePhase.none.newCarrier = none := rfl
@[simp] theorem newCarrier_seeking (r : RetuneRecord) (p : SearchPlace) :
    (RetunePhase.seeking r p).newCarrier = none := rfl
@[simp] theorem newCarrier_ordered (r : RetuneRecord) (n : Nat) : (RetunePhase.ordered r n).newCarrier = some n := rfl

/-- The plan records that an ENROLLED entry names: its carrier, and in ORDERED its new carrier (R6, R7). -/
def heldRecords : LinkEntry → Option (Nat × Option Nat)
  | .enrolled e => some (e.carrier, e.phase.newCarrier)
  | _ => none

/-- The plan records that each link names. -/
def links (s : State) : Nat → Option (Nat × Option Nat) := fun l => heldRecords (entry s l)

/-- The settings with the plan records and the links bound to them. -/
structure Standing where
  settings : Settings
  records : Vector PlanRecord 96
  links : Nat → Option (Nat × Option Nat)

def standing (s : State) : Standing := ⟨settings s, s.plan.records, links s⟩

section
variable {s t : State}

/-- The standing part is read from the settings, the plan records and the entries. -/
theorem standing_congr (hs : settings t = settings s) (hp : t.plan.records = s.plan.records)
    (hd : t.dir.entries = s.dir.entries) : standing t = standing s := by
  have hl : links t = links s := by funext l; simp only [links, entry, hd]
  simp only [standing, hs, hp, hl]

theorem settings_of_standing (h : standing t = standing s) : settings t = settings s := congrArg Standing.settings h

theorem records_of_standing (h : standing t = standing s) : t.plan.records = s.plan.records :=
  congrArg Standing.records h

theorem links_of_standing (h : standing t = standing s) : links t = links s := congrArg Standing.links h

@[simp] theorem enrolledLink_eq_some {l : Nat} {e : EnrolledLink} :
    enrolledLink s l = some e ↔ entry s l = .enrolled e := by
  unfold enrolledLink
  split <;> simp_all

theorem newCarrierOf_links (l : Nat) : newCarrierOf s l = (links s l).bind Prod.snd := by
  unfold newCarrierOf enrolledLink links
  cases entry s l with
  | enrolled e => cases hp : e.phase <;> simp [heldRecords, hp]
  | _ => rfl

theorem newCarrierOf_enrolled {l : Nat} {e : EnrolledLink} (he : entry s l = .enrolled e) :
    newCarrierOf s l = e.phase.newCarrier := by
  simp [newCarrierOf_links, links, he, heldRecords]

theorem newCarrierOf_standing (h : standing t = standing s) (l : Nat) : newCarrierOf t l = newCarrierOf s l := by
  rw [newCarrierOf_links, newCarrierOf_links, links_of_standing h]

end

/-! ## Operations of every block -/

variable (s : State)

@[simp] theorem standing_raise (c : Cause) : standing (raise c s) = standing s := rfl
@[simp] theorem standing_markChanged (l : Nat) : standing (markChanged l s) = standing s := rfl
@[simp] theorem standing_markStale : standing (markStale s) = standing s := rfl
@[simp] theorem standing_directoryFullFault : standing (directoryFullFault s) = standing s := rfl
@[simp] theorem standing_setTunePending (l : Nat) : standing (setTunePending l s) = standing s := rfl
@[simp] theorem standing_removeTunePending (l : Nat) : standing (removeTunePending l s) = standing s := rfl
@[simp] theorem standing_setCuePending (l : Nat) : standing (setCuePending l s) = standing s := rfl
@[simp] theorem standing_removeCuePending (l : Nat) : standing (removeCuePending l s) = standing s := rfl
@[simp] theorem standing_removePasses (l : Nat) : standing (removePasses l s) = standing s := rfl
@[simp] theorem standing_enqueue (r : EngineRequest) : standing (enqueue r s) = standing s := rfl
@[simp] theorem standing_setSlot (k : Nat) (v : Slot) : standing (setSlot k v s) = standing s := rfl
@[simp] theorem standing_setKey (k : Nat) (v : Key) : standing (setKey k v s) = standing s := rfl
@[simp] theorem standing_setArbiter (l : Nat) (v : Arbiter) : standing (setArbiter l v s) = standing s := rfl
@[simp] theorem standing_placeOrder (o : Nat) (i : MatrixInput) : standing (placeOrder o i s) = standing s := rfl
@[simp] theorem standing_darken (l : Nat) : standing (darken l s) = standing s := rfl
@[simp] theorem standing_discardPartial : standing (discardPartial s) = standing s := rfl
@[simp] theorem standing_fly (l : Nat) (c : Content) : standing (fly l c s) = standing s := rfl
@[simp] theorem standing_framingFault (line : SerialLine) : standing (framingFault line s) = standing s := rfl
@[simp] theorem standing_parityFault (line : SerialLine) : standing (parityFault line s) = standing s := rfl

@[simp] theorem standing_completeFrame (p : Port) : standing (completeFrame p s) = standing s := by cases p <;> rfl

@[simp] theorem standing_respond (p : Port) (r : Response) : standing (respond p r s) = standing s := by
  apply standing_congr <;> simp [settings]

@[simp] theorem standing_setPortPartial (line : InPort) (v : Option Partial) :
    standing (setPortPartial line v s) = standing s := by cases line <;> rfl

@[simp] theorem standing_completeMessage (line : InPort) : standing (completeMessage line s) = standing s :=
  standing_setPortPartial s line none

@[simp] theorem standing_discardMalformed (line : InPort) : standing (discardMalformed line s) = standing s :=
  standing_completeMessage s line

/-- A run of operations that each keep the standing part keeps it. -/
theorem standing_foldl {α : Type} {f : State → α → State} (hf : ∀ s a, standing (f s a) = standing s) (as : List α) :
    standing (as.foldl f s) = standing s := by
  induction as generalizing s with
  | nil => rfl
  | cons a as ih => rw [List.foldl_cons, ih, hf]

/-! ## Feeds, tally and return port -/

@[simp] theorem standing_orderFeed (l : Nat) : standing (orderFeed l s) = standing s := by
  unfold orderFeed; split <;> rfl

@[simp] theorem standing_requestFeed (k l : Nat) : standing (requestFeed k l s) = standing s := by
  unfold requestFeed
  dsimp only
  split
  · rfl
  · split
    · simp
    · split <;> simp

@[simp] theorem standing_withdrawFeed (k l : Nat) : standing (withdrawFeed k l s) = standing s := by
  unfold withdrawFeed
  dsimp only
  split_ifs <;> simp

@[simp] theorem standing_refreshStatuses : standing (refreshStatuses s) = standing s := by
  refine standing_foldl s (fun s k => ?_) _
  unfold refreshStatus; dsimp only; split <;> rfl

@[simp] theorem standing_recomputeCue (l : Nat) : standing (recomputeCue l s) = standing s := by
  unfold recomputeCue
  dsimp only
  split_ifs <;> rfl

@[simp] theorem standing_recomputeCues (ls : List Nat) : standing (recomputeCues ls s) = standing s :=
  standing_foldl s (fun s l => standing_recomputeCue s l) ls

@[simp] theorem standing_pressKey (k : Nat) : standing (pressKey k s) = standing s := by
  unfold pressKey
  dsimp only
  split <;> simp [activateKey, deactivateKey, standing_foldl]

@[simp] theorem standing_liftKey (k : Nat) : standing (liftKey k s) = standing s := by
  unfold liftKey
  dsimp only
  split <;> simp [deactivateKey, standing_foldl]

@[simp] theorem standing_becomeDestination (l : Nat) : standing (becomeDestination l s) = standing s := by
  unfold becomeDestination
  split <;> simp [seedArbiter, standing_foldl]

@[simp] theorem standing_statusesAfter (camera : Bool) : standing (statusesAfter camera s) = standing s := by
  cases camera <;> simp [statusesAfter]

@[simp] theorem standing_leaveDestination (l : Nat) (o : Option Nat) :
    standing (leaveDestination l o s) = standing s := by
  cases o <;> simp [leaveDestination, clearArbiter]

@[simp] theorem standing_takeTally (a : Nat) (f : SourceFlags) : standing (takeTally a f s) = standing s := by
  unfold takeTally
  split
  · rfl
  · dsimp only
    split
    · rw [standing_recomputeCue]; rfl
    · rfl

@[simp] theorem standing_startKeyStatus : standing (startKeyStatus s) = standing s := by
  unfold startKeyStatus; split <;> rfl

@[simp] theorem standing_startOrder : standing (startOrder s) = standing s := by
  unfold startOrder
  split
  · split <;> rfl
  · rfl

@[simp] theorem standing_takeOrderAck (o : Nat) (i : MatrixInput) : standing (takeOrderAck o i s) = standing s := by
  unfold takeOrderAck
  split
  · split <;> rfl
  · rfl

@[simp] theorem standing_startReturn : standing (startReturn s) = standing s := by
  unfold startReturn
  split
  · rfl
  · split
    · rfl
    · split
      · rfl
      · split <;> rfl

@[simp] theorem standing_takeDone (n : Nat) : standing (takeDone n s) = standing s := by
  unfold takeDone
  split
  · split <;> rfl
  · rfl

@[simp] theorem standing_requeue (m : FlyingMessage) : standing (requeue m s) = standing s := by
  unfold requeue
  split
  · split <;> rfl
  · split <;> rfl
  · rfl

/-! ## Link entries -/

/-- Writing an entry that names the same records. -/
theorem standing_setEntry {l : Nat} {e : LinkEntry} (h : heldRecords e = heldRecords (entry s l)) :
    standing (setEntry l e s) = standing s := by
  have hl : links (setEntry l e s) = links s := by
    funext j
    simp only [links, entry_setEntry]
    split
    · next hj => rw [h, hj.1]
    · rfl
  simp only [standing, hl]
  rfl

/-- Changing an ENROLLED entry so that it names the same records. -/
theorem standing_updateLink {l : Nat} {f : EnrolledLink → EnrolledLink}
    (h : ∀ e, entry s l = .enrolled e → heldRecords (.enrolled (f e)) = heldRecords (.enrolled e)) :
    standing (updateLink l f s) = standing s := by
  unfold updateLink
  split
  · next e he => exact standing_setEntry s (by rw [h e he, he])
  · rfl

@[simp] theorem standing_setPlace (place : SearchPlace) (l : Nat) : standing (setPlace place l s) = standing s := by
  refine standing_updateLink s fun e _ => ?_
  cases hp : e.phase <;> simp [heldRecords, hp]

@[simp] theorem standing_stopDelay (l : Nat) : standing (stopDelay l s) = standing s :=
  standing_updateLink s fun _ _ => rfl

@[simp] theorem standing_noteReport (l r m : Nat) : standing (noteReport l r m s) = standing s :=
  standing_updateLink s fun _ _ => rfl

@[simp] theorem standing_setMismatch (l n : Nat) : standing (setMismatch l n s) = standing s :=
  standing_updateLink s fun _ _ => rfl

@[simp] theorem standing_setPresence (l : Nat) (p : Presence) : standing (setPresence l p s) = standing s := by
  unfold setPresence
  have hu : standing (updateLink l (fun e => { e with presence := p }) s) = standing s :=
    standing_updateLink s fun _ _ => rfl
  split
  · rfl
  · dsimp only
    split_ifs <;> simp [hu]

@[simp] theorem standing_applyPresence (l : Nat) (e : EnrolledLink) (r : HeardReport) :
    standing (applyPresence l e r s) = standing s := by
  unfold applyPresence goodReport weakReport
  dsimp only
  split
  · simp only [standing_setPresence, standing_stopDelay]
    refine (standing_updateLink _ ?_).trans (standing_noteReport s l _ _)
    exact fun _ _ => rfl
  · split <;> simp

@[simp] theorem standing_compareEcho (l : Nat) (echo : Option Cue) : standing (compareEcho l echo s) = standing s := by
  unfold compareEcho
  split
  · split
    · rfl
    · dsimp only
      split_ifs <;> simp
  · rfl

@[simp] theorem standing_capture (k : CaptureKind) (r : HeardReport) : standing (capture k r s) = standing s := rfl

@[simp] theorem standing_moveRover : standing (moveRover s) = standing s := rfl

/-! ## Searches and the engine -/

@[simp] theorem standing_queueSearch (l : Nat) : standing (queueSearch l s) = standing s := by
  unfold queueSearch; split <;> simp

@[simp] theorem standing_joinWaitList (l : Nat) : standing (joinWaitList l s) = standing s :=
  standing_setPlace _ .waiting l

@[simp] theorem standing_placeSearch (l : Nat) : standing (placeSearch l s) = standing s := by
  unfold placeSearch; split <;> simp

@[simp] theorem standing_serveWaitList : standing (serveWaitList s) = standing s := by
  unfold serveWaitList
  split
  · rfl
  · split
    · rw [standing_queueSearch]; rfl
    · rfl

/-- A link that enters SEEKING from a phase without new carrier. -/
theorem standing_startSeeking (o : Origin) (k : Bool) {l : Nat} (h : newCarrierOf s l = none) :
    standing (startSeeking o k l s) = standing s := by
  unfold startSeeking
  simp only [standing_placeSearch, standing_markChanged]
  exact standing_updateLink s fun e he => by simp [heldRecords, ← newCarrierOf_enrolled he, h]

/-- A retune that ends without a new carrier. -/
theorem standing_endRetune (r : RetuneResult) {l : Nat} (h : newCarrierOf s l = none) :
    standing (endRetune r l s) = standing s :=
  standing_updateLink s fun e he => by simp [heldRecords, ← newCarrierOf_enrolled he, h]

/-- A search without a find opens nothing (R106, R107). -/
theorem standing_applySearchResult_none {l : Nat} {r : FindResult} (h : r.found = none) :
    standing (applySearchResult l r s) = standing s := by
  unfold applySearchResult
  split
  · next e he =>
    split
    · next hp =>
      split
      · simp
      · rw [h]
        exact standing_endRetune s _ (by rw [newCarrierOf_enrolled he, hp]; rfl)
    · rfl
  · rfl

theorem standing_deliverResult_none {r : EngineRequest} {f : FindResult} (h : f.found = none) :
    standing (deliverResult r (.find f) s) = standing s := by
  unfold deliverResult
  split
  · rfl
  · simp only [standing_serveWaitList, standing_applySearchResult_none _ h]
    rfl

theorem standing_deliverResult_check (r : EngineRequest) (c : CheckResult) :
    standing (deliverResult r (.check c) s) = standing s := by
  unfold deliverResult
  split
  · rfl
  · rw [standing_serveWaitList]; rfl

@[simp] theorem standing_beginRequest (r : EngineRequest) (rest : List EngineRequest) :
    standing (beginRequest r rest s) = standing s := by
  unfold beginRequest; split <;> rfl

theorem standing_startHeads (n : Nat) : standing (startHeads n s) = standing s := by
  induction n generalizing s with
  | zero => rfl
  | succ n ih =>
    unfold startHeads
    split
    · simp only
      split
      · rw [ih, standing_deliverResult_none _ rfl, standing_beginRequest]
      · rw [standing_beginRequest]
    · rfl

@[simp] theorem standing_startHead : standing (startHead s) = standing s := standing_startHeads s _

@[simp] theorem standing_cancelSearch (l : Nat) : standing (cancelSearch l s) = standing s := by
  have h : standing (cancelInternal l s) = standing s := rfl
  unfold cancelSearch
  simp only
  split <;> simp [h]

end Sys2Proof.Machine
end

section
/-! SUPPORT. Requests by the verdicts of their rules, and the commands that leave the standing part alone. -/

namespace Sys2Proof.Machine

variable (s : State)

/-! ## Requests by their rules -/

/-- What a request's own rule leaves: the state as it was where it refuses. -/
def Verdict.after (v : Verdict) (s : State) : State :=
  match v with
  | .refuse _ => s
  | .accept _ t => t

@[simp] theorem after_refuse (st : Status) : (Verdict.refuse st).after s = s := rfl
@[simp] theorem after_accept (items : List Item) (t : State) : (Verdict.accept items t).after s = t := rfl

/-- The state that a request leaves is its rule's, or the one before, but for the frame and the response. -/
theorem takeRequest_after (p : Port) (c : RequestCode) (rule : State → Verdict) : ∃ r,
    takeRequest p c rule s = respond p r ((rule (completeFrame p s)).after (completeFrame p s)) ∨
    takeRequest p c rule s = respond p r (completeFrame p s) := by
  rcases takeRequest_cases p c rule s with ⟨-, ht⟩ | ⟨st, -, hr, ht⟩ | ⟨items, t, -, hr, ht⟩
  · exact ⟨_, .inr ht⟩
  · exact ⟨_, .inr ht⟩
  · exact ⟨_, .inl (by rw [hr]; exact ht)⟩

/-- A request keeps what its rule keeps; the frame and the response touch nothing of the standing part. -/
theorem standing_takeRequest {p : Port} {c : RequestCode} {rule : State → Verdict}
    (h : ∀ u, standing ((rule u).after u) = standing u) : standing (takeRequest p c rule s) = standing s := by
  obtain ⟨r, ht | ht⟩ := takeRequest_after s p c rule
  · rw [ht, standing_respond, h, standing_completeFrame]
  · rw [ht, standing_respond, standing_completeFrame]

/-- A request whose rule leaves the state as it was. -/
theorem standing_takeRequest_read {p : Port} {c : RequestCode} {rule : State → Verdict}
    (h : ∀ u, (rule u).after u = u) : standing (takeRequest p c rule s) = standing s :=
  standing_takeRequest s fun u => by rw [h u]

/-! ## The rules that only read -/

theorem after_groupGetRule (g : Nat) : (groupGetRule g s).after s = s := by unfold groupGetRule; split <;> rfl
theorem after_planGetRule (i : Nat) : (planGetRule i s).after s = s := by unfold planGetRule; split <;> rfl
theorem after_planListRule (g : Nat) : (planListRule g s).after s = s := by
  unfold planListRule; dsimp only; split <;> rfl
theorem after_surveyReadRule (j : Nat) : (surveyReadRule j s).after s = s := by unfold surveyReadRule; split <;> rfl
theorem after_binsReadRule (a b : Nat) : (binsReadRule a b s).after s = s := by unfold binsReadRule; split_ifs <;> rfl
theorem after_linkGetRule (l : Nat) : (linkGetRule l s).after s = s := by unfold linkGetRule; split <;> rfl
theorem after_linkProbeRule (x : Nat) : (linkProbeRule x s).after s = s := by unfold linkProbeRule; split <;> rfl
theorem after_linkTimersRule (l : Nat) : (linkTimersRule l s).after s = s := by
  unfold linkTimersRule
  split
  · rfl
  · split <;> rfl
theorem after_retuneGetRule (l : Nat) : (retuneGetRule l s).after s = s := by
  unfold retuneGetRule
  split
  · rfl
  · split <;> rfl
theorem after_tallySourcesRule (a b : Nat) : (tallySourcesRule a b s).after s = s := by
  unfold tallySourcesRule; split <;> rfl
theorem after_tallyGetRule (l : Nat) : (tallyGetRule l s).after s = s := by unfold tallyGetRule; split <;> rfl
theorem after_lampGetRule (n : Nat) : (lampGetRule n s).after s = s := by unfold lampGetRule; split <;> rfl
theorem after_keyGetRule (k : Nat) : (keyGetRule k s).after s = s := by unfold keyGetRule; split <;> rfl
theorem after_feedGetRule (l : Nat) : (feedGetRule l s).after s = s := by unfold feedGetRule; split <;> rfl
theorem after_matrixGetRule (o : Nat) : (matrixGetRule o s).after s = s := by unfold matrixGetRule; split <;> rfl

/-! ## The rules that write beside the standing part -/

theorem standing_checkStartRule (t : CheckTarget) : standing ((checkStartRule t s).after s) = standing s := by
  unfold checkStartRule
  dsimp only
  split
  · split
    · rfl
    · split <;> rfl
  · split
    · rfl
    · split
      · rfl
      · split <;> rfl

theorem standing_findStartRule (g lo up st h lim : Nat) :
    standing ((findStartRule g lo up st h lim s).after s) = standing s := by
  unfold findStartRule
  split
  · rfl
  · split <;> rfl

theorem standing_checkReadRule (k : Nat) : standing ((checkReadRule k s).after s) = standing s := by
  unfold checkReadRule
  split
  · rfl
  · dsimp only [after_accept]
    split <;> rfl

theorem standing_checkCancelRule (k : Nat) : standing ((checkCancelRule k s).after s) = standing s := by
  unfold checkCancelRule
  split
  · rfl
  · split
    · rfl
    · rfl
    · rw [after_accept, standing_startHead]; rfl
    · rfl

theorem standing_linkNoteRule (l x k : Nat) : standing ((linkNoteRule l x k s).after s) = standing s := by
  unfold linkNoteRule
  split
  · rfl
  · split
    · rfl
    · next k' _ =>
      dsimp only
      split
      · rfl
      · next hn =>
        have hu : standing (setEntry l (notedEntry (entry s l) x k') s) = standing s := by
          refine standing_setEntry s ?_
          cases he : entry s l with
          | vacant => rfl
          | noted n => unfold notedEntry; dsimp only; split <;> rfl
          | enrolled e => simp [he, LinkEntry.isEnrolled] at hn
        split
        · rfl
        · rw [after_accept]
          split <;> simp [hu]

theorem standing_linkSetRule (l : Nat) (q : LinkParams) : standing ((linkSetRule l q s).after s) = standing s := by
  unfold linkSetRule
  split
  · rfl
  · split
    · next e he =>
      split
      · exact standing_setEntry s (by rw [he]; rfl)
      · rfl
    · rfl

theorem standing_tallyOverrideRule (l o : Nat) : standing ((tallyOverrideRule l o s).after s) = standing s := by
  unfold tallyOverrideRule
  split
  · rfl
  · split
    · rfl
    · split
      · next e he =>
        rw [after_accept, standing_recomputeCue]
        exact standing_setEntry s (by rw [he]; rfl)
      · rfl

theorem standing_keySetRule (k v m lk src : Nat) (ds : List Nat) :
    standing ((keySetRule k v m lk src ds s).after s) = standing s := by
  unfold keySetRule
  split
  · rfl
  · split
    · dsimp only
      split <;> rfl
    · rfl

theorem standing_keyPressRule (k : Nat) : standing ((keyPressRule k s).after s) = standing s := by
  unfold keyPressRule; split <;> simp

theorem standing_keyLiftRule (k : Nat) : standing ((keyLiftRule k s).after s) = standing s := by
  unfold keyLiftRule; split <;> simp

theorem standing_feedDefaultRule (l i : Nat) : standing ((feedDefaultRule l i s).after s) = standing s := by
  unfold feedDefaultRule
  dsimp only
  split
  · rfl
  · rw [after_accept]
    split <;> simp

theorem standing_returnPassRule (l : Nat) (b : List Byte) :
    standing ((returnPassRule l b s).after s) = standing s := by
  unfold returnPassRule; split_ifs <;> rfl

theorem standing_authorityYieldRule (p : Port) : standing ((authorityYieldRule p s).after s) = standing s := by
  cases p <;> rfl

theorem standing_causeClearRule (c : BitVec 16) : standing ((causeClearRule c s).after s) = standing s := by
  unfold causeClearRule; split <;> rfl

/-! ## The events of a link and of the engine -/

theorem standing_startDelay {l : Nat} (e : EnrolledLink) (h : newCarrierOf s l = none) :
    standing (startDelay l e s) = standing s := by
  unfold startDelay
  split
  · split
    · exact standing_startSeeking s _ _ h
    · exact standing_updateLink s fun _ _ => rfl
  · rfl

theorem standing_fade {l : Nat} {e : EnrolledLink} (he : entry s l = .enrolled e) :
    standing (fade l e s) = standing s := by
  unfold fade
  split
  · simp
  · by_cases hp : e.phase = .none
    · rw [standing_startDelay _ e, standing_setPresence]
      rw [newCarrierOf_standing (standing_setPresence s l .fading), newCarrierOf_enrolled he, hp]
      rfl
    · simp [startDelay, hp]

/-! ## Every command that touches none of it -/

/-- The commands that may change a setting, the survey, a plan record or a record of a link. -/
def touchesStanding : Instr → Bool
  | .hardwareReset | .runRestart _
  | .groupSet _ _ _ _ _ _ _ _ _ _ | .planPut _ _ _ _ _ _ | .planDrop _ _
  | .directoryPin _ _ | .directoryAdmit _ _ | .retuneLimit _ _ | .tallyMap _ _ _ | .lampSet _ _ _ _ _ _
  | .causeMask _ _
  | .surveySetup _ _ _ _ | .surveyStart _ _ _ _ _ _ _ | .surveyStop _ _ | .binsClear _ _ _ | .sample _ _
  | .linkEnroll _ _ _ _ _ _ _ | .linkRetire _ _ | .linkErase _ _ | .linkRetune _ _ _ _ | .linkHalt _ _
  | .retuneLimitExpiry _ | .candidateEvaluation | .heard _ => true
  | _ => false

theorem exec_standing {c : Instr} {t : State} (hc : touchesStanding c = false) (h : exec c s = .next t) :
    standing t = standing s := by
  cases c <;> cases hc <;> cases h
  case groupGet p g => exact standing_takeRequest_read s (after_groupGetRule · g)
  case planGet p i => exact standing_takeRequest_read s (after_planGetRule · i)
  case planList p g => exact standing_takeRequest_read s (after_planListRule · g)
  case checkStart p k => exact standing_takeRequest s (standing_checkStartRule · k)
  case findStart p g lo up st h lim => exact standing_takeRequest s (standing_findStartRule · g lo up st h lim)
  case checkRead p k => exact standing_takeRequest s (standing_checkReadRule · k)
  case checkCancel p k => exact standing_takeRequest s (standing_checkCancelRule · k)
  case engineStart => exact standing_startHead s
  case surveyRead p j => exact standing_takeRequest_read s (after_surveyReadRule · j)
  case binsRead p a b => exact standing_takeRequest_read s (after_binsReadRule · a b)
  case linkNote p l x k => exact standing_takeRequest s (standing_linkNoteRule · l x k)
  case linkSet p l q => exact standing_takeRequest s (standing_linkSetRule · l q)
  case linkGet p l => exact standing_takeRequest_read s (after_linkGetRule · l)
  case linkProbe p x => exact standing_takeRequest_read s (after_linkProbeRule · x)
  case linkChanges p => exact standing_takeRequest s fun _ => rfl
  case directoryGet p => exact standing_takeRequest s fun _ => rfl
  case captureRead p => exact standing_takeRequest s fun _ => rfl
  case clockRead p => exact standing_takeRequest s fun _ => rfl
  case linkTimers p l => exact standing_takeRequest_read s (after_linkTimersRule · l)
  case fadeExpiry l =>
    split
    · next e he =>
      split
      · exact standing_fade s (enrolledLink_eq_some.1 he)
      · rfl
    · rfl
  case lossExpiry l =>
    split
    · split <;> simp
    · rfl
  case retuneDelayExpiry l =>
    split
    · next e he =>
      split
      · dsimp only
        split
        · next hp =>
          rw [standing_startSeeking _ _ _ _, standing_stopDelay]
          rw [newCarrierOf_standing (standing_stopDelay s l), newCarrierOf_enrolled (enrolledLink_eq_some.1 he), hp]
          rfl
        · simp
      · rfl
    · rfl
  case retuneGet p l => exact standing_takeRequest_read s (after_retuneGetRule · l)
  case retuneQueue p => exact standing_takeRequest s fun _ => rfl
  case mixerTallyMessage a f => split <;> simp
  case tallyOverride p l o => exact standing_takeRequest s (standing_tallyOverrideRule · l o)
  case tallySources p a b => exact standing_takeRequest_read s (after_tallySourcesRule · a b)
  case tallyGet p l => exact standing_takeRequest_read s (after_tallyGetRule · l)
  case lampGet p n => exact standing_takeRequest_read s (after_lampGetRule · n)
  case keySet p k v m lk src ds => exact standing_takeRequest s (standing_keySetRule · k v m lk src ds)
  case keyDown k => split <;> simp
  case keyPress p k => exact standing_takeRequest s (standing_keyPressRule · k)
  case keyUp k => split <;> simp
  case keyLift p k => exact standing_takeRequest s (standing_keyLiftRule · k)
  case keyGet p k => exact standing_takeRequest_read s (after_keyGetRule · k)
  case feedDefault p l i => exact standing_takeRequest s (standing_feedDefaultRule · l i)
  case feedGet p l => exact standing_takeRequest_read s (after_feedGetRule · l)
  case matrixGet p o => exact standing_takeRequest_read s (after_matrixGetRule · o)
  case keyStatusSendStart => exact standing_startKeyStatus s
  case keyStatusSendEnd => rfl
  case orderSendStart => exact standing_startOrder s
  case orderAck o i => split <;> simp
  case orderTimeout =>
    split
    · split <;> rfl
    · rfl
  case returnPass p l b => exact standing_takeRequest s (standing_returnPassRule · l b)
  case returnGet p => exact standing_takeRequest s fun _ => rfl
  case returnSendStart => exact standing_startReturn s
  case doneMessage n => simp
  case returnTimeout =>
    split
    · split
      · exact standing_requeue _ _
      · rfl
    · rfl
  case authorityYield p => exact standing_takeRequest s (standing_authorityYieldRule · p)
  case causeRead p => exact standing_takeRequest s fun _ => rfl
  case causeClear p c => exact standing_takeRequest s (standing_causeClearRule · c)
  case portFaults p => exact standing_takeRequest s fun _ => rfl
  case badFrame p b => split <;> simp [answerBadFrame]
  case readTransaction n => rfl
  case lineBreak => unfold takeAuthority; split <;> rfl
  case serviceCharacterError e => cases e <;> rfl
  case serviceGapExpiry =>
    split
    · split <;> rfl
    · rfl
  case serviceResponseEnd => split <;> rfl
  case portByteError line e =>
    cases e with
    | parity => simp
    | noStop => simp
    | unknownType => dsimp only; split <;> simp
  case inputGapExpiry line =>
    split
    · split <;> simp
    · rfl
  case malformedMessage line b => split <;> simp

end Sys2Proof.Machine
end

section
/-! SUPPORT. Member counts of the groups (R8), and the binding of links and plan records (R6, R7) as two pairings with
the writes that keep it. -/

namespace Sys2Proof.Machine

/-! ## Member counts (R3, R8) -/

theorem toList_eq_map_look {α : Type} [Inhabited α] {n : Nat} (t : Vector α n) :
    t.toList = (List.range n).map (look t) := by
  apply List.ext_getElem
  · simp
  · intro i h _
    have hi : i < n := by simpa using h
    simp [look, hi]

/-- A member count counts the records of the table. -/
theorem memberCount_eq_countP (s : State) (g : Nat) :
    memberCount s g = s.plan.records.toList.countP (inGroup g) := by
  rw [toList_eq_map_look, List.countP_map, List.countP_eq_length_filter]
  rfl

/-- Writing a record changes a group's count by the record's joining and leaving it. -/
theorem memberCount_setRecord {i : Nat} (hi : i < 96) (r : PlanRecord) (s : State) (g : Nat) :
    memberCount (setRecord i r s) g + (inGroup g (planRecord s i)).toNat =
      memberCount s g + (inGroup g r).toNat := by
  have hl : i < s.plan.records.toList.length := by simpa using hi
  have hp : planRecord s i = s.plan.records.toList[i] := by simp [planRecord, look, hi]
  have hle : (inGroup g s.plan.records.toList[i]).toNat ≤ s.plan.records.toList.countP (inGroup g) := by
    cases h : inGroup g s.plan.records.toList[i]
    · simp
    · exact List.countP_pos_iff.2 ⟨_, List.getElem_mem hl, h⟩
  have hput : (setRecord i r s).plan.records.toList = s.plan.records.toList.set i r := by
    simp only [setRecord_plan, put, Vector.setIfInBounds, ← Vector.toList_toArray, Array.toList_setIfInBounds]
  rw [memberCount_eq_countP, memberCount_eq_countP, hput, List.countP_set hl, hp]
  generalize inGroup g s.plan.records.toList[i] = before at hle ⊢
  generalize s.plan.records.toList.countP (inGroup g) = count at hle ⊢
  cases before <;> cases inGroup g r <;> simp at hle ⊢ <;> omega

/-- From `s` to `t` no record joins a group. -/
def GroupsShrink (s t : State) : Prop := ∀ i g, inGroup g (planRecord t i) = true → inGroup g (planRecord s i) = true

theorem memberCount_le {s t : State} (h : GroupsShrink s t) (g : Nat) : memberCount t g ≤ memberCount s g := by
  simp only [memberCount, indicesWhere, ← List.countP_eq_length_filter]
  exact List.countP_mono_left fun i _ hi => h i g hi

theorem GroupsShrink.keeps {s t : State} (h : GroupsShrink s t) (hs : GroupsWithinCapacity s) :
    GroupsWithinCapacity t := fun g => (memberCount_le h g).trans (hs g)

theorem GroupsShrink.trans {s t u : State} (h : GroupsShrink s t) (h' : GroupsShrink t u) : GroupsShrink s u :=
  fun i g hi => h i g (h' i g hi)

theorem groupsShrink_of_records {s t : State} (h : t.plan.records = s.plan.records) : GroupsShrink s t := by
  intro i g
  simp only [planRecord, h, imp_self]

theorem groupsShrink_setRecord {s : State} {i : Nat} {r : PlanRecord}
    (h : ∀ g, inGroup g r = true → inGroup g (planRecord s i) = true) : GroupsShrink s (setRecord i r s) := by
  intro j g
  rw [planRecord_setRecord]
  split
  · next hj => exact hj.1 ▸ h g
  · exact id

/-- A record that joins a group with room keeps the capacities (R8). -/
theorem groupsWithinCapacity_setRecord {s : State} {i : Nat} {r : PlanRecord} (hi : i < 96)
    (hs : GroupsWithinCapacity s)
    (h : ∀ g, inGroup g r = true → inGroup g (planRecord s i) = true ∨ memberCount s g < 24) :
    GroupsWithinCapacity (setRecord i r s) := by
  intro g
  have hc := memberCount_setRecord hi r s g
  have hg := hs g
  have hr := h g
  cases hr' : inGroup g r <;> rw [hr'] at hc hr
  · simp at hc; omega
  · rcases hr rfl with ho | hlt
    · rw [ho] at hc; simp at hc; omega
    · simp at hc; omega

/-! ## Pairs of links and records (R6, R7) -/

/-- Two partial maps are inverse to each other. -/
def Paired (f g : Nat → Option Nat) : Prop := ∀ a b, f a = some b ↔ g b = some a

theorem Paired.link {f g : Nat → Option Nat} (h : Paired f g) {a b : Nat} (ha : f a = none) (hb : g b = none) :
    Paired (Function.update f a (some b)) (Function.update g b (some a)) := by
  intro x y
  have hxy := h x y
  by_cases hx : x = a <;> by_cases hy : y = b <;> simp_all [eq_comm]

theorem Paired.unlink {f g : Nat → Option Nat} (h : Paired f g) {a b : Nat} (hab : f a = some b) :
    Paired (Function.update f a none) (Function.update g b none) := by
  intro x y
  have hxy := h x y
  have hxb := h x b
  have hay := h a y
  have hba := (h a b).1 hab
  by_cases hx : x = a <;> by_cases hy : y = b <;> simp_all [eq_comm]

/-- The owner of an ACTIVE record. -/
def PlanRecord.activeOwner : PlanRecord → Option Nat
  | .active _ o => some o
  | _ => none

/-- The owner of a HANDOVER record. -/
def PlanRecord.handoverOwner : PlanRecord → Option Nat
  | .handover _ o => some o
  | _ => none

/-- The carrier among the records that a link names. -/
def namedCarrier (x : Option (Nat × Option Nat)) : Option Nat := x.map Prod.fst

/-- The new carrier among the records that a link names. -/
def namedNewCarrier (x : Option (Nat × Option Nat)) : Option Nat := x.bind Prod.snd

theorem activeOwner_eq_some {r : PlanRecord} {l : Nat} : r.activeOwner = some l ↔ ∃ c, r = .active c l := by
  cases r <;> simp [PlanRecord.activeOwner]

theorem handoverOwner_eq_some {r : PlanRecord} {l : Nat} : r.handoverOwner = some l ↔ ∃ c, r = .handover c l := by
  cases r <;> simp [PlanRecord.handoverOwner]

theorem owner_eq_none {r : PlanRecord} : r.owner = none ↔ r.activeOwner = none ∧ r.handoverOwner = none := by
  cases r <;> simp [PlanRecord.owner, PlanRecord.activeOwner, PlanRecord.handoverOwner]

section
variable {s t : State}

theorem namedCarrier_eq_some {l i : Nat} :
    namedCarrier (links s l) = some i ↔ ∃ e, entry s l = .enrolled e ∧ e.carrier = i := by
  cases h : entry s l <;> simp [namedCarrier, links, heldRecords, h]

theorem newCarrier_eq_some {p : RetunePhase} {n : Nat} : p.newCarrier = some n ↔ ∃ r, p = .ordered r n := by
  cases p <;> simp

theorem namedNewCarrier_eq_some {l n : Nat} :
    namedNewCarrier (links s l) = some n ↔ ∃ e r, entry s l = .enrolled e ∧ e.phase = .ordered r n := by
  cases h : entry s l <;> simp [namedNewCarrier, links, heldRecords, h, newCarrier_eq_some]

/-- R6 and R7 say that ownership of an ACTIVE record is the inverse of a link's carrier, and ownership of a HANDOVER
record the inverse of its new carrier. -/
theorem ownershipBinding_iff : OwnershipBinding s ↔
    Paired (PlanRecord.activeOwner ∘ planRecord s) (namedCarrier ∘ links s) ∧
    Paired (PlanRecord.handoverOwner ∘ planRecord s) (namedNewCarrier ∘ links s) := by
  simp only [OwnershipBinding, LinksOwnTheirRecords, RecordsHaveTheirLinks, Paired, Function.comp_apply,
    activeOwner_eq_some, handoverOwner_eq_some, namedCarrier_eq_some, namedNewCarrier_eq_some]
  constructor
  · rintro ⟨hl, hr⟩
    refine ⟨fun i l => ⟨fun ⟨c, hc⟩ => (hr i c l).1 hc, ?_⟩, fun i l => ⟨fun ⟨c, hc⟩ => (hr i c l).2 hc, ?_⟩⟩
    · rintro ⟨e, he, rfl⟩
      exact (hl l e he).1
    · rintro ⟨e, r, he, hp⟩
      exact (hl l e he).2 r i hp
  · rintro ⟨ha, hh⟩
    refine ⟨fun l e he => ⟨(ha _ l).2 ⟨e, he, rfl⟩, fun r n hp => (hh n l).2 ⟨e, r, he, hp⟩⟩, fun i c l => ⟨?_, ?_⟩⟩
    · exact fun hc => (ha i l).1 ⟨c, hc⟩
    · exact fun hc => (hh i l).1 ⟨c, hc⟩

/-- The binding is a matter of the plan records and the records that the links name. -/
theorem ownershipBinding_congr (h : OwnershipBinding s) (hr : planRecord t = planRecord s) (hl : links t = links s) :
    OwnershipBinding t := by
  rw [ownershipBinding_iff] at h ⊢
  rwa [hr, hl]

/-- A record without owner is replaced by another (R16, R17). -/
theorem ownershipBinding_write {i : Nat} {r : PlanRecord} (h : OwnershipBinding s)
    (hi : (planRecord s i).owner = none) (hr : r.owner = none) (ht : planRecord t = Function.update (planRecord s) i r)
    (hl : links t = links s) : OwnershipBinding t := by
  rw [owner_eq_none] at hi hr
  rw [ownershipBinding_iff] at h ⊢
  rw [ht, hl, Function.comp_update, Function.comp_update, hr.1, hr.2,
    Function.update_eq_self_iff.2 hi.1.symm, Function.update_eq_self_iff.2 hi.2.symm]
  exact h

/-- Bind (R10): a record without owner becomes the carrier of a link that had none. -/
theorem ownershipBinding_bind {i l : Nat} {c : Carrier} (h : OwnershipBinding s) (hi : (planRecord s i).owner = none)
    (hl : links s l = none) (hr : planRecord t = Function.update (planRecord s) i (.active c l))
    (ht : links t = Function.update (links s) l (some (i, none))) : OwnershipBinding t := by
  rw [owner_eq_none] at hi
  rw [ownershipBinding_iff] at h ⊢
  rw [hr, ht, Function.comp_update, Function.comp_update, Function.comp_update, Function.comp_update]
  have hn : namedNewCarrier (links s l) = none := by rw [hl]; rfl
  refine ⟨h.1.link hi.1 (by rw [Function.comp_apply, hl]; rfl), ?_⟩
  rw [Function.update_eq_self_iff.2 (by simpa [PlanRecord.handoverOwner] using hi.2.symm),
    Function.update_eq_self_iff.2 (by simpa [namedNewCarrier] using hn.symm)]
  exact h.2

/-- Open (R11, R12): a record without owner becomes the new carrier of a link that had none. -/
theorem ownershipBinding_open {i k l : Nat} {c : Carrier} (h : OwnershipBinding s)
    (hi : (planRecord s i).owner = none) (hl : links s l = some (k, none))
    (hr : planRecord t = Function.update (planRecord s) i (.handover c l))
    (ht : links t = Function.update (links s) l (some (k, some i))) : OwnershipBinding t := by
  rw [owner_eq_none] at hi
  rw [ownershipBinding_iff] at h ⊢
  rw [hr, ht, Function.comp_update, Function.comp_update, Function.comp_update, Function.comp_update]
  refine ⟨?_, h.2.link hi.2 (by rw [Function.comp_apply, hl]; rfl)⟩
  rw [Function.update_eq_self_iff.2 (by simpa [PlanRecord.activeOwner] using hi.1.symm),
    Function.update_eq_self_iff.2 (by simp [namedCarrier, hl])]
  exact h.1

/-- Close (R14): the new carrier's record becomes EMPTY. -/
theorem ownershipBinding_close {k l n : Nat} (h : OwnershipBinding s) (hl : links s l = some (k, some n))
    (hr : planRecord t = Function.update (planRecord s) n .empty)
    (ht : links t = Function.update (links s) l (some (k, none))) : OwnershipBinding t := by
  rw [ownershipBinding_iff] at h ⊢
  rw [hr, ht, Function.comp_update, Function.comp_update, Function.comp_update, Function.comp_update]
  have hn := (h.2 n l).2 (by rw [Function.comp_apply, hl]; rfl)
  obtain ⟨c, hc⟩ := handoverOwner_eq_some.1 hn
  refine ⟨?_, h.2.unlink hn⟩
  rw [Function.update_eq_self_iff.2 (by simp [PlanRecord.activeOwner, hc]),
    Function.update_eq_self_iff.2 (by simp [namedCarrier, hl])]
  exact h.1

/-- Release (R15): the carrier's record loses its owner, and the link its records. -/
theorem ownershipBinding_release {k l : Nat} {r : PlanRecord} (h : OwnershipBinding s)
    (hl : links s l = some (k, none)) (hr : r.owner = none) (ht : planRecord t = Function.update (planRecord s) k r)
    (hu : links t = Function.update (links s) l none) : OwnershipBinding t := by
  rw [owner_eq_none] at hr
  rw [ownershipBinding_iff] at h ⊢
  rw [ht, hu, Function.comp_update, Function.comp_update, Function.comp_update, Function.comp_update, hr.1, hr.2]
  have hk := (h.1 k l).2 (by rw [Function.comp_apply, hl]; rfl)
  obtain ⟨c, hc⟩ := activeOwner_eq_some.1 hk
  refine ⟨h.1.unlink hk, ?_⟩
  rw [Function.update_eq_self_iff.2 (by simp [PlanRecord.handoverOwner, hc]),
    Function.update_eq_self_iff.2 (by simp [namedNewCarrier, hl])]
  exact h.2

/-- Completion (R13, R111): the new carrier's record becomes the link's carrier, and the old carrier's loses its
owner. -/
theorem ownershipBinding_complete {k l n : Nat} {d : Carrier} {r : PlanRecord} (h : OwnershipBinding s)
    (hl : links s l = some (k, some n)) (hr : r.owner = none)
    (ht : planRecord t = Function.update (Function.update (planRecord s) n (.active d l)) k r)
    (hu : links t = Function.update (links s) l (some (n, none))) : OwnershipBinding t := by
  rw [owner_eq_none] at hr
  rw [ownershipBinding_iff] at h ⊢
  have hk := (h.1 k l).2 (by rw [Function.comp_apply, hl]; rfl)
  have hn := (h.2 n l).2 (by rw [Function.comp_apply, hl]; rfl)
  obtain ⟨c, hc⟩ := activeOwner_eq_some.1 hk
  obtain ⟨d', hd⟩ := handoverOwner_eq_some.1 hn
  have hkn : k ≠ n := by rintro rfl; rw [hc] at hd; cases hd
  rw [ht, hu]
  simp only [Function.comp_update, hr.1, hr.2]
  constructor
  · have := (h.1.unlink hk).link (a := n) (b := l)
      (by rw [Function.update_of_ne hkn.symm, Function.comp_apply, hd]; rfl) (Function.update_self ..)
    rw [Function.update_idem, Function.update_comm hkn] at this
    exact this
  · have := h.2.unlink hn
    rw [Function.update_eq_self_iff.2 (by simp [PlanRecord.handoverOwner, hkn, hc])]
    exact this

end

end Sys2Proof.Machine
end

section
/-! SUPPORT. The operations on carriers keep the group capacities and the binding: opening, searches, aborts and
retirement (R11 to R15). -/

namespace Sys2Proof.Machine

/-! ## What an operation keeps -/

/-- From `s` to `t` the settings and the survey stay, and the laws of the group capacities and of the binding of links
and records are kept (R6 to R8). -/
structure KeepsLaws (s t : State) : Prop where
  settings : settings t = settings s
  groups : GroupsWithinCapacity s → GroupsWithinCapacity t
  binding : OwnershipBinding s → OwnershipBinding t

section
variable {s t u : State}

theorem planRecord_of_records (h : t.plan.records = s.plan.records) : planRecord t = planRecord s := by
  funext i; simp only [planRecord, h]

theorem KeepsLaws.of_standing (h : standing t = standing s) : KeepsLaws s t where
  settings := settings_of_standing h
  groups := (groupsShrink_of_records (records_of_standing h)).keeps
  binding hs := ownershipBinding_congr hs (planRecord_of_records (records_of_standing h)) (links_of_standing h)

theorem KeepsLaws.trans (h : KeepsLaws s t) (h' : KeepsLaws t u) : KeepsLaws s u where
  settings := h'.settings.trans h.settings
  groups := h'.groups ∘ h.groups
  binding := h'.binding ∘ h.binding

/-- A request keeps the laws that its rule keeps. -/
theorem KeepsLaws.takeRequest {p : Port} {c : RequestCode} {rule : State → Verdict}
    (h : ∀ u, KeepsLaws u ((rule u).after u)) : KeepsLaws s (takeRequest p c rule s) := by
  have hf : KeepsLaws s (completeFrame p s) := .of_standing (standing_completeFrame s p)
  obtain ⟨r, ht | ht⟩ := takeRequest_after s p c rule
  · exact ht ▸ hf.trans ((h _).trans (.of_standing (standing_respond _ p r)))
  · exact ht ▸ hf.trans (.of_standing (standing_respond _ p r))

end

/-! ## Entries and records through the retune's operations -/

section
variable (s : State)

@[simp] theorem entry_setTunePending (l j : Nat) : entry (setTunePending l s) j = entry s j := rfl
@[simp] theorem entry_removeTunePending (l j : Nat) : entry (removeTunePending l s) j = entry s j := rfl
@[simp] theorem entry_setCuePending (l j : Nat) : entry (setCuePending l s) j = entry s j := rfl
@[simp] theorem planRecord_setTunePending (l j : Nat) : planRecord (setTunePending l s) j = planRecord s j := rfl
@[simp] theorem planRecord_removeTunePending (l j : Nat) : planRecord (removeTunePending l s) j = planRecord s j := rfl
@[simp] theorem planRecord_setCuePending (l j : Nat) : planRecord (setCuePending l s) j = planRecord s j := rfl

end

section
variable {s : State} {l : Nat} {e : EnrolledLink}

theorem lt_of_planRecord_ne {i : Nat} (h : planRecord s i ≠ .empty) : i < 96 := lt_of_look_ne s.plan.records i h

theorem planRecord_setRecord_update {i : Nat} (hi : i < 96) (r : PlanRecord) :
    planRecord (setRecord i r s) = Function.update (planRecord s) i r := by
  funext j
  simp only [planRecord_setRecord, hi, and_true, Function.update_apply, eq_comm]

theorem links_setEntry (hl : l < 64) (e : LinkEntry) :
    links (setEntry l e s) = Function.update (links s) l (heldRecords e) := by
  funext j
  simp only [links, entry_setEntry, hl, and_true, Function.update_apply, eq_comm (a := j)]
  split <;> rfl

theorem links_updateLink (f : EnrolledLink → EnrolledLink) (he : entry s l = .enrolled e) :
    links (updateLink l f s) = Function.update (links s) l (heldRecords (.enrolled (f e))) := by
  rw [updateLink_enrolled s f he, links_setEntry (enrolled_lt s he)]

theorem entry_updateLink_self (f : EnrolledLink → EnrolledLink) (he : entry s l = .enrolled e) :
    entry (updateLink l f s) l = .enrolled (f e) := by
  rw [updateLink_enrolled s f he, entry_setEntry, if_pos ⟨rfl, enrolled_lt s he⟩]

theorem entry_updateLink_ne (f : EnrolledLink → EnrolledLink) {j : Nat} (hj : j ≠ l) :
    entry (updateLink l f s) j = entry s j := by
  unfold updateLink
  split
  · rw [entry_setEntry, if_neg fun h => hj h.1.symm]
  · rfl

theorem links_enrolled (he : entry s l = .enrolled e) : links s l = some (e.carrier, e.phase.newCarrier) := by
  simp only [links, he, heldRecords]

@[simp] theorem updateLink_plan (f : EnrolledLink → EnrolledLink) : (updateLink l f s).plan = s.plan := by
  rw [updateLink_frame]

@[simp] theorem settings_updateLink (f : EnrolledLink → EnrolledLink) :
    settings (updateLink l f s) = settings s := by
  unfold updateLink; split <;> rfl

@[simp] theorem endRetune_plan (r : RetuneResult) : (endRetune r l s).plan = s.plan := updateLink_plan _

@[simp] theorem settings_endRetune (r : RetuneResult) : settings (endRetune r l s) = settings s :=
  settings_updateLink _

theorem links_endRetune (r : RetuneResult) (he : entry s l = .enrolled e) :
    links (endRetune r l s) = Function.update (links s) l (some (e.carrier, none)) := links_updateLink _ he

@[simp] theorem enterOrdered_plan (r : RetuneRecord) (n : Nat) : (enterOrdered r n l s).plan = s.plan := by
  unfold enterOrdered
  dsimp only
  rw [markChanged_plan]
  split <;> exact updateLink_plan _

@[simp] theorem settings_enterOrdered (r : RetuneRecord) (n : Nat) :
    settings (enterOrdered r n l s) = settings s := by
  unfold enterOrdered
  dsimp only
  split <;> exact settings_updateLink _

theorem links_enterOrdered (r : RetuneRecord) (n : Nat) (he : entry s l = .enrolled e) :
    links (enterOrdered r n l s) = Function.update (links s) l (some (e.carrier, some n)) := by
  unfold enterOrdered
  dsimp only
  split <;> exact links_updateLink _ he

theorem heldRecords_of_not_enrolled {x : LinkEntry} (h : x.isEnrolled = false) : heldRecords x = none := by
  cases x with
  | enrolled e => cases h
  | _ => rfl

/-! ## Opening a carrier (R11, R12) -/

/-- The lowest EMPTY record opens where the group has room (R11). -/
theorem openFromSearch_done {c : Carrier} {n : Nat} (hn : n < 96) (he : planRecord s n = .empty)
    (hlow : ∀ j < n, planRecord s j ≠ .empty) (hroom : memberCount s c.group < 24) :
    openFromSearch c l s = .done n (markStale (setRecord n (.handover c l) s)) := by
  have hh : (indicesWhere s.plan.records (· == .empty)).head? = some n := by
    refine head_of_least _ n (indicesWhere_sorted ..) ((mem_indicesWhere ..).2 ⟨hn, beq_iff_eq.2 he⟩) fun j hj => ?_
    have hj := ((mem_indicesWhere ..).1 hj).2
    by_contra hlt
    exact hlow j (by omega) (beq_iff_eq.1 hj)
  unfold openFromSearch
  rw [hh]
  exact if_neg (by simpa [Config.groupCapacity] using hroom)

/-- What open from search has found where it opens (R11). -/
theorem openFromSearch_inv {c : Carrier} {n : Nat} {t : State} (h : openFromSearch c l s = .done n t) :
    n < 96 ∧ planRecord s n = .empty ∧ memberCount s c.group < 24 ∧
      t = markStale (setRecord n (.handover c l) s) := by
  unfold openFromSearch at h
  split at h
  · cases h
  · next i hi =>
    split at h
    · cases h
    · next hroom =>
      cases h
      obtain ⟨hlt, he⟩ := (mem_indicesWhere ..).1 (List.mem_of_mem_head? hi)
      exact ⟨hlt, beq_iff_eq.1 he, by simpa [Config.groupCapacity] using hroom, rfl⟩

/-- A link without new carrier enters ORDERED with a record that had no owner, and joins its group where there is
room. -/
theorem KeepsLaws.ordered {r : RetuneRecord} {n : Nat} {c : Carrier} (he : entry s l = .enrolled e)
    (hp : e.phase.newCarrier = none) (hn : n < 96) (hfree : (planRecord s n).owner = none)
    (hroom : ∀ g, inGroup g (.handover c l) = true → inGroup g (planRecord s n) = true ∨ memberCount s g < 24) :
    KeepsLaws s (enterOrdered r n l (markStale (setRecord n (.handover c l) s))) where
  settings := settings_enterOrdered r n
  groups hs := (groupsShrink_of_records (congrArg Plan.records (enterOrdered_plan r n))).keeps
    (groupsWithinCapacity_setRecord hn hs hroom)
  binding hs := ownershipBinding_open hs hfree (by rw [links_enrolled he, hp])
    ((planRecord_of_records (congrArg Plan.records (enterOrdered_plan r n))).trans
      (planRecord_setRecord_update hn _))
    (links_enterOrdered r n he)

end

/-! ## Search results and the engine -/

theorem keepsLaws_applySearchResult (s : State) (l : Nat) (f : FindResult) :
    KeepsLaws s (applySearchResult l f s) := by
  unfold applySearchResult
  split
  · next e he =>
    split
    · next rec_ place hp =>
      have hnone : newCarrierOf s l = none := by rw [newCarrierOf_enrolled he, hp]; rfl
      split
      · exact .of_standing (standing_joinWaitList s l)
      · split
        · exact .of_standing (standing_endRetune s _ hnone)
        · dsimp only
          split
          · exact .of_standing (standing_endRetune s _ hnone)
          · exact .of_standing (standing_endRetune s _ hnone)
          · next n t ho =>
            obtain ⟨hn, hempty, hroom, rfl⟩ := openFromSearch_inv ho
            refine .ordered he (by rw [hp]; rfl) hn (by rw [hempty]; rfl) fun g hg => .inr ?_
            simp only [inGroup, PlanRecord.carrier, beq_iff_eq] at hg
            exact hg ▸ hroom
    · exact .of_standing rfl
  · exact .of_standing rfl

theorem keepsLaws_deliverResult (s : State) (r : EngineRequest) (result : EngineResult) :
    KeepsLaws s (deliverResult r result s) := by
  cases result with
  | check c => exact .of_standing (standing_deliverResult_check s r c)
  | find f =>
    unfold deliverResult
    split
    · exact .of_standing rfl
    · have hidle : KeepsLaws s { s with engine.running := none } := .of_standing rfl
      exact hidle.trans ((keepsLaws_applySearchResult _ _ f).trans (.of_standing (standing_serveWaitList _)))

theorem keepsLaws_completeRequest (s : State) (r : EngineRequest) (result : EngineResult) :
    KeepsLaws s (completeRequest r result s) :=
  (keepsLaws_deliverResult s r result).trans (.of_standing (standing_startHead _))

theorem keepsLaws_evaluateRunning (s : State) : KeepsLaws s (evaluateRunning s) := by
  unfold evaluateRunning
  split
  · exact .of_standing rfl
  · split
    · exact keepsLaws_completeRequest ..
    · dsimp only
      split
      · exact keepsLaws_completeRequest ..
      · split
        · exact keepsLaws_completeRequest ..
        · exact .of_standing rfl

/-! ## Closing, releasing and completing (R13 to R15) -/

section
variable {s : State} {l : Nat} {e : EnrolledLink}

theorem groupsShrink_empty (n : Nat) : GroupsShrink s (setRecord n .empty s) :=
  groupsShrink_setRecord fun g hg => by simp [inGroup, PlanRecord.carrier] at hg

/-- The operations on a plan record that take it out of its group or leave it there. -/
theorem groupsShrink_closeRecord (n : Nat) : GroupsShrink s (closeRecord n s) := by
  unfold closeRecord
  split
  · exact groupsShrink_empty n
  · exact groupsShrink_of_records rfl

theorem groupsShrink_releaseRecord (n : Nat) : GroupsShrink s (releaseRecord n s) := by
  unfold releaseRecord
  split
  · next hn => exact groupsShrink_setRecord fun g hg => by rw [hn]; exact hg
  · exact groupsShrink_of_records rfl

theorem groupsShrink_promoteRecord (n : Nat) : GroupsShrink s (promoteRecord n s) := by
  unfold promoteRecord
  split
  · next hn => exact groupsShrink_setRecord fun g hg => by rw [hn]; exact hg
  · exact groupsShrink_of_records rfl

theorem groupsShrink_releaseOldRecord (n : Nat) (keep : Bool) : GroupsShrink s (releaseOldRecord n keep s) := by
  unfold releaseOldRecord
  split
  · next hn =>
    refine groupsShrink_setRecord fun g hg => ?_
    rw [hn]
    cases keep
    · simp [inGroup, PlanRecord.carrier] at hg
    · exact hg
  · exact groupsShrink_of_records rfl

@[simp] theorem settings_closeRecord (n : Nat) : settings (closeRecord n s) = settings s := by
  unfold closeRecord; split <;> rfl

@[simp] theorem settings_releaseRecord (n : Nat) : settings (releaseRecord n s) = settings s := by
  unfold releaseRecord; split <;> rfl

@[simp] theorem settings_promoteRecord (n : Nat) : settings (promoteRecord n s) = settings s := by
  unfold promoteRecord; split <;> rfl

@[simp] theorem settings_releaseOldRecord (n : Nat) (keep : Bool) :
    settings (releaseOldRecord n keep s) = settings s := by
  unfold releaseOldRecord; split <;> rfl

theorem closeRecord_handover {n : Nat} {c : Carrier} {o : Nat} (h : planRecord s n = .handover c o) :
    closeRecord n s = markStale (setRecord n .empty s) := by
  simp [closeRecord, h]

theorem releaseRecord_active {n : Nat} {c : Carrier} {o : Nat} (h : planRecord s n = .active c o) :
    releaseRecord n s = markStale (setRecord n (.reserved c) s) := by
  simp [releaseRecord, h]

theorem promoteRecord_handover {n : Nat} {c : Carrier} {o : Nat} (h : planRecord s n = .handover c o) :
    promoteRecord n s = markStale (setRecord n (.active c o) s) := by
  simp [promoteRecord, h]

theorem releaseOldRecord_active {n : Nat} {c : Carrier} {o : Nat} (keep : Bool) (h : planRecord s n = .active c o) :
    releaseOldRecord n keep s = markStale (setRecord n (if keep then .reserved c else .empty) s) := by
  simp [releaseOldRecord, h]

@[simp] theorem entry_closeRecord (n : Nat) : entry (closeRecord n s) = entry s := by
  unfold closeRecord; split <;> rfl

@[simp] theorem entry_releaseRecord (n : Nat) : entry (releaseRecord n s) = entry s := by
  unfold releaseRecord; split <;> rfl

@[simp] theorem entry_promoteRecord (n : Nat) : entry (promoteRecord n s) = entry s := by
  unfold promoteRecord; split <;> rfl

@[simp] theorem entry_releaseOldRecord (n : Nat) (keep : Bool) : entry (releaseOldRecord n keep s) = entry s := by
  unfold releaseOldRecord; split <;> rfl

/-- The record of a link's carrier under the binding. -/
theorem OwnershipBinding.carrier (h : OwnershipBinding s) (he : entry s l = .enrolled e) :
    ∃ c, planRecord s e.carrier = .active c l := (h.1 l e he).1

theorem OwnershipBinding.newCarrier (h : OwnershipBinding s) (he : entry s l = .enrolled e) {r : RetuneRecord}
    {n : Nat} (hp : e.phase = .ordered r n) : ∃ c, planRecord s n = .handover c l := (h.1 l e he).2 r n hp

/-- The abort of a retune from ORDERED closes the new carrier (R112). -/
theorem keepsLaws_abortOrdered (result : RetuneResult) {r : RetuneRecord} {n : Nat} (he : entry s l = .enrolled e)
    (hp : e.phase = .ordered r n) :
    KeepsLaws s (endRetune result l (removeTunePending l (closeRecord n s))) where
  settings := (settings_endRetune result).trans (settings_closeRecord n)
  groups := ((groupsShrink_closeRecord n).trans (groupsShrink_of_records
    (congrArg Plan.records (endRetune_plan (s := removeTunePending l (closeRecord n s)) result)))).keeps
  binding hs := by
    obtain ⟨c, hc⟩ := hs.newCarrier he hp
    rw [closeRecord_handover hc]
    refine ownershipBinding_close hs (by rw [links_enrolled he, hp]; rfl) ?_ (links_endRetune _ he)
    exact (planRecord_of_records (congrArg Plan.records (endRetune_plan result))).trans
      (planRecord_setRecord_update (lt_of_planRecord_ne (by rw [hc]; simp)) _)

theorem keepsLaws_abortRetune (s : State) (result : RetuneResult) (l : Nat) :
    KeepsLaws s (abortRetune result l s) := by
  unfold abortRetune
  split
  · next e he =>
    have hseek (r place) (hp : e.phase = .seeking r place) : standing (endRetune result l s) = standing s :=
      standing_endRetune s _ (by rw [newCarrierOf_enrolled he, hp]; rfl)
    split
    · exact .of_standing rfl
    · next r hp => exact .of_standing ((standing_cancelSearch _ l).trans (hseek r _ hp))
    · next r hp => exact .of_standing (hseek r _ hp)
    · next r n hp => exact keepsLaws_abortOrdered result he hp
  · exact .of_standing rfl

/-- After the abort no new carrier is left. -/
theorem newCarrierOf_abortRetune (s : State) (result : RetuneResult) (l : Nat) :
    newCarrierOf (abortRetune result l s) l = none := by
  unfold abortRetune
  split
  · next e he =>
    have hend {u : State} (hu : entry u l = .enrolled e) : newCarrierOf (endRetune result l u) l = none := by
      rw [newCarrierOf_links, links_endRetune result hu, Function.update_self]; rfl
    split
    · next hp => rw [newCarrierOf_enrolled he, hp]; rfl
    · rw [newCarrierOf_standing (standing_cancelSearch _ l), hend he]
    · exact hend he
    · exact hend (by simpa using he)
  · next hne =>
    cases h : entry s l with
    | enrolled e => exact absurd h (hne e)
    | _ => simp [newCarrierOf_links, links, h, heldRecords]

/-- A link without new carrier leaves the directory's ENROLLED entries and releases its record (R15, R75). -/
theorem keepsLaws_unbind (h : newCarrierOf s l = none) : KeepsLaws s (unbind l s) := by
  unfold unbind
  split
  · next e he =>
    rw [enrolledLink_eq_some] at he
    rw [newCarrierOf_enrolled he] at h
    refine ⟨settings_releaseRecord _, (groupsShrink_releaseRecord _).keeps, fun hs => ?_⟩
    obtain ⟨c, hc⟩ := hs.carrier he
    rw [releaseRecord_active hc]
    refine ownershipBinding_release hs (by rw [links_enrolled he, h]) rfl
      (planRecord_setRecord_update (lt_of_planRecord_ne (by rw [hc]; simp)) (.reserved c)) ?_
    exact links_setEntry (enrolled_lt s he) (retiredEntry e)
  · exact .of_standing rfl

/-- A retired link is not ENROLLED any more. -/
theorem isEnrolled_unbind (s : State) (l : Nat) : (entry (unbind l s) l).isEnrolled = false := by
  unfold unbind
  split
  · next e he =>
    rw [enrolledLink_eq_some] at he
    rw [entry_setEntry, if_pos ⟨rfl, enrolled_lt s he⟩]
    rfl
  · next hne =>
    unfold enrolledLink at hne
    split at hne
    · cases hne
    · next hne' =>
      cases h : entry s l with
      | enrolled e => exact absurd h (hne' e)
      | _ => rfl

theorem standing_retire (s : State) (l : Nat) :
    standing (retire l s) = standing (unbind l (abortRetune .retired l s)) := by
  simp [retire]

theorem isEnrolled_retire (s : State) (l : Nat) : (entry (retire l s) l).isEnrolled = false := by
  have hl : heldRecords (entry (retire l s) l) = heldRecords (entry (unbind l (abortRetune .retired l s)) l) :=
    congrFun (links_of_standing (standing_retire s l)) l
  rw [heldRecords_of_not_enrolled (isEnrolled_unbind _ l)] at hl
  cases h : entry (retire l s) l with
  | enrolled e => rw [h] at hl; cases hl
  | _ => rfl

theorem keepsLaws_retire (s : State) (l : Nat) : KeepsLaws s (retire l s) := by
  refine (keepsLaws_abortRetune s .retired l).trans
    ((keepsLaws_unbind (newCarrierOf_abortRetune s .retired l)).trans (.of_standing (standing_retire s l)))

end

end Sys2Proof.Machine
end

section
/-! SUPPORT. Completion, reports and requests keep the group capacities and the binding; so does every command that
writes no setting, and every step that runs none. -/

namespace Sys2Proof.Machine

section
variable {s : State} {l : Nat} {e : EnrolledLink}

/-! ## Completing a retune -/

/-- The completion under the binding (R13, R111): what becomes of the records. -/
theorem completeRetune_plan {r : RetuneRecord} {n : Nat} {c d : Carrier} {o o' : Nat} (he : entry s l = .enrolled e)
    (hc : planRecord s e.carrier = .active c o) (hd : planRecord s n = .handover d o') :
    planRecord (completeRetune r n l s) =
      Function.update (Function.update (planRecord s) n (.active d o')) e.carrier
        (if r.keepOld then .reserved c else .empty) := by
  have hne : n ≠ e.carrier := by rintro rfl; rw [hc] at hd; cases hd
  have hn : n < 96 := lt_of_planRecord_ne (by rw [hd]; simp)
  have hk : e.carrier < 96 := lt_of_planRecord_ne (by rw [hc]; simp)
  have hold : planRecord (promoteRecord n s) e.carrier = .active c o := by
    simp [promoteRecord_handover hd, planRecord_setRecord, hne, hc]
  unfold completeRetune
  rw [he]
  dsimp only
  rw [planRecord_of_records (congrArg Plan.records (endRetune_plan _)),
    planRecord_of_records (congrArg Plan.records (removeTunePending_plan _ l)),
    planRecord_of_records (congrArg Plan.records (updateLink_plan _)), releaseOldRecord_active _ hold,
    promoteRecord_handover hd]
  refine (planRecord_setRecord_update hk _).trans ?_
  exact congrArg (fun f => Function.update f e.carrier _) (planRecord_setRecord_update hn (.active d o'))

theorem groupsShrink_completeRetune (r : RetuneRecord) (n : Nat) : GroupsShrink s (completeRetune r n l s) := by
  unfold completeRetune
  split
  · next e _ =>
    have hrec := (groupsShrink_promoteRecord (s := s) n).trans (groupsShrink_releaseOldRecord e.carrier r.keepOld)
    exact hrec.trans (groupsShrink_of_records (by simp))
  · exact groupsShrink_of_records rfl

theorem settings_completeRetune (r : RetuneRecord) (n : Nat) : settings (completeRetune r n l s) = settings s := by
  unfold completeRetune
  split
  · rw [settings_endRetune]
    exact (settings_updateLink _).trans ((settings_releaseOldRecord _ _).trans (settings_promoteRecord n))
  · rfl

theorem links_completeRetune (r : RetuneRecord) (n : Nat) (he : entry s l = .enrolled e) :
    links (completeRetune r n l s) = Function.update (links s) l (some (n, none)) := by
  unfold completeRetune
  rw [he]
  dsimp only
  have hu : entry (releaseOldRecord e.carrier r.keepOld (promoteRecord n s)) l = .enrolled e := by simp [he]
  have hn : entry (removeTunePending l (updateLink l (fun e => { e with carrier := n })
      (releaseOldRecord e.carrier r.keepOld (promoteRecord n s)))) l = .enrolled { e with carrier := n } := by
    exact entry_updateLink_self _ hu
  rw [links_endRetune _ hn]
  have hl : links (releaseOldRecord e.carrier r.keepOld (promoteRecord n s)) = links s := by
    funext j; simp [links]
  have hr {u : State} : links (removeTunePending l u) = links u := rfl
  rw [hr, links_updateLink _ hu, Function.update_idem, hl]

theorem keepsLaws_completeRetune {r r' : RetuneRecord} {n : Nat} (he : entry s l = .enrolled e)
    (hp : e.phase = .ordered r' n) : KeepsLaws s (completeRetune r n l s) where
  settings := settings_completeRetune r n
  groups := (groupsShrink_completeRetune r n).keeps
  binding hs := by
    obtain ⟨c, hc⟩ := hs.carrier he
    obtain ⟨d, hd⟩ := hs.newCarrier he hp
    refine ownershipBinding_complete hs (by rw [links_enrolled he, hp]; rfl) ?_ (completeRetune_plan he hc hd)
      (links_completeRetune r n he)
    split <;> rfl

/-! ## Reports -/

theorem keepsLaws_reportEnrolled (r : HeardReport) (he : entry s l = .enrolled e) :
    KeepsLaws s (reportEnrolled l e r s) := by
  have hpres := standing_applyPresence s l e r
  unfold reportEnrolled
  split
  · exact .of_standing rfl
  · exact .of_standing (by simp)
  · next rec_ n hlies =>
    dsimp only
    refine KeepsLaws.trans ?_ (.of_standing (standing_compareEcho _ _ _))
    split
    · have hn : newCarrierOf (applyPresence l e r s) l = some n := by
        rw [newCarrierOf_standing hpres, newCarrierOf_enrolled he]
        unfold whereLies at hlies
        dsimp only at hlies
        split at hlies
        · split at hlies
          · next hp _ => cases hlies; rw [hp]; rfl
          · split at hlies <;> cases hlies
        · split at hlies <;> cases hlies
      rw [newCarrierOf_links] at hn
      obtain ⟨e', r', he', hp'⟩ := namedNewCarrier_eq_some.1 hn
      exact (KeepsLaws.of_standing hpres).trans (keepsLaws_completeRetune he' hp')
    · exact .of_standing hpres

/-- Writing an entry where none is ENROLLED, by one that is not. -/
theorem standing_setEntry_free {x : LinkEntry} (h : (entry s l).isEnrolled = false) (hx : x.isEnrolled = false) :
    standing (setEntry l x s) = standing s := by
  exact standing_setEntry s ((heldRecords_of_not_enrolled hx).trans (heldRecords_of_not_enrolled h).symm)

theorem standing_admitStranger (s : State) (r : HeardReport) : standing (admitStranger r s) = standing s := by
  unfold admitStranger
  split
  · next i hi =>
    have hfree : (entry s i).isEnrolled = false := by simpa using List.find?_some hi
    rw [standing_markChanged, standing_setEntry_free hfree rfl]
  · rfl

theorem keepsLaws_handleReport (s : State) (r : HeardReport) : KeepsLaws s (handleReport r s) := by
  unfold handleReport
  split
  · split
    · next he => exact keepsLaws_reportEnrolled r he
    · next hn => exact .of_standing (standing_setEntry_free (by rw [hn]; rfl) rfl)
    · exact .of_standing rfl
  · dsimp only
    refine KeepsLaws.trans (.of_standing (standing_capture s .unknown r)) ?_
    split
    · exact .of_standing (standing_admitStranger _ r)
    · exact .of_standing rfl

end

theorem bindRecord_eq_some {s t : State} {i l : Nat} : bindRecord i l s = some t ↔
    ∃ c, planRecord s i = .reserved c ∧ t = markStale (setRecord i (.active c l) s) := by
  unfold bindRecord
  split <;> simp_all [eq_comm]

theorem openOnTarget_eq_some {s t : State} {i l : Nat} : openOnTarget i l s = some t ↔
    ∃ c, planRecord s i = .reserved c ∧ t = markStale (setRecord i (.handover c l) s) := by
  unfold openOnTarget
  split <;> simp_all [eq_comm]

/-! ## The requests that bind, open and release carriers -/

/-- The PLAN.PUT that is accepted: its record, which had no owner, takes a carrier whose group has room (R16). -/
theorem keepsLaws_planPutRule (s : State) (i st c h g : Nat) : KeepsLaws s ((planPutRule i st c h g s).after s) := by
  unfold planPutRule
  split
  · exact .of_standing rfl
  · next hrange =>
    split
    · exact .of_standing rfl
    · next build hbuild =>
      dsimp only
      split
      · exact .of_standing rfl
      · next hown =>
        split
        · exact .of_standing rfl
        · next hroom =>
          have hi : i < 96 := by simp at hrange; omega
          have hfree : (planRecord s i).owner = none := by simpa [PlanRecord.isOwn] using hown
          have hput (x : Carrier) : (build x).owner = none ∧ (build x).carrier = some x := by
            unfold putStateChoice at hbuild
            split at hbuild <;> cases hbuild <;> exact ⟨rfl, rfl⟩
          refine ⟨rfl, fun hs => ?_, fun hs => ?_⟩
          · refine groupsWithinCapacity_setRecord hi hs fun g' hg' => ?_
            simp only [inGroup, (hput _).2, beq_iff_eq] at hg'
            subst hg'
            by_contra hno
            push Not at hno
            exact hroom (by simp [joinsGroup, Config.groupCapacity, hno])
          · exact ownershipBinding_write hs hfree (hput _).1 (planRecord_setRecord_update hi _) rfl

theorem keepsLaws_planDropRule (s : State) (i : Nat) : KeepsLaws s ((planDropRule i s).after s) := by
  have hdrop (hi : i < 96) (h : (planRecord s i).owner = none) : KeepsLaws s (markStale (setRecord i .empty s)) :=
    ⟨rfl, (groupsShrink_empty i).keeps,
      fun hs => ownershipBinding_write hs h rfl (planRecord_setRecord_update hi _) rfl⟩
  unfold planDropRule
  split
  · exact .of_standing rfl
  · split
    · exact .of_standing rfl
    · exact .of_standing rfl
    · exact .of_standing rfl
    · next hr => exact hdrop (by omega) (by rw [hr]; rfl)
    · next hr => exact hdrop (by omega) (by rw [hr]; rfl)

theorem keepsLaws_linkRetuneRule (s : State) (l n k : Nat) : KeepsLaws s ((linkRetuneRule l n k s).after s) := by
  unfold linkRetuneRule
  dsimp only
  split
  · exact .of_standing rfl
  · split
    · exact .of_standing rfl
    · split
      · next e he =>
        split
        · next hp =>
          have hstop := standing_stopDelay s l
          split
          · refine .of_standing ((standing_startSeeking _ _ _ ?_).trans hstop)
            refine (newCarrierOf_standing hstop l).trans ?_
            rw [newCarrierOf_enrolled he, hp]
            rfl
          · next i hi =>
            split
            · exact .of_standing rfl
            · next t ht =>
              obtain ⟨c, hc, rfl⟩ := openOnTarget_eq_some.1 ht
              refine (KeepsLaws.of_standing hstop).trans ?_
              refine .ordered (e := { e with delayTimer := none }) ?_ (by rw [hp]; rfl)
                (lt_of_planRecord_ne (by rw [hc]; simp)) ?_ fun g hg => .inl ?_
              · exact entry_updateLink_self _ he
              · exact congrArg PlanRecord.owner hc
              · exact (congrArg (inGroup g) hc).trans hg
        · exact .of_standing rfl
      · exact .of_standing rfl

theorem keepsLaws_linkHaltRule (s : State) (l : Nat) : KeepsLaws s ((linkHaltRule l s).after s) := by
  unfold linkHaltRule
  split
  · exact .of_standing rfl
  · split
    · split
      · exact .of_standing rfl
      · exact keepsLaws_abortRetune s .halted l
    · exact .of_standing rfl

/-- The bind and the enrollment of an entry that was not ENROLLED (R10, R73). -/
theorem keepsLaws_linkEnrollRule (s : State) (l x k i : Nat) (q : LinkParams) (o : Nat) :
    KeepsLaws s ((linkEnrollRule l x k i q o s).after s) := by
  unfold linkEnrollRule
  split
  · exact .of_standing rfl
  · next hrange =>
    split
    · next role st _ _ =>
      split
      · exact .of_standing rfl
      · next hfree =>
        split
        · exact .of_standing rfl
        · split
          · exact .of_standing rfl
          · split
            · exact .of_standing rfl
            · next t ht =>
              obtain ⟨c, hc, rfl⟩ := bindRecord_eq_some.1 ht
              have hl : l < 64 := by simp at hrange; omega
              have hi : i < 96 := lt_of_planRecord_ne (by rw [hc]; simp)
              have hnone : links s l = none :=
                heldRecords_of_not_enrolled (by simpa using hfree)
              have hjoin : GroupsShrink s (setRecord i (.active c l) s) :=
                groupsShrink_setRecord fun g hg => by rw [hc]; exact hg
              have hbind : KeepsLaws s (setEntry l (.enrolled (enrolledEntry x role i st))
                  (markStale (setRecord i (.active c l) s))) :=
                ⟨rfl, hjoin.keeps,
                  fun hs => ownershipBinding_bind hs (by rw [hc]; rfl) hnone (planRecord_setRecord_update hi _)
                    (links_setEntry hl _)⟩
              refine hbind.trans (.of_standing ?_)
              simp [enroll]
    · exact .of_standing rfl

theorem keepsLaws_linkRetireRule (s : State) (l : Nat) : KeepsLaws s ((linkRetireRule l s).after s) := by
  unfold linkRetireRule
  split
  · exact .of_standing rfl
  · split
    · exact keepsLaws_retire s l
    · exact .of_standing rfl

theorem standing_vacate {s : State} {l : Nat} (h : (entry s l).isEnrolled = false) :
    standing (vacate l s) = standing s := standing_setEntry_free h rfl

theorem keepsLaws_linkEraseRule (s : State) (l : Nat) : KeepsLaws s ((linkEraseRule l s).after s) := by
  unfold linkEraseRule
  split
  · exact .of_standing rfl
  · split
    · exact .of_standing rfl
    · next hn => exact .of_standing (standing_vacate (by rw [hn]; rfl))
    · exact (keepsLaws_retire s l).trans (.of_standing (standing_vacate (isEnrolled_retire s l)))

/-! ## Every command but the writers of settings -/

/-- The commands that write a setting or the survey, and the two resets. -/
def writesSettings : Instr → Bool
  | .hardwareReset | .runRestart _
  | .groupSet _ _ _ _ _ _ _ _ _ _ | .directoryPin _ _ | .directoryAdmit _ _ | .retuneLimit _ _ | .tallyMap _ _ _
  | .lampSet _ _ _ _ _ _ | .causeMask _ _
  | .surveySetup _ _ _ _ | .surveyStart _ _ _ _ _ _ _ | .surveyStop _ _ | .binsClear _ _ _ | .sample _ _ => true
  | _ => false

/-- The commands that bind, open, close and release plan records. -/
theorem exec_records_keepsLaws {c : Instr} {s t : State} (hc : writesSettings c = false)
    (ht : touchesStanding c = true) (h : exec c s = .next t) : KeepsLaws s t := by
  cases c <;> cases hc <;> cases ht <;> cases h
  case planPut p i st c h g => exact .takeRequest (keepsLaws_planPutRule · i st c h g)
  case planDrop p i => exact .takeRequest (keepsLaws_planDropRule · i)
  case candidateEvaluation => exact keepsLaws_evaluateRunning s
  case linkEnroll p l x k i q o => exact .takeRequest (keepsLaws_linkEnrollRule · l x k i q o)
  case linkRetire p l => exact .takeRequest (keepsLaws_linkRetireRule · l)
  case linkErase p l => exact .takeRequest (keepsLaws_linkEraseRule · l)
  case heard r =>
    split
    · exact .of_standing (standing_discardMalformed s _)
    · exact (KeepsLaws.of_standing (standing_completeMessage s .receiver)).trans
        ((keepsLaws_handleReport _ r).trans (.of_standing (standing_moveRover _)))
  case linkRetune p l n k => exact .takeRequest (keepsLaws_linkRetuneRule · l n k)
  case linkHalt p l => exact .takeRequest (keepsLaws_linkHaltRule · l)
  case retuneLimitExpiry l =>
    split
    · split
      · split
        · exact keepsLaws_abortRetune s _ l
        · exact .of_standing rfl
      · exact .of_standing rfl
    · exact .of_standing rfl

theorem exec_keepsLaws {c : Instr} {s t : State} (hc : writesSettings c = false) (h : exec c s = .next t) :
    KeepsLaws s t := by
  cases ht : touchesStanding c with
  | false => exact .of_standing (exec_standing s ht h)
  | true => exact exec_records_keepsLaws hc ht h

/-! ## Steps without a command -/

@[simp] theorem standing_post (c : Instr) (s : State) : standing (post c s) = standing s := rfl

theorem standing_gather (a : Arrival) (s : State) : standing (gather a s) = standing s := by
  unfold gather
  split
  · unfold gatherService
    dsimp only
    split <;> rfl
  · unfold gatherPort
    dsimp only
    split
    · rfl
    · split
      · exact standing_setPortPartial ..
      · exact standing_completeMessage ..
  · unfold takeTransaction
    split <;> rfl

/-- While no command waits nothing of plan, directory and survey changes: at most the clock counts. -/
theorem idle_keeps (s : State) : planRecord (idle s) = planRecord s ∧ links (idle s) = links s ∧
    (idle s).survey = s.survey := by
  unfold idle
  split
  · next a rest _ =>
    have h := standing_gather a { s with arriving := rest }
    exact ⟨planRecord_of_records (records_of_standing h), links_of_standing h,
      congrArg Settings.survey (settings_of_standing h)⟩
  · exact ⟨rfl, rfl, rfl⟩

/-- What every command keeps and an idle step keeps, every step keeps. -/
theorem step_keeps {P : State → Prop} (hqueue : ∀ s rest, P s → P { s with pending := rest })
    (hexec : ∀ c s t, exec c s = .next t → P s → P t) (hidle : ∀ s, P s → P (idle s)) {s t : State}
    (h : step s = .next t) (hs : P s) : P t := by
  unfold step at h
  split at h
  · exact hexec _ _ _ h (hqueue _ _ hs)
  · cases h
    exact hidle s hs

end Sys2Proof.Machine
end

section
/-! SUPPORT. The writers of the settings, the warm restart, and what every command keeps: the capacities, the binding,
the survey jobs and the settings. -/

namespace Sys2Proof.Machine

variable {s t : State}

/-! ## The requests that write a setting -/

/-- A request relates the standing parts before and after as its rule does, where a relation holds of an unchanged
one. -/
theorem takeRequest_standing {R : Standing → Standing → Prop} (hR : ∀ a, R a a) {p : Port} {c : RequestCode}
    {rule : State → Verdict} (h : ∀ u, R (standing u) (standing ((rule u).after u))) :
    R (standing s) (standing (takeRequest p c rule s)) := by
  have hu := h (completeFrame p s)
  obtain ⟨r, ht | ht⟩ := takeRequest_after s p c rule
  · rw [ht, standing_respond]
    rwa [standing_completeFrame] at hu
  · rw [ht, standing_respond, standing_completeFrame]
    exact hR _

/-- The settings of `b` are those of `a` but for what the request writes; plan records and links are the same. -/
def WritesSetting (c : RequestCode) (a b : Standing) : Prop :=
  b = { a with settings := match c with
    | .groupSet => { a.settings with groups := b.settings.groups }
    | .directoryPin => { a.settings with pinBound := b.settings.pinBound }
    | .directoryAdmit => { a.settings with autoAdmit := b.settings.autoAdmit }
    | .retuneLimit => { a.settings with retuneLimit := b.settings.retuneLimit }
    | .tallyMap => { a.settings with tallyMap := b.settings.tallyMap }
    | .lampSet => { a.settings with lamps := b.settings.lamps }
    | .causeMask => { a.settings with unmasked := b.settings.unmasked }
    | .surveySetup => { a.settings with survey := { b.settings.survey with jobs := a.settings.survey.jobs } }
    | .surveyStart | .surveyStop =>
      { a.settings with survey := { b.settings.survey with window := a.settings.survey.window } }
    | .binsClear => { a.settings with survey := { a.settings.survey with bins := b.settings.survey.bins } }
    | _ => a.settings }

theorem writesSetting_refl (c : RequestCode) (a : Standing) : WritesSetting c a a := by
  unfold WritesSetting
  split <;> rfl

theorem writesSetting_takeRequest {p : Port} {c : RequestCode} {rule : State → Verdict}
    (h : ∀ u, WritesSetting c (standing u) (standing ((rule u).after u))) :
    WritesSetting c (standing s) (standing (takeRequest p c rule s)) :=
  takeRequest_standing (writesSetting_refl c) h

theorem writes_groupSetRule (g lo up gs gp two three st lim : Nat) :
    WritesSetting .groupSet (standing s) (standing ((groupSetRule g lo up gs gp two three st lim s).after s)) := by
  unfold groupSetRule
  split
  · exact writesSetting_refl ..
  · split
    · dsimp only
      split
      · exact writesSetting_refl ..
      · rfl
    · exact writesSetting_refl ..

theorem writes_directoryPinRule (b : Nat) :
    WritesSetting .directoryPin (standing s) (standing ((directoryPinRule b s).after s)) := by
  unfold directoryPinRule
  split <;> rfl

theorem writes_directoryAdmitRule (x : Nat) :
    WritesSetting .directoryAdmit (standing s) (standing ((directoryAdmitRule x s).after s)) := by
  unfold directoryAdmitRule
  split <;> rfl

theorem writes_tallyMapRule (a l : Nat) :
    WritesSetting .tallyMap (standing s) (standing ((tallyMapRule a l s).after s)) := by
  unfold tallyMapRule
  dsimp only
  split
  · rfl
  · rw [after_accept, standing_recomputeCues]
    rfl

theorem writes_lampSetRule (n l c d v : Nat) :
    WritesSetting .lampSet (standing s) (standing ((lampSetRule n l c d v s).after s)) := by
  unfold lampSetRule
  dsimp only
  split
  · rfl
  · split <;> rfl

theorem writes_causeMaskRule (m : BitVec 16) :
    WritesSetting .causeMask (standing s) (standing ((causeMaskRule m s).after s)) := by
  unfold causeMaskRule
  split <;> rfl

theorem writes_surveySetupRule (a w : Nat) (x : Int) :
    WritesSetting .surveySetup (standing s) (standing ((surveySetupRule a w x s).after s)) := by
  unfold surveySetupRule
  split <;> rfl

theorem writes_surveyStartRule (j r b n m : Nat) (x : Int) :
    WritesSetting .surveyStart (standing s) (standing ((surveyStartRule j r b n m x s).after s)) := by
  unfold surveyStartRule
  split
  · rfl
  · split
    · rfl
    · split_ifs <;> rfl

theorem writes_surveyStopRule (j : Nat) :
    WritesSetting .surveyStop (standing s) (standing ((surveyStopRule j s).after s)) := by
  unfold surveyStopRule
  split
  · rfl
  · split <;> rfl

theorem writes_binsClearRule (a b : Nat) :
    WritesSetting .binsClear (standing s) (standing ((binsClearRule a b s).after s)) := by
  unfold binsClearRule
  split
  · rfl
  · rw [after_accept]
    unfold WritesSetting standing settings links entry
    dsimp only

/-- A SAMPLE writes bins and jobs alone (R54, R55). -/
theorem takeSample_standing (r : Nat) (x : Int) : standing (takeSample r x s) = { standing s with
    settings := { settings s with survey := { (takeSample r x s).survey with window := s.survey.window } } } := by
  unfold takeSample
  split
  · rfl
  · split
    · unfold fileSample
      dsimp only
      split_ifs <;> rfl
    · rfl

/-! ## The warm restart -/

/-- The blocks of feeds, tally, return port and control touch nothing of the standing part in a warm restart. -/
theorem standing_warmRestart (s : State) :
    standing (warmRestart s) = standing (restartLinks (restartPlanEngineSurvey s)) := by
  have hcontrol (u : State) : standing (restartControl u) = standing u := rfl
  have hreturn (u : State) : standing (restartReturn u) = standing u := rfl
  have htally (u : State) : standing (restartTally u) = standing u := by
    apply standing_congr <;> simp only [settings, restartTally]
  have hfeeds (u : State) : standing (restartFeeds u) = standing u := by
    apply standing_congr <;> simp only [settings, restartFeeds]
  have horders (u : State) : standing (placeDefaultOrders u) = standing u := standing_foldl u standing_orderFeed _
  rw [warmRestart, hcontrol, hreturn, htally, horders, hfeeds]

theorem survey_warmRestart (s : State) : (warmRestart s).survey =
    ⟨s.survey.window, Vector.replicate 256 none, rewrite (fun _ => SurveyJob.restarted) s.survey.jobs⟩ := by
  have h := congrArg Settings.survey (settings_of_standing (standing_warmRestart s))
  simpa only [settings, restartLinks, restartPlanEngineSurvey] using h

theorem settings_warmRestart (s : State) :
    settings (warmRestart s) = { settings s with survey := (warmRestart s).survey } := by
  rw [survey_warmRestart, settings_of_standing (standing_warmRestart s)]
  simp only [settings, restartLinks, restartPlanEngineSurvey]

theorem records_warmRestart (s : State) :
    (warmRestart s).plan.records = rewrite (fun _ => PlanRecord.restarted) s.plan.records := by
  rw [records_of_standing (standing_warmRestart s), restartLinks, restartPlanEngineSurvey]

theorem planRecord_warmRestart (s : State) (i : Nat) :
    planRecord (warmRestart s) i = (planRecord s i).restarted := by
  rw [planRecord, records_warmRestart, look_rewrite]
  split
  · rfl
  · next hi => rw [planRecord, look_out _ _ (by omega)]; rfl

theorem entry_restartLinks (s : State) (l : Nat) : entry (restartLinks s) l = (entry s l).restarted := by
  rw [entry, restartLinks, look_rewrite]
  split
  · rfl
  · next hl => rw [entry, look_out _ _ (by omega)]; rfl

theorem entry_restartPlanEngineSurvey (s : State) : entry (restartPlanEngineSurvey s) = entry s := by
  funext l; rw [entry, restartPlanEngineSurvey]; rfl

theorem links_warmRestart (s : State) (l : Nat) :
    links (warmRestart s) l = (links s l).map fun x => (x.1, none) := by
  rw [links_of_standing (standing_warmRestart s), links, links, entry_restartLinks, entry_restartPlanEngineSurvey]
  cases entry s l <;> rfl

theorem groupsShrink_warmRestart (s : State) : GroupsShrink s (warmRestart s) := by
  intro i g h
  rw [planRecord_warmRestart] at h
  cases hr : planRecord s i with
  | handover c o => rw [hr] at h; cases h
  | _ => rw [hr] at h; exact h

theorem ownershipBinding_warmRestart (h : OwnershipBinding s) : OwnershipBinding (warmRestart s) := by
  rw [ownershipBinding_iff] at h ⊢
  constructor
  · intro i l
    have hil := h.1 i l
    simp only [Function.comp_apply, planRecord_warmRestart, links_warmRestart, namedCarrier] at hil ⊢
    rw [show (planRecord s i).restarted.activeOwner = (planRecord s i).activeOwner by cases planRecord s i <;> rfl]
    cases hl : links s l <;> simpa [hl] using hil
  · intro i l
    simp only [Function.comp_apply, planRecord_warmRestart, links_warmRestart, namedNewCarrier]
    rw [show (planRecord s i).restarted.handoverOwner = none by cases planRecord s i <;> rfl]
    cases links s l <;> simp

/-! ## The laws under every command -/

theorem WritesSetting.same {c : RequestCode} (h : WritesSetting c (standing s) (standing t)) :
    planRecord t = planRecord s ∧ links t = links s := by
  unfold WritesSetting at h
  have hr : t.plan.records = s.plan.records := congrArg Standing.records h
  exact ⟨planRecord_of_records hr, congrArg Standing.links h⟩

/-- The requests that write a setting or the survey do so as `WritesSetting` says. -/
theorem exec_writesSetting {c : Instr} {p : Port} {code : RequestCode} {raws : List Raw}
    (hc : writesSettings c = true) (hw : ∀ p, c ≠ .runRestart p) (hp : requestParts c = some (p, code, raws))
    (h : exec c s = .next t) : WritesSetting code (standing s) (standing t) := by
  cases c <;> cases hc <;> cases hp <;> cases h
  case groupSet g lo up gs gp two three st lim =>
    exact writesSetting_takeRequest fun _ => writes_groupSetRule g lo up gs gp two three st lim
  case directoryPin b => exact writesSetting_takeRequest fun _ => writes_directoryPinRule b
  case directoryAdmit x => exact writesSetting_takeRequest fun _ => writes_directoryAdmitRule x
  case retuneLimit x => exact writesSetting_takeRequest fun _ => rfl
  case tallyMap a l => exact writesSetting_takeRequest fun _ => writes_tallyMapRule a l
  case lampSet n l c d v => exact writesSetting_takeRequest fun _ => writes_lampSetRule n l c d v
  case causeMask m => exact writesSetting_takeRequest fun _ => writes_causeMaskRule m
  case surveySetup a w x => exact writesSetting_takeRequest fun _ => writes_surveySetupRule a w x
  case surveyStart j r b n m x => exact writesSetting_takeRequest fun _ => writes_surveyStartRule j r b n m x
  case surveyStop j => exact writesSetting_takeRequest fun _ => writes_surveyStopRule j
  case binsClear a b => exact writesSetting_takeRequest fun _ => writes_binsClearRule a b
  case runRestart => exact absurd rfl (hw p)

theorem exec_sample_standing {r : Nat} {x : Int} (h : exec (.sample r x) s = .next t) :
    standing t = { standing s with
      settings := { settings s with survey := { t.survey with window := s.survey.window } } } := by
  cases h
  split
  · rw [discardMalformed_survey]
    exact standing_discardMalformed s _
  · rw [takeSample_standing, standing_completeMessage, settings_of_standing (standing_completeMessage s _),
      completeMessage_survey]

theorem exec_runRestart_standing {p : Port} (h : exec (.runRestart p) s = .next t) :
    standing t = standing s ∨ ∃ u, standing u = standing s ∧ standing t = standing (warmRestart u) := by
  cases h
  obtain ⟨r, ht | ht⟩ := takeRequest_after s p .runRestart runRestartRule
  · exact .inr ⟨_, standing_completeFrame s p, by rw [ht, standing_respond]; rfl⟩
  · exact .inl (by rw [ht, standing_respond, standing_completeFrame])

/-- After a hardware reset no record is in a group, and neither record nor link is bound. -/
theorem reset_unbound (hr : planRecord s = fun _ => .empty) (hl : links s = fun _ => none) :
    GroupsWithinCapacity s ∧ OwnershipBinding s := by
  constructor
  · intro g
    have hg : memberCount s g = 0 := by
      simp only [memberCount, indicesWhere, List.length_eq_zero_iff, List.filter_eq_nil_iff]
      intro i _
      rw [show look s.plan.records i = .empty from congrFun hr i]
      simp [inGroup, PlanRecord.carrier]
    omega
  · rw [ownershipBinding_iff, hr, hl]
    exact ⟨fun _ _ => by simp [PlanRecord.activeOwner, namedCarrier],
      fun _ _ => by simp [PlanRecord.handoverOwner, namedNewCarrier]⟩

@[simp] theorem planRecord_reset (i : Nat) : planRecord State.reset i = .empty := by
  rw [planRecord, State.reset, Plan.reset, look_replicate]; split <;> rfl

@[simp] theorem entry_reset (l : Nat) : entry State.reset l = .vacant := by
  rw [entry, State.reset, Directory.reset, look_replicate]; split <;> rfl

theorem writesSettings_cases {c : Instr} (hc : writesSettings c = true) :
    c = .hardwareReset ∨ (∃ p, c = .runRestart p) ∨ (∃ r x, c = .sample r x) ∨
      (∀ p, c ≠ .runRestart p) ∧ ∃ p code raws, requestParts c = some (p, code, raws) := by
  cases c <;> cases hc <;> simp [requestParts]

/-- What every command keeps of the group capacities and of the binding (R6 to R8). -/
theorem exec_keeps_groups_binding {c : Instr} (h : exec c s = .next t) :
    (GroupsWithinCapacity s → GroupsWithinCapacity t) ∧ (OwnershipBinding s → OwnershipBinding t) := by
  have hsame (hr : planRecord t = planRecord s) (hl : links t = links s) :
      (GroupsWithinCapacity s → GroupsWithinCapacity t) ∧ (OwnershipBinding s → OwnershipBinding t) :=
    ⟨GroupsShrink.keeps fun i g h => by rwa [hr] at h, fun h => ownershipBinding_congr h hr hl⟩
  cases hc : writesSettings c with
  | false =>
    have hk := exec_keepsLaws hc h
    exact ⟨hk.groups, hk.binding⟩
  | true =>
    rcases writesSettings_cases hc with rfl | ⟨p, rfl⟩ | ⟨r, x, rfl⟩ | ⟨hw, p, code, raws, hp⟩
    · cases h
      have hu := reset_unbound (s := { State.reset with pending := s.pending, arriving := s.arriving })
        (funext planRecord_reset) (funext fun l => congrArg heldRecords (entry_reset l))
      exact ⟨fun _ => hu.1, fun _ => hu.2⟩
    · rcases exec_runRestart_standing h with ht | ⟨u, hu, ht⟩
      · have hk := KeepsLaws.of_standing ht
        exact ⟨hk.groups, hk.binding⟩
      · have hk := KeepsLaws.of_standing hu
        have hk' := KeepsLaws.of_standing ht
        exact ⟨fun hs => hk'.groups ((groupsShrink_warmRestart u).keeps (hk.groups hs)),
          fun hs => hk'.binding (ownershipBinding_warmRestart (hk.binding hs))⟩
    · have ht := exec_sample_standing h
      exact hsame (planRecord_of_records (congrArg Standing.records ht)) (congrArg Standing.links ht)
    · obtain ⟨hr, hl⟩ := (exec_writesSetting hc hw hp h).same
      exact hsame hr hl

/-! ## The survey jobs (R50) -/

theorem jobAt_setJob (j i : Nat) (v : SurveyJob) :
    jobAt (setJob j v s) i = if j = i ∧ j < 4 then v else jobAt s i := look_put _ _ _ _

theorem jobsInOrder_congr (h : JobsInOrder s) (hj : jobAt t = jobAt s) : JobsInOrder t := by
  unfold JobsInOrder
  rwa [hj]

/-- A job is written that does not run, or runs in range on a receiver that no other job runs on. -/
theorem jobsInOrder_setJob {j : Nat} {v : SurveyJob} (h : JobsInOrder s)
    (hv : ∀ r, v = .running r → (1 ≤ r.remaining ∧ r.remaining ≤ 256 ∧ r.pointer ≤ 255) ∧
      ∀ i q, jobAt s i = .running q → q.receiver = r.receiver → i = j) : JobsInOrder (setJob j v s) := by
  refine ⟨fun i r hi => ?_, fun i k r q hi hk hrq => ?_⟩
  · rw [jobAt_setJob] at hi
    split at hi
    · exact (hv r hi).1
    · exact h.1 i r hi
  · rw [jobAt_setJob] at hi hk
    split at hi <;> split at hk
    · next hj hj' => exact hj.1.symm.trans hj'.1
    · next hj _ => exact hj.1.symm.trans ((hv r hi).2 k q hk hrq.symm).symm
    · next hj => exact ((hv q hk).2 i r hi hrq).trans hj.1
    · exact h.2 i k r q hi hk hrq

/-- A job that runs stands inside the table. -/
theorem running_lt {j : Nat} {r : JobRun} (h : jobAt s j = .running r) : j < 4 :=
  lt_of_look_ne s.survey.jobs j fun hd => by rw [jobAt, hd] at h; cases h

theorem jobsInOrder_surveyStartRule (j r b n m : Nat) (x : Int) (h : JobsInOrder s) :
    JobsInOrder ((surveyStartRule j r b n m x s).after s) := by
  unfold surveyStartRule
  split
  · exact h
  · next hrange =>
    split
    · exact h
    · split
      · exact h
      · split
        · exact h
        · next hfree =>
          refine jobsInOrder_setJob h fun run hrun => ?_
          cases hrun
          refine ⟨?_, fun i q hi hq => ?_⟩
          · simp at hrange
            dsimp only [jobCount]
            split <;> omega
          · refine absurd (List.any_eq_true.2 ⟨i, List.mem_range.2 (running_lt hi), ?_⟩) hfree
            rw [hi]
            simpa [SurveyJob.runsOn] using hq

theorem jobsInOrder_surveyStopRule (j : Nat) (h : JobsInOrder s) : JobsInOrder ((surveyStopRule j s).after s) := by
  unfold surveyStopRule
  split
  · exact h
  · split
    · exact jobsInOrder_setJob h fun _ hv => by cases hv
    · exact h

/-- A job that runs on after a sample had one left and keeps its receiver (R55). -/
theorem afterFiling_running {r q : JobRun} {b : Nat} {x : Int} (h : afterFiling r b x = .running q) :
    q = r ∧ r.remaining ≠ 0 := by
  unfold afterFiling at h
  split at h
  · cases h
  · next hr =>
    split at h
    · cases h; exact ⟨rfl, hr⟩
    · split at h <;> cases h
      exact ⟨rfl, hr⟩

theorem jobsInOrder_takeSample (r : Nat) (x : Int) (h : JobsInOrder s) : JobsInOrder (takeSample r x s) := by
  unfold takeSample
  split
  · exact h
  · next j _ =>
    split
    · next run hrun =>
      obtain ⟨h1, h256, h255⟩ := h.1 j run hrun
      have hset : JobsInOrder (setJob j (afterFiling { run with
          pointer := if run.pointer = 255 then 0 else run.pointer + 1, remaining := run.remaining - 1 }
          run.pointer x) s) := by
        refine jobsInOrder_setJob h fun q hq => ?_
        obtain ⟨rfl, hr⟩ := afterFiling_running hq
        refine ⟨?_, fun i q hi hqr => h.2 i j q run hi hrun hqr⟩
        dsimp only at hr ⊢
        split <;> omega
      unfold fileSample
      dsimp only
      generalize afterFiling _ run.pointer x = v at hset ⊢
      split <;> exact jobsInOrder_congr hset rfl
    · exact h

/-- Where no job runs the law holds. -/
theorem jobsInOrder_of_idle (h : ∀ j r, jobAt s j ≠ .running r) : JobsInOrder s :=
  ⟨fun j r hj => absurd hj (h j r), fun i _ r _ hi _ _ => absurd hi (h i r)⟩

theorem jobAt_warmRestart (s : State) (j : Nat) : jobAt (warmRestart s) j = (jobAt s j).restarted := by
  rw [jobAt, survey_warmRestart, look_rewrite]
  split
  · rfl
  · next hj => rw [jobAt, look_out _ _ (by omega)]; rfl

theorem jobsInOrder_warmRestart (s : State) : JobsInOrder (warmRestart s) :=
  jobsInOrder_of_idle fun j r hj => by
    rw [jobAt_warmRestart] at hj
    cases h : jobAt s j <;> rw [h] at hj <;> cases hj

@[simp] theorem jobAt_reset (j : Nat) : jobAt State.reset j = .idle := by
  rw [jobAt, State.reset, Survey.reset, look_replicate]; split <;> rfl

theorem jobAt_of_survey (h : t.survey.jobs = s.survey.jobs) : jobAt t = jobAt s := by
  funext j; rw [jobAt, jobAt, h]

theorem jobAt_of_standing (h : standing t = standing s) : jobAt t = jobAt s :=
  jobAt_of_survey (congrArg (fun x => x.settings.survey.jobs) h)

theorem jobsInOrder_takeRequest {p : Port} {c : RequestCode} {rule : State → Verdict} (h : JobsInOrder s)
    (hrule : ∀ u, JobsInOrder u → JobsInOrder ((rule u).after u)) : JobsInOrder (takeRequest p c rule s) := by
  have hf : JobsInOrder (completeFrame p s) := jobsInOrder_congr h (jobAt_of_standing (standing_completeFrame s p))
  obtain ⟨r, ht | ht⟩ := takeRequest_after s p c rule <;> rw [ht]
  · exact jobsInOrder_congr (hrule _ hf) (jobAt_of_standing (standing_respond ..))
  · exact jobsInOrder_congr hf (jobAt_of_standing (standing_respond ..))

/-- SURVEY.START and SURVEY.STOP alone write the jobs. -/
theorem WritesSetting.jobAt {c : RequestCode} (h : WritesSetting c (standing s) (standing t))
    (hstart : c ≠ .surveyStart) (hstop : c ≠ .surveyStop) : jobAt t = jobAt s := by
  have hj := congrArg (fun x => x.settings.survey.jobs) h
  refine jobAt_of_survey (hj.trans ?_)
  cases c with
  | surveyStart => exact absurd rfl hstart
  | surveyStop => exact absurd rfl hstop
  | _ => rfl

theorem surveyStart_or_stop {c : Instr} {p : Port} {code : RequestCode} {raws : List Raw}
    (hc : writesSettings c = true) (hp : requestParts c = some (p, code, raws)) :
    (∃ j r b n m x, c = .surveyStart p j r b n m x) ∨ (∃ j, c = .surveyStop p j) ∨
      code ≠ .surveyStart ∧ code ≠ .surveyStop := by
  cases c <;> cases hc <;> cases hp <;> simp

/-- What every command keeps of the survey jobs (R50). -/
theorem exec_keeps_jobs {c : Instr} (h : exec c s = .next t) (hs : JobsInOrder s) : JobsInOrder t := by
  cases hc : writesSettings c with
  | false =>
    refine jobsInOrder_congr hs (jobAt_of_survey ?_)
    rw [show t.survey = s.survey from congrArg Settings.survey (exec_keepsLaws hc h).settings]
  | true =>
    rcases writesSettings_cases hc with rfl | ⟨p, rfl⟩ | ⟨r, x, rfl⟩ | ⟨hw, p, code, raws, hp⟩
    · cases h
      exact jobsInOrder_of_idle fun j r hj => by cases (jobAt_reset j).symm.trans hj
    · rcases exec_runRestart_standing h with ht | ⟨u, hu, ht⟩
      · exact jobsInOrder_congr hs (jobAt_of_standing ht)
      · exact jobsInOrder_congr (jobsInOrder_warmRestart u) (jobAt_of_standing ht)
    · cases h
      split
      · exact jobsInOrder_congr hs (jobAt_of_standing (standing_discardMalformed s _))
      · exact jobsInOrder_takeSample _ _ (jobsInOrder_congr hs (jobAt_of_standing (standing_completeMessage s _)))
    · rcases surveyStart_or_stop hc hp with ⟨j, r, b, n, m, x, rfl⟩ | ⟨j, rfl⟩ | ⟨hstart, hstop⟩
      · cases h
        exact jobsInOrder_takeRequest hs fun _ => jobsInOrder_surveyStartRule j r b n m x
      · cases h
        exact jobsInOrder_takeRequest hs fun _ => jobsInOrder_surveyStopRule j
      · exact jobsInOrder_congr hs ((exec_writesSetting hc hw hp h).jobAt hstart hstop)

/-! ## The settings under every command -/

theorem settings_fields {x : Settings} (h : settings t = x) :
    t.plan.groups = x.groups ∧ t.dir.pinBound = x.pinBound ∧ t.dir.autoAdmit = x.autoAdmit ∧
    t.retune.limit = x.retuneLimit ∧ t.tally.map = x.tallyMap ∧ t.tally.lamps = x.lamps ∧
    t.ctl.unmasked = x.unmasked ∧ t.survey.window = x.survey.window ∧ t.clock = x.clock := by
  subst h
  exact ⟨rfl, rfl, rfl, rfl, rfl, rfl, rfl, rfl, rfl⟩

/-- What every command but a hardware reset may write of the settings. -/
theorem exec_settings {c : Instr} (h : exec c s = .next t) (hr : c ≠ .hardwareReset) :
    settings t = settings s ∨
    (∃ p code raws, requestParts c = some (p, code, raws) ∧ WritesSetting code (standing s) (standing t)) ∨
    ∃ v : Survey, v.window = s.survey.window ∧ settings t = { settings s with survey := v } := by
  cases hc : writesSettings c with
  | false => exact .inl (exec_keepsLaws hc h).settings
  | true =>
    rcases writesSettings_cases hc with rfl | ⟨p, rfl⟩ | ⟨r, x, rfl⟩ | ⟨hw, p, code, raws, hp⟩
    · exact absurd rfl hr
    · rcases exec_runRestart_standing h with ht | ⟨u, hu, ht⟩
      · exact .inl (settings_of_standing ht)
      · have hu := settings_of_standing hu
        refine .inr (.inr ⟨(warmRestart u).survey, ?_, ?_⟩)
        · rw [survey_warmRestart]
          exact congrArg (fun x => x.survey.window) hu
        · rw [settings_of_standing ht, settings_warmRestart, hu]
    · exact .inr (.inr ⟨{ t.survey with window := s.survey.window }, rfl,
        congrArg Standing.settings (exec_sample_standing h)⟩)
    · exact .inr (.inl ⟨p, code, raws, hp, exec_writesSetting hc hw hp h⟩)

end Sys2Proof.Machine
end


section
namespace Sys2Proof.Proofs
open Sys2Proof.Machine

/-- Settles O54: every command keeps the binding (`exec_keeps_groups_binding`), and a step without one touches no
link and no record (`idle_keeps`). -/
theorem stepsKeepOwnership : Obligations.StepsKeepOwnership := by
  unfold Obligations.StepsKeepOwnership
  intro s t hs h
  refine step_keeps (P := OwnershipBinding) (fun s rest hs => hs) (fun c s t h => (exec_keeps_groups_binding h).2)
    (fun s hs => ?_) h hs
  exact ownershipBinding_congr hs (idle_keeps s).1 (idle_keeps s).2.1

/-- Settles O53: the capacities and the order of the jobs are kept by every command and by a step without one. -/
theorem stepsKeepGroupsAndJobs : Obligations.StepsKeepGroupsAndJobs := by
  unfold Obligations.StepsKeepGroupsAndJobs
  constructor
  · intro s t hs h
    refine step_keeps (P := GroupsWithinCapacity) (fun s rest hs => hs)
      (fun c s t h => (exec_keeps_groups_binding h).1) (fun s hs => ?_) h hs
    exact GroupsShrink.keeps (fun i g h => by rwa [(idle_keeps s).1] at h) hs
  · intro s t hs h
    refine step_keeps (P := JobsInOrder) (fun s rest hs => hs) (fun c s t h => exec_keeps_jobs h) (fun s hs => ?_) h hs
    exact jobsInOrder_congr hs (jobAt_of_survey (congrArg Survey.jobs (idle_keeps s).2.2))

/-- Settles O49: a command writes no setting, or one that its request code names, or the survey beside its window
(`exec_settings`). -/
theorem settingsHaveOneWriter : Obligations.SettingsHaveOneWriter := by
  unfold Obligations.SettingsHaveOneWriter
  intro c s t h hr
  rcases exec_settings h hr with hk | ⟨p, code, raws, hp, hw⟩ | ⟨v, hv, hk⟩
  · have hf := settings_fields hk
    simp [hf, settings]
  · have hf := settings_fields (congrArg Standing.settings hw)
    cases code <;> simp [standing, settings] at hf <;> simp [hp, hf]
  · have hf := settings_fields hk
    simp [hf, settings, hv]

end Sys2Proof.Proofs
end

section
/-! SUPPORT. How requests answer, and the requests on band groups and plan records. -/

namespace Sys2Proof.Machine

variable {s t : State} {p : Port} {c : RequestCode} {rule : State → Verdict}

/-! ## Answers of requests -/

theorem authorised_of_maySend (h : MaySend p c s) : authorised p c (completeFrame p s) = true := by
  cases hm : mutating c with
  | false => exact authorised_read _ hm
  | true => simp [authorised, hm, h hm]

theorem maySend_read (h : mutating c = false) : MaySend p c s := fun hm => by rw [h] at hm; cases hm

/-- A request that may be sent and that its rule accepts is answered OK (R180). -/
theorem takeRequest_answered {items : List Item} (hm : MaySend p c s)
    (hr : rule (completeFrame p s) = .accept items t) : takeRequest p c rule s = answered p c items t :=
  takeRequest_accept (authorised_of_maySend hm) hr

/-- A request that may be sent and that its rule refuses is answered with the rule's status (R180). -/
theorem takeRequest_refused {st : Status} (hm : MaySend p c s) (hr : rule (completeFrame p s) = .refuse st) :
    takeRequest p c rule s = refusedWith p c st s :=
  takeRequest_refuse (authorised_of_maySend hm) hr

/-! ## What the plan's reads see through a frame -/

@[simp] theorem memberCount_completeFrame (g : Nat) : memberCount (completeFrame p s) g = memberCount s g := by
  simp [memberCount]

@[simp] theorem lampLine_completeFrame (n : Nat) : lampLine (completeFrame p s) n = lampLine s n := by
  simp [lampLine]

@[simp] theorem lampLit_completeFrame (n : Nat) : lampLit (completeFrame p s) n = lampLit s n := by
  simp [lampLit, heldCue]

@[simp] theorem lampPin_completeFrame (n : Nat) : lampPin (completeFrame p s) n = lampPin s n := by
  simp [lampPin]

@[simp] theorem listedRecords_completeFrame (g : Option Nat) :
    listedRecords (completeFrame p s) g = listedRecords s g := by
  simp [listedRecords]

/-! ## Groups and plan records as requests see them -/

theorem inGroup_eq_any (r : PlanRecord) (g : Nat) : inGroup g r = r.carrier.any fun c => c.group == g := by
  unfold inGroup
  cases r.carrier <;> rfl

theorem isOwn_eq_false {r : PlanRecord} : r.isOwn = false ↔ r.owner = none := by
  simp [PlanRecord.isOwn]

theorem onOffChoice_of_le {n : Nat} (h : n ≤ 1) : onOffChoice n = some (n == 0) := by
  match n, h with
  | 0, _ => rfl
  | 1, _ => rfl

theorem onOffChoice_of_lt {n : Nat} (h : 1 < n) : onOffChoice n = none := by
  match n, h with
  | n + 2, _ => rfl

theorem putStateChoice_none {n : Nat} (h1 : n ≠ 1) (h4 : n ≠ 4) : putStateChoice n = none := by
  unfold putStateChoice
  split
  · exact absurd rfl h1
  · exact absurd rfl h4
  · rfl

/-- The record that PLAN.PUT writes: RESERVED or FOREIGN (R16). -/
def putRecord (st : Nat) (x : Carrier) : PlanRecord := if st = 1 then .reserved x else .foreign x

theorem putStateChoice_some {n : Nat} (h : n = 1 ∨ n = 4) : putStateChoice n = some (putRecord n) := by
  rcases h with rfl | rfl <;> rfl

theorem optIndex_of_ne {n : Nat} (h : n ≠ 255) : optIndex n = some n := if_neg h

end Sys2Proof.Machine
end

section
namespace Sys2Proof.Proofs
open Sys2Proof.Machine

/-- Settles O12: `planDropRule` decides by the record alone, and the count falls by the record that it empties
(`memberCount_setRecord`). -/
theorem planDrop : Obligations.PlanDrop := by
  unfold Obligations.PlanDrop
  intro p i s hm
  refine ⟨fun hi => ?_, fun o hi ho => ?_, fun hi he => ?_, fun c hi hc => ?_⟩
  · exact congrArg _ (takeRequest_refused hm (if_pos hi))
  · refine congrArg _ (takeRequest_refused hm ?_)
    unfold planDropRule
    rw [if_neg (by omega), planRecord_completeFrame]
    cases hr : planRecord s i with
    | active | handover => rfl
    | _ => rw [hr] at ho; cases ho
  · refine congrArg _ (takeRequest_refused hm ?_)
    unfold planDropRule
    rw [if_neg (by omega), planRecord_completeFrame, he]
  · have hfree : (inGroup c.group (planRecord s i)) = true := by
      rcases hc with hc | hc <;> simp [hc, inGroup, PlanRecord.carrier]
    constructor
    · refine congrArg _ (takeRequest_answered hm ?_)
      unfold planDropRule
      rw [if_neg (by omega), planRecord_completeFrame]
      rcases hc with hc | hc <;> rw [hc] <;> simp [markStale, setRecord]
    · have hcount := memberCount_setRecord (by omega : i < 96) .empty s c.group
      rw [hfree] at hcount
      simpa [memberCount, inGroup, PlanRecord.carrier] using hcount

/-- Settles O10: each read is accepted by its rule with the state unchanged. -/
theorem statedReads : Obligations.StatedReads := by
  unfold Obligations.StatedReads
  refine ⟨fun p g s => ⟨fun hg => ?_, fun hg => ?_, fun b => ?_, ?_, fun hs => hs g⟩,
    ⟨fun p s => ?_, fun _ => rfl, rfl⟩, fun p n s => ⟨fun hn => ?_, fun hn => ?_, rfl⟩⟩
  · refine congrArg _ (takeRequest_answered (maySend_read rfl) ?_)
    rw [groupGetRule, if_neg (by omega), memberCount_completeFrame, completeFrame_plan]
  · exact congrArg _ (takeRequest_refused (maySend_read rfl) (if_pos hg))
  · cases h2 : b.twoTone <;> cases h3 : b.threeTone <;> simp [groupItems, onOffNumber, h2, h3]
  · rw [memberCount_eq_countP]
    exact List.countP_congr fun r _ => by rw [inGroup_eq_any]
  · refine congrArg _ (takeRequest_answered (maySend_read rfl) ?_)
    rw [clockReadRule, completeFrame_clock]
  · refine congrArg _ (takeRequest_answered (maySend_read rfl) ?_)
    rw [lampGetRule, if_neg (by omega), lampLine_completeFrame, lampLit_completeFrame, lampPin_completeFrame]
  · exact congrArg _ (takeRequest_refused (maySend_read rfl) (if_pos hn))

end Sys2Proof.Proofs
end

section
namespace Sys2Proof.Machine
variable {s : State}

theorem look_replicate_lt {α : Type} [Inhabited α] {n i : Nat} {x : α} (h : i < n) :
    look (Vector.replicate n x) i = x := by
  rw [look_replicate, if_pos h]

theorem look_replicate_default {α : Type} [Inhabited α] {n : Nat} {x : α} (h : x = default) (i : Nat) :
    look (Vector.replicate n x) i = x := by
  rw [look_replicate, h, ite_self]

theorem arbiterAt_reset (l : Nat) : (arbiterAt State.reset l).holder = none ∧ (arbiterAt State.reset l).saved = [] ∧
    (arbiterAt State.reset l).waiting = [] := by
  rw [arbiterAt, State.reset, Talkback.reset, look_replicate]
  split <;> exact ⟨rfl, rfl, rfl⟩

theorem keyAt_reset (k : Nat) : (keyAt State.reset k).level ≤ 7 ∧ (keyAt State.reset k).destinations = [] ∧
    (keyAt State.reset k).active = false := by
  rw [keyAt, State.reset, Talkback.reset, look_replicate]
  split <;> exact ⟨by decide, rfl, rfl⟩

/-- The GROUP.SET that is accepted (R2). -/
theorem groupSetRule_accept {g lo up gs gp two three st lim : Nat} (hg : g ≤ 7) (h2 : two ≤ 1) (h3 : three ≤ 1)
    (hle : min 2097151 lo ≤ min 2097151 up) :
    let r : BandGroup := ⟨min 2097151 lo, min 2097151 up, min 255 gs, min 255 gp, two == 0, three == 0,
      max 1 (min 4095 st), max 1 (min 1024 lim)⟩
    groupSetRule g lo up gs gp two three st lim s =
      .accept (groupItems r) (markStale { s with plan.groups := put s.plan.groups g r }) := by
  unfold groupSetRule
  rw [if_neg (by omega), onOffChoice_of_le h2, onOffChoice_of_le h3]
  exact if_neg (not_lt.2 hle)

/-- The GROUP.SET that is refused: every refusal is BAD_FIELD (R2). -/
theorem groupSetRule_refuse {g lo up gs gp two three st lim : Nat}
    (h : 7 < g ∨ 1 < two ∨ 1 < three ∨ min 2097151 up < min 2097151 lo) :
    groupSetRule g lo up gs gp two three st lim s = .refuse .badField := by
  unfold groupSetRule
  split
  · rfl
  · next hg =>
    split
    · next two' three' h2 h3 =>
      refine if_pos ?_
      rcases h with h | h | h | h
      · exact absurd h hg
      · rw [onOffChoice_of_lt h] at h2; cases h2
      · rw [onOffChoice_of_lt h] at h3; cases h3
      · exact h
    · rfl

theorem planPutRule_badField {i st c h g : Nat} (hbad : 95 < i ∨ 7 < g ∨ st ≠ 1 ∧ st ≠ 4) :
    planPutRule i st c h g s = .refuse .badField := by
  unfold planPutRule
  split
  · rfl
  · next hrange =>
    simp only [Bool.or_eq_true, decide_eq_true_eq, not_or] at hrange
    rcases hbad with hi | hg | ⟨h1, h4⟩
    · exact absurd hi hrange.1
    · exact absurd hg hrange.2
    · rw [putStateChoice_none h1 h4]

/-- The tests of PLAN.PUT on the plan, once the request's own fields are in range (R16). -/
theorem planPutRule_inRange {i st c h g : Nat} (hi : i ≤ 95) (hg : g ≤ 7) (hst : st = 1 ∨ st = 4) :
    planPutRule i st c h g s =
      if (planRecord s i).isOwn then .refuse .inUse
      else if joinsGroup (planRecord s i) g && Config.groupCapacity ≤ memberCount s g then .refuse .groupFull
      else
        let r := putRecord st ⟨min 2097151 c, max 1 (min 4095 h), g⟩
        .accept (planItems r) (markStale (setRecord i r s)) := by
  unfold planPutRule
  rw [if_neg (by simp; omega), putStateChoice_some hst]
  rfl

theorem planListRule_of_le {g : Nat} (hg : g ≤ 7) :
    planListRule g s = .accept (indexList (listedRecords s (some g))) s := by
  rw [planListRule, optIndex_of_ne (by omega)]
  exact if_neg (by simpa using hg)

end Sys2Proof.Machine
end

section
namespace Sys2Proof.Proofs
open Sys2Proof.Machine

/-- Settles O11: the rules of the four requests, as the verdict equations above give them. -/
theorem groupAndPlanRequests : Obligations.GroupAndPlanRequests := by
  unfold Obligations.GroupAndPlanRequests
  refine ⟨fun p g lo up gs gp two three st lim s hm => ⟨fun hg h2 h3 hle => ?_, fun hbad => ?_⟩,
    ⟨fun p i st c h g s hm => ⟨fun hi hg hst ho hroom => ?_, fun hbad => ?_, fun o hi hg hst ho => ?_,
      fun hi hg hst ho hjoin hfull => ?_⟩, ?_, ?_, ?_⟩⟩
  · refine congrArg _ (takeRequest_answered hm ?_)
    rw [groupSetRule_accept hg h2 h3 hle]
    simp [markStale]
  · exact congrArg _ (takeRequest_refused hm (groupSetRule_refuse hbad))
  · refine congrArg _ (takeRequest_answered hm ?_)
    rw [planPutRule_inRange hi hg hst, if_neg (by simp [isOwn_eq_false.2 ho]), if_neg ?_]
    · simp [markStale, setRecord, putRecord]
    · rcases hroom with hin | hlt
      · simp [joinsGroup, hin]
      · simp [Config.groupCapacity, hlt]
  · exact congrArg _ (takeRequest_refused hm (planPutRule_badField hbad))
  · refine congrArg _ (takeRequest_refused hm ?_)
    rw [planPutRule_inRange hi hg hst]
    exact if_pos (by simp [PlanRecord.isOwn, ho])
  · refine congrArg _ (takeRequest_refused hm ?_)
    rw [planPutRule_inRange hi hg hst, if_neg (by simp [isOwn_eq_false.2 ho])]
    exact if_pos (by simp [joinsGroup, hjoin, Config.groupCapacity, hfull])
  · refine fun p i s => ⟨fun hi => ?_, fun hi => ?_⟩
    · refine congrArg _ (takeRequest_answered (maySend_read rfl) ?_)
      rw [planGetRule, if_neg (by omega), planRecord_completeFrame]
    · exact congrArg _ (takeRequest_refused (maySend_read rfl) (if_pos hi))
  · exact ⟨rfl, fun _ => rfl, fun _ _ => rfl, fun _ _ => rfl, fun _ => rfl⟩
  · refine fun p g s => ⟨?_, fun hg => ?_, fun hg hne => ?_⟩
    · refine congrArg _ (takeRequest_answered (maySend_read rfl) ?_)
      have hl : listedRecords s none = (List.range 96).filter fun i => planRecord s i != .empty :=
        List.filter_congr fun i _ => by cases h : planRecord s i <;> simp_all [planRecord, PlanRecord.carrier]
      rw [← hl, ← listedRecords_completeFrame (p := p)]
      rfl
    · refine congrArg _ (takeRequest_answered (maySend_read rfl) ?_)
      rw [planListRule_of_le hg, listedRecords_completeFrame]
      simp only [listedRecords, indicesWhere, inGroup_eq_any]
      rfl
    · refine congrArg _ (takeRequest_refused (maySend_read rfl) ?_)
      rw [planListRule, optIndex_of_ne hne]
      exact if_pos (by simpa using hg)

/-- Settles O48: the reset state is a value, read field by field. -/
theorem hardwareReset : Obligations.HardwareReset := by
  unfold Obligations.HardwareReset
  intro s
  refine ⟨rfl, rfl, ?groups, planRecord_reset, rfl, rfl, ?slots, rfl, ?bins, jobAt_reset, entry_reset, rfl, rfl, rfl,
    rfl, rfl, ?sources, ?map, ?cues, ?lamps, ?keys, ?arbiters, rfl, ?orders, ?confirmed, rfl, rfl, rfl, rfl, rfl, rfl,
    rfl, rfl, rfl, rfl, rfl, ?faults, rfl, rfl, ?partials⟩
  case groups => exact fun g hg => look_replicate_lt (by omega)
  case slots => exact fun k => look_replicate_default rfl k
  case bins => exact fun b => look_replicate_default rfl b
  case sources => exact fun a => look_replicate_default rfl a
  case map => exact fun a => look_replicate_default rfl a
  case cues => exact fun l => look_replicate_default rfl l
  case lamps => exact fun n hn => look_replicate_lt (by omega)
  case keys => exact fun k hk => look_replicate_lt (by omega)
  case arbiters => exact fun l hl => look_replicate_lt (by omega)
  case orders => exact fun o => look_replicate_default rfl o
  case confirmed => exact fun o => look_replicate_default rfl o
  case faults =>
    intro line
    cases line with
    | service => rfl
    | port line => cases line <;> rfl
  case partials => intro line; cases line <;> rfl

/-- Settles O52: at reset every entry is VACANT, every record EMPTY and every job IDLE, so the laws speak of
nothing. -/
theorem lawsHoldAtReset : Obligations.LawsHoldAtReset := by
  unfold Obligations.LawsHoldAtReset
  have hunbound := reset_unbound (s := State.reset) (funext planRecord_reset)
    (funext fun l => congrArg heldRecords (entry_reset l))
  refine ⟨hunbound.1, hunbound.2, jobsInOrder_of_idle fun j r hj => (by cases (jobAt_reset j).symm.trans hj),
    ?idents, ?outputs, ?rover, ?settings, ?changed, ?timers, ?slots, ?searches, ?seeking, ?pending, ?returns, ?cues,
    ?feeds, ?keys, ?statuses⟩
  case idents => intro i j x hi; rw [entry_reset] at hi; cases hi
  case outputs => intro i j o hi; rw [cameraOutput, entry_reset] at hi; cases hi
  case rover => exact ⟨by decide, by decide, by decide⟩
  case settings => intro l e he; rw [entry_reset] at he; cases he
  case changed => exact ⟨.nil, fun _ h => (by cases h)⟩
  case timers => intro l e he; rw [entry_reset] at he; cases he
  case slots =>
    have hslot (k : Nat) : slotAt State.reset k = .empty := look_replicate_default rfl k
    refine ⟨fun k job => ?_, fun k job => ?_, .nil⟩
    · rw [hslot]; exact ⟨fun h => (by cases h), fun h => (by cases h)⟩
    · rw [hslot]; exact ⟨fun h => (by cases h), fun h => (by cases h)⟩
  case searches =>
    have hseek (l : Nat) (place : SearchPlace) : ¬ SeeksAt State.reset l place := by
      rintro ⟨e, r, he, -⟩
      rw [entry_reset] at he
      cases he
    exact ⟨⟨fun _ h => (by cases h), .nil, .nil, fun l => ⟨fun h => (by cases h), fun h => absurd h (hseek l _)⟩,
      fun l => ⟨fun h => (by cases h), fun h => absurd h (hseek l _)⟩⟩, Nat.zero_le 2, fun _ => rfl⟩
  case seeking =>
    refine ⟨.nil, fun l => ⟨fun h => (by cases h), ?_⟩, .nil⟩
    rintro ⟨_, e, r, he, -⟩
    rw [entry_reset] at he
    cases he
  case pending => exact ⟨fun _ h => (by cases h), fun _ h => (by cases h)⟩
  case returns => exact ⟨⟨.nil, fun _ h => (by cases h)⟩, ⟨.nil, fun _ h => (by cases h)⟩, by decide, by decide,
    fun _ h => (by cases h)⟩
  case cues =>
    intro l _
    rw [computedCue, entry_reset]
    exact look_replicate_default rfl l
  case feeds =>
    refine ⟨fun l => ?_, fun l k hk => ?_⟩
    · obtain ⟨hh, hs, hw⟩ := arbiterAt_reset l
      simp [hh, hs, hw, roleKeys]
    · obtain ⟨hh, hs, hw⟩ := arbiterAt_reset l
      simp [hasRole, waits, hh, hs, hw] at hk
  case keys =>
    intro k
    obtain ⟨hl, hd, -⟩ := keyAt_reset k
    exact ⟨hl, by rw [hd]; exact ⟨.nil, fun _ h => (by cases h)⟩⟩
  case statuses =>
    intro k hk
    obtain ⟨-, -, ha⟩ := keyAt_reset k
    rw [computedStatus, ha]
    exact congrArg Key.status (look_replicate_lt hk)

end Sys2Proof.Proofs
end

section
/-! SUPPORT. The warm restart block by block (R185). -/
namespace Sys2Proof.Machine
variable {s t : State}

/-! ## Orders placed for the feeds -/

/-- An order for a feed touches the pending orders alone. -/
theorem orderFeed_frame (l : Nat) (s : State) : orderFeed l s =
    { s with talk := { s.talk with orders := (orderFeed l s).talk.orders } } := by
  unfold orderFeed
  split <;> rfl

theorem look_orders_orderFeed (l : Nat) {o : Nat} (ho : o < 128) (s : State) : look (orderFeed l s).talk.orders o =
    if cameraOutput s l = some o then some (feedInput s (arbiterAt s l)) else look s.talk.orders o := by
  unfold orderFeed
  split
  · next x hx =>
    simp only [placeOrder_talk, look_put, hx, Option.some.injEq]
    split
    · next h => rw [if_pos h.1]
    · next h => rw [if_neg fun hxo => h ⟨hxo, hxo ▸ ho⟩]
  · next hx => simp [hx]

@[simp] theorem cameraOutput_orderFeed (l j : Nat) (s : State) : cameraOutput (orderFeed l s) j = cameraOutput s j := by
  rw [orderFeed_frame]; rfl

@[simp] theorem feedOf_orderFeed (l j : Nat) (s : State) :
    feedInput (orderFeed l s) (arbiterAt (orderFeed l s) j) = feedInput s (arbiterAt s j) := by
  rw [orderFeed_frame]; rfl

theorem orderFeeds_frame (ls : List Nat) (s : State) : ls.foldl (fun s l => orderFeed l s) s =
    { s with talk := { s.talk with orders := (ls.foldl (fun s l => orderFeed l s) s).talk.orders } } := by
  induction ls generalizing s with
  | nil => rfl
  | cons l ls ih =>
    rw [List.foldl_cons, ih, orderFeed_frame]

/-- An output that no link of a run has keeps its order. -/
theorem look_orders_orderFeeds_ne (ls : List Nat) {o : Nat} (ho : o < 128) (s : State)
    (h : ∀ l ∈ ls, cameraOutput s l ≠ some o) :
    look (ls.foldl (fun s l => orderFeed l s) s).talk.orders o = look s.talk.orders o := by
  induction ls generalizing s with
  | nil => rfl
  | cons l ls ih =>
    rw [List.foldl_cons, ih _ fun j hj => by simpa using h j (by simp [hj]), look_orders_orderFeed l ho,
      if_neg (h l (by simp))]

/-- The output of a link of a run takes the order of the link's arbiter, where no other link has it. -/
theorem look_orders_orderFeeds (ls : List Nat) {l o : Nat} (ho : o < 128) (s : State) (hl : l ∈ ls)
    (hout : cameraOutput s l = some o) (hd : OutputsDistinct s) :
    look (ls.foldl (fun s l => orderFeed l s) s).talk.orders o = some (feedInput s (arbiterAt s l)) := by
  induction ls generalizing s with
  | nil => cases hl
  | cons a ls ih =>
    rw [List.foldl_cons]
    by_cases hmem : l ∈ ls
    · rw [ih _ hmem (by simpa using hout) fun i j x => by simpa using hd i j x, feedOf_orderFeed]
    · have ha : l = a := by simpa [hmem] using hl
      subst ha
      rw [look_orders_orderFeeds_ne ls ho, look_orders_orderFeed l ho, if_pos hout]
      intro j hj hj'
      rw [cameraOutput_orderFeed] at hj'
      exact hmem (hd j l o hj' hout ▸ hj)

/-! ## The restart of each block -/

/-- The orders that stand pending after a warm restart (R150). -/
def restartedOrders (s : State) : Vector (Option MatrixInput) 128 :=
  (placeDefaultOrders (restartFeeds (restartLinks (restartPlanEngineSurvey s)))).talk.orders

theorem warmRestart_eq (s : State) : warmRestart s = { s with
    plan := { s.plan with records := rewrite (fun _ => PlanRecord.restarted) s.plan.records }
    engine := .reset
    survey := { s.survey with
      bins := Vector.replicate 256 none, jobs := rewrite (fun _ => SurveyJob.restarted) s.survey.jobs }
    dir := { s.dir with entries := rewrite (fun _ => LinkEntry.restarted) s.dir.entries, capture := none }
    retune := { s.retune with seekOrder := [], waitList := [] }
    tally := { s.tally with sources := Vector.replicate 64 .clear, cues := (warmRestart s).tally.cues }
    talk := { s.talk with
      keys := rewrite (fun _ => Key.restarted) s.talk.keys
      arbiters := rewrite (fun _ => clearedArbiter) s.talk.arbiters
      orders := restartedOrders s }
    ret := { s.ret with tunePending := [], cuePending := [], passQueue := [] }
    ctl := { s.ctl with causes := 0, changed := [] } } := by
  unfold restartedOrders warmRestart placeDefaultOrders
  rw [orderFeeds_frame]
  simp only [restartControl, restartReturn, restartTally, restartFeeds, restartLinks, restartPlanEngineSurvey]

theorem entry_warmRestart (s : State) (l : Nat) : entry (warmRestart s) l = (entry s l).restarted := by
  rw [entry, warmRestart_eq, look_rewrite]
  split
  · rfl
  · next hl => rw [entry, look_out _ _ (by omega)]; rfl

theorem keyAt_warmRestart (s : State) {k : Nat} (hk : k < 32) : keyAt (warmRestart s) k = (keyAt s k).restarted := by
  rw [keyAt, warmRestart_eq, look_rewrite, if_pos hk]
  rfl

theorem arbiterAt_warmRestart (s : State) {l : Nat} (hl : l < 64) :
    arbiterAt (warmRestart s) l = clearedArbiter (arbiterAt s l) := by
  rw [arbiterAt, warmRestart_eq, look_rewrite, if_pos hl]
  rfl

/-- A cue state is computed from the entries, the arbiters, the map and the sources (R124). -/
theorem computedCue_congr (he : t.dir.entries = s.dir.entries) (ha : t.talk.arbiters = s.talk.arbiters)
    (hm : t.tally.map = s.tally.map) (hs : t.tally.sources = s.tally.sources) (l : Nat) :
    computedCue t l = computedCue s l := by
  have hentry : entry t l = entry s l := by rw [entry, entry, he]
  have hfeed : feedIsKey t l = feedIsKey s l := by rw [feedIsKey, feedIsKey, ha]
  have hmapped : anyMapped t l = anyMapped s l := by
    funext flag
    simp only [anyMapped, mappedSources, mapEntry, sourceFlags, hm, hs]
  rw [computedCue, computedCue, hentry, hfeed, hmapped]

theorem computedCue_restartTally (s : State) (l : Nat) :
    computedCue (restartControl (restartReturn (restartTally s))) l =
      computedCue { s with tally.sources := Vector.replicate 64 .clear } l := by
  apply computedCue_congr <;> simp only [restartControl, restartReturn, restartTally]

theorem cuesComputed_warmRestart (s : State) : CuesComputed (warmRestart s) := by
  intro l hl
  rw [warmRestart, computedCue_restartTally, heldCue, restartControl, restartReturn, restartTally, look_rewrite,
    if_pos hl]

/-- Before the orders are placed every arbiter is cleared and every link still has its output. -/
theorem cameraOutput_restartFeeds (s : State) (l : Nat) :
    cameraOutput (restartFeeds (restartLinks (restartPlanEngineSurvey s))) l = cameraOutput s l := by
  have he : entry (restartFeeds (restartLinks (restartPlanEngineSurvey s))) l = (entry s l).restarted := by
    rw [← entry_restartPlanEngineSurvey, ← entry_restartLinks, entry, restartFeeds]; rfl
  rw [cameraOutput, cameraOutput, he]
  cases entry s l with
  | enrolled e => cases hr : e.role <;> simp [LinkEntry.restarted, EnrolledLink.restarted, Role.restarted, hr]
  | _ => rfl

theorem feed_restartFeeds (s : State) {l : Nat} (hl : l < 64) :
    feedInput (restartFeeds (restartLinks (restartPlanEngineSurvey s)))
      (arbiterAt (restartFeeds (restartLinks (restartPlanEngineSurvey s))) l) =
      matrixInputOf (arbiterAt s l).defaultInput := by
  have ha : arbiterAt (restartFeeds (restartLinks (restartPlanEngineSurvey s))) l = clearedArbiter (arbiterAt s l) := by
    rw [arbiterAt, restartFeeds, look_rewrite, if_pos hl]
    rfl
  rw [ha]
  rfl

theorem cameraOutput_lt {l o : Nat} (h : cameraOutput s l = some o) : l < 64 := by
  unfold cameraOutput at h
  split at h
  · next e he => exact enrolled_lt s he
  · cases h

/-- The output of every enrolled CAMERA takes its default order (R150). -/
theorem look_restartedOrders {l o : Nat} (hd : OutputsDistinct s) (hout : cameraOutput s l = some o) (ho : o < 128) :
    look (restartedOrders s) o = some (matrixInputOf (arbiterAt s l).defaultInput) := by
  rw [restartedOrders, placeDefaultOrders, look_orders_orderFeeds _ ho _ (List.mem_range.2 (cameraOutput_lt hout))
    ((cameraOutput_restartFeeds s l).trans hout) ?_, feed_restartFeeds s (cameraOutput_lt hout)]
  intro i j x
  rw [cameraOutput_restartFeeds, cameraOutput_restartFeeds]
  exact hd i j x

/-- The other outputs keep their orders. -/
theorem look_restartedOrders_ne {o : Nat} (h : ∀ l, cameraOutput s l ≠ some o) :
    look (restartedOrders s) o = look s.talk.orders o := by
  by_cases ho : o < 128
  · rw [restartedOrders, placeDefaultOrders, look_orders_orderFeeds_ne _ ho _ fun l _ => by
      rw [cameraOutput_restartFeeds]; exact h l]
    rw [restartFeeds]
    rfl
  · rw [look_out _ _ (by omega), look_out _ _ (by omega)]

end Sys2Proof.Machine
end

section
namespace Sys2Proof.Proofs
open Sys2Proof.Machine

/-- Settles O47: RUN.RESTART runs `warmRestart`, whose blocks `warmRestart_eq` writes out. -/
theorem warmRestart : Obligations.WarmRestart := by
  unfold Obligations.WarmRestart
  intro p s hm
  refine ⟨Machine.warmRestart (completeFrame p s),
    congrArg Host.Outcome.next (takeRequest_answered hm (by rw [runRestartRule])), ?_⟩
  have hout : cameraOutput (completeFrame p s) = cameraOutput s := by
    funext l; simp [cameraOutput]
  refine ⟨?clock, ?groups, ?records, ?engine, ?window, ?bins, ?jobs, ?entries, ?pinBound, ?rover, ?autoAdmit,
    ?capture, ?retune, ?sources, ?map, ?lamps, cuesComputed_warmRestart _, ?keys, ?arbiters, ?orders, ?otherOrders,
    ?sending, ?confirmed, ?flight, ?served, ?ret, ?ctl, ?ports⟩
  case bins => intro b; rw [warmRestart_eq]; exact look_replicate_default rfl b
  case sources => intro a; rw [sourceFlags, warmRestart_eq]; exact look_replicate_default rfl a
  case records =>
    intro i
    rw [planRecord_warmRestart, planRecord_completeFrame]
    cases planRecord s i <;> rfl
  case jobs =>
    intro j
    have hj : jobAt (completeFrame p s) j = jobAt s j := by simp [jobAt]
    rw [jobAt_warmRestart, hj]
    cases jobAt s j <;> rfl
  case entries =>
    intro l
    rw [entry_warmRestart, entry_completeFrame]
    cases entry s l with
    | enrolled e => 
      refine ⟨e.restarted, rfl, rfl, rfl, rfl, ?_, rfl, rfl, rfl, rfl, rfl, rfl, rfl, rfl, ?_⟩
      · cases hp : e.phase <;> simp [EnrolledLink.restarted, resultRestarted, hp]
      · cases hr : e.role <;> simp [EnrolledLink.restarted, Role.restarted, hr]
    | _ => rfl
  case keys =>
    intro k hk
    rw [keyAt_warmRestart _ (by omega)]
    simp [keyAt, Key.restarted]
  case arbiters =>
    intro l hl
    rw [arbiterAt_warmRestart _ (by omega)]
    simp [arbiterAt, clearedArbiter]
  case orders =>
    intro hd l o ho hlt
    rw [warmRestart_eq]
    have h := look_restartedOrders (s := completeFrame p s) (l := l) (o := o)
      (by intro i j x; rw [hout]; exact hd i j x) (by rw [hout]; exact ho) (by omega)
    simpa [arbiterAt] using h
  case otherOrders =>
    intro o ho
    rw [warmRestart_eq]
    have h := look_restartedOrders_ne (s := completeFrame p s) (o := o) (by rw [hout]; exact ho)
    simpa using h
  all_goals (rw [warmRestart_eq] <;> simp)

end Sys2Proof.Proofs
end

section
/-! SUPPORT. What the retune's operations write, each as one equation, and what they leave. -/
namespace Sys2Proof.Machine

section
variable {s : State} {l j : Nat} {e : EnrolledLink}

theorem setRemove_of_not_mem {n : Nat} {xs : List Nat} (h : n ∉ xs) : setRemove n xs = xs := by
  refine List.filter_eq_self.2 fun x hx => ?_
  simpa using fun hxn : x = n => h (hxn ▸ hx)

theorem le_of_enrolled (h : entry s l = .enrolled e) : l ≤ 63 := by
  have := lt_of_look_ne s.dir.entries l fun h' => by rw [entry, h'] at h; cases h
  omega

theorem isCamera_enrolled (h : entry s l = .enrolled e) : isCamera s l = (roleOutput e.role).isSome := by
  rw [isCamera, cameraOutput, h]
  cases hr : e.role <;> simp [roleOutput, hr]

/-- An update that keeps the role keeps the return audio output. -/
theorem cameraOutput_updateLink {f : EnrolledLink → EnrolledLink} (hf : ∀ e, (f e).role = e.role) :
    cameraOutput (updateLink l f s) j = cameraOutput s j := by
  unfold updateLink
  split
  · next e he =>
    rw [cameraOutput, cameraOutput, entry_setEntry]
    by_cases h : l = j ∧ l < 64
    · rw [if_pos h, ← h.1, he]
      dsimp only
      rw [hf]
    · rw [if_neg h]
  · rfl

/-! ## The end of a retune and the entry into ORDERED -/

/-- R101, R107: what the end of a retune writes. -/
theorem endRetune_eq (r : RetuneResult) (l : Nat) (s : State) : endRetune r l s = { s with
    dir := (updateLink l (fun e => { e with phase := .none, lastResult := r }) s).dir
    retune := { s.retune with
      seekOrder := setRemove l s.retune.seekOrder, waitList := setRemove l s.retune.waitList }
    ctl := { s.ctl with causes := s.ctl.causes ||| causeOnly .retuneEnd, changed := setAdd l s.ctl.changed } } := by
  unfold endRetune
  rw [updateLink_frame]
  rfl

theorem entry_endRetune_self (r : RetuneResult) (he : entry s l = .enrolled e) :
    entry (endRetune r l s) l = .enrolled { e with phase := .none, lastResult := r } :=
  entry_updateLink_self _ he

theorem entry_endRetune_ne (r : RetuneResult) (hj : j ≠ l) : entry (endRetune r l s) j = entry s j :=
  entry_updateLink_ne _ hj

/-- R109: what the entry into ORDERED writes. -/
theorem enterOrdered_eq (r : RetuneRecord) (n l : Nat) (s : State) : enterOrdered r n l s = { s with
    dir := (updateLink l (fun e => { e with phase := .ordered r n }) s).dir
    retune := { s.retune with
      seekOrder := setRemove l s.retune.seekOrder, waitList := setRemove l s.retune.waitList }
    ret := if isCamera s l then { s.ret with tunePending := setAdd l s.ret.tunePending } else s.ret
    ctl := { s.ctl with changed := setAdd l s.ctl.changed } } := by
  have hc : isCamera (updateLink l (fun e => { e with phase := .ordered r n }) s) l = isCamera s l :=
    congrArg Option.isSome (cameraOutput_updateLink fun _ => rfl)
  unfold enterOrdered
  dsimp only
  split
  · next h =>
    rw [if_pos (hc ▸ h), updateLink_frame]
    rfl
  · next h =>
    rw [if_neg (hc ▸ h), updateLink_frame]
    rfl

theorem entry_enterOrdered_self (r : RetuneRecord) (n : Nat) (he : entry s l = .enrolled e) :
    entry (enterOrdered r n l s) l = .enrolled { e with phase := .ordered r n } := by
  rw [enterOrdered_eq]
  exact entry_updateLink_self (fun e => { e with phase := .ordered r n }) he

theorem entry_enterOrdered_ne (r : RetuneRecord) (n : Nat) (hj : j ≠ l) :
    entry (enterOrdered r n l s) j = entry s j := by
  rw [enterOrdered_eq]
  exact entry_updateLink_ne (fun e => { e with phase := .ordered r n }) hj

/-! ## Searches -/

theorem setPlace_frame (p : SearchPlace) (l : Nat) (s : State) :
    setPlace p l s = { s with dir := (setPlace p l s).dir } := updateLink_frame ..

theorem entry_setPlace_self {r : RetuneRecord} {q : SearchPlace} (p : SearchPlace) (he : entry s l = .enrolled e)
    (hp : e.phase = .seeking r q) : entry (setPlace p l s) l = .enrolled { e with phase := .seeking r p } := by
  refine (entry_updateLink_self _ he).trans ?_
  rw [hp]

theorem entry_setPlace_ne (p : SearchPlace) (hj : j ≠ l) : entry (setPlace p l s) j = entry s j :=
  entry_updateLink_ne _ hj

theorem queueSearch_enrolled (he : entry s l = .enrolled e) :
    queueSearch l s = setPlace .inEngine l (enqueue ⟨.internal l, .find (linkSearch s e)⟩ s) := by
  simp only [queueSearch, he]

/-- A search reads its parameters from the plan (R104). -/
theorem linkSearch_eq {c : Carrier} (hc : (planRecord s e.carrier).carrier = some c) :
    linkSearch s e = planSearch s c := by
  simp only [linkSearch, linkCarrier, hc, planSearch, Option.getD_some]

theorem queueSearch_frame (l : Nat) (s : State) : queueSearch l s = { s with
    dir := (queueSearch l s).dir, engine := { s.engine with queue := (queueSearch l s).engine.queue } } := by
  unfold queueSearch
  split
  · rw [setPlace_frame]; rfl
  · rfl

theorem entry_queueSearch_ne (hj : j ≠ l) : entry (queueSearch l s) j = entry s j := by
  unfold queueSearch
  split
  · exact entry_setPlace_ne _ hj
  · rfl

theorem joinWaitList_frame (l : Nat) (s : State) : joinWaitList l s = { s with
    dir := (joinWaitList l s).dir, retune := { s.retune with waitList := (joinWaitList l s).retune.waitList } } := by
  unfold joinWaitList
  dsimp only
  rw [setPlace_frame]

theorem mem_joinWaitList {m : Nat} : m ∈ (joinWaitList l s).retune.waitList ↔ m = l ∨ m ∈ s.retune.waitList := by
  unfold joinWaitList
  dsimp only
  rw [setPlace_retune]
  conv_rhs => rw [← List.takeWhile_append_dropWhile (p := fun m => seeksBefore s m l) (l := s.retune.waitList)]
  simp only [List.mem_append, List.mem_cons]
  tauto

/-! ## The seek wait list -/

theorem serveWaitList_frame (s : State) : serveWaitList s = { s with
    dir := (serveWaitList s).dir
    engine := { s.engine with queue := (serveWaitList s).engine.queue }
    retune := { s.retune with waitList := (serveWaitList s).retune.waitList } } := by
  unfold serveWaitList
  split
  · rfl
  · split
    · rw [queueSearch_frame]
    · rfl

@[simp] theorem serveWaitList_plan (s : State) : (serveWaitList s).plan = s.plan := by rw [serveWaitList_frame]
@[simp] theorem serveWaitList_running (s : State) : (serveWaitList s).engine.running = s.engine.running := by
  rw [serveWaitList_frame]
@[simp] theorem serveWaitList_slots (s : State) : (serveWaitList s).engine.slots = s.engine.slots := by
  rw [serveWaitList_frame]
@[simp] theorem serveWaitList_survey (s : State) : (serveWaitList s).survey = s.survey := by rw [serveWaitList_frame]
@[simp] theorem serveWaitList_tally (s : State) : (serveWaitList s).tally = s.tally := by rw [serveWaitList_frame]
@[simp] theorem serveWaitList_talk (s : State) : (serveWaitList s).talk = s.talk := by rw [serveWaitList_frame]
@[simp] theorem serveWaitList_ret (s : State) : (serveWaitList s).ret = s.ret := by rw [serveWaitList_frame]
@[simp] theorem serveWaitList_ctl (s : State) : (serveWaitList s).ctl = s.ctl := by rw [serveWaitList_frame]

/-- Serving the list touches no entry but its head's. -/
theorem entry_serveWaitList_ne (hj : j ∉ s.retune.waitList) : entry (serveWaitList s) j = entry s j := by
  unfold serveWaitList
  split
  · rfl
  · next m rest h =>
    split
    · exact entry_queueSearch_ne fun hm => hj (by rw [h, hm]; exact List.mem_cons_self)
    · rfl

theorem internalCount_idle (h : s.engine.running = none) : internalCount s = s.engine.queue.countP isInternal := by
  simp [internalCount, engineRequests, h]

/-- The service of the list while nothing runs (R105), as a state `u` sees it that agrees on the waiting links' entries
and on the carriers of the plan. -/
theorem listServed_serveWaitList {u : State} (hrun : s.engine.running = none)
    (hentry : ∀ m ∈ s.retune.waitList, entry s m = entry u m)
    (hplan : ∀ i c, (planRecord u i).carrier = some c → (planRecord s i).carrier = some c)
    (hgroups : s.plan.groups = u.plan.groups) :
    ListServed s.engine.queue s.retune.waitList u (serveWaitList s) := by
  constructor
  · rintro (hw | hc)
    · simp only [serveWaitList, hw, and_self]
    · unfold serveWaitList
      split
      · exact ⟨rfl, rfl⟩
      · rw [if_neg (by rw [internalCount_idle hrun, Config.internalCapacity]; omega)]
        exact ⟨rfl, rfl⟩
  · intro m rest e c hw hc he hcar
    have hem : entry s m = .enrolled e := (hentry m (by rw [hw]; exact List.mem_cons_self)).trans he
    have hserve : serveWaitList s = queueSearch m { s with retune.waitList := rest } := by
      simp only [serveWaitList, hw]
      exact if_pos (by rw [internalCount_idle hrun]; exact hc)
    have hem' : entry { s with retune.waitList := rest } m = .enrolled e := hem
    rw [hserve, queueSearch_enrolled hem', setPlace_engine, setPlace_retune]
    refine ⟨?_, rfl, fun r place hp => ⟨_, entry_setPlace_self .inEngine hem' hp, rfl⟩⟩
    have hs : linkSearch { s with retune.waitList := rest } e = planSearch u c := by
      refine (linkSearch_eq (hplan _ _ hcar)).trans ?_
      rw [planSearch, planSearch, ← hgroups]
    rw [hs]
    rfl

/-! ## The start of the head -/

theorem plan_of_standing {t : State} (h : standing t = standing s) : t.plan = s.plan := by
  have hg : t.plan.groups = s.plan.groups := congrArg Settings.groups (settings_of_standing h)
  have hr := records_of_standing h
  cases ht : t.plan; cases hs : s.plan
  rw [ht, hs] at hg hr
  cases hg; cases hr; rfl

theorem applySearchResult_ret {f : FindResult} (h : f.found = none) (l : Nat) (s : State) :
    (applySearchResult l f s).ret = s.ret := by
  unfold applySearchResult
  split
  · split
    · split
      · rw [joinWaitList_frame]
      · rw [h]
        dsimp only
        rw [endRetune_eq]
    · rfl
  · rfl

theorem deliverResult_ret {f : FindResult} (h : f.found = none) (r : EngineRequest) (s : State) :
    (deliverResult r (.find f) s).ret = s.ret := by
  unfold deliverResult
  split
  · rfl
  · dsimp only
    rw [serveWaitList_frame]
    exact applySearchResult_ret h _ _

@[simp] theorem startHead_ret (s : State) : (startHead s).ret = s.ret := by
  suffices H : ∀ n (u : State), (startHeads n u).ret = u.ret from H _ s
  intro n
  induction n with
  | zero => exact fun _ => rfl
  | succ n ih =>
    intro u
    have hb (r rest) : (beginRequest r rest u).ret = u.ret := by unfold beginRequest; split <;> rfl
    unfold startHeads
    split
    · dsimp only
      split
      · rw [ih, deliverResult_ret rfl, hb]
      · exact hb ..
    · rfl

end

end Sys2Proof.Machine
end

section
/-! SUPPORT. A carrier that opens for a retune, from a search or on a target (R11, R12, R109). -/
namespace Sys2Proof.Machine

/-- Record `n` opens with carrier `d` for link `l`, which enters ORDERED with it. -/
def openFor (r : RetuneRecord) (n : Nat) (d : Carrier) (l : Nat) (s : State) : State :=
  enterOrdered r n l (markStale (setRecord n (.handover d l) s))

section
variable {s : State} {l n : Nat} {e : EnrolledLink} {r : RetuneRecord} {d : Carrier}

theorem openFor_eq (r : RetuneRecord) (n : Nat) (d : Carrier) (l : Nat) (s : State) : openFor r n d l s = { s with
    plan := { s.plan with records := put s.plan.records n (.handover d l) }
    engine := { s.engine with running := s.engine.running.map fun q => { q with stale := true } }
    dir := (openFor r n d l s).dir
    retune := { s.retune with
      seekOrder := setRemove l s.retune.seekOrder, waitList := setRemove l s.retune.waitList }
    ret := if isCamera s l then { s.ret with tunePending := setAdd l s.ret.tunePending } else s.ret
    ctl := { s.ctl with changed := setAdd l s.ctl.changed } } := by
  unfold openFor
  rw [enterOrdered_eq]
  rfl

theorem planRecord_openFor_self (hn : n < 96) : planRecord (openFor r n d l s) n = .handover d l := by
  rw [planRecord, openFor_eq]
  exact look_put_self _ _ _ hn

theorem planRecord_openFor_ne {j : Nat} (hj : j ≠ n) : planRecord (openFor r n d l s) j = planRecord s j := by
  rw [planRecord, openFor_eq]
  exact look_put_ne _ _ _ _ hj

theorem entry_openFor_self (he : entry s l = .enrolled e) :
    entry (openFor r n d l s) l = .enrolled { e with phase := .ordered r n } :=
  entry_enterOrdered_self r n he

theorem entry_openFor_ne {j : Nat} (hj : j ≠ l) : entry (openFor r n d l s) j = entry s j :=
  entry_enterOrdered_ne r n hj

@[simp] theorem openFor_plan :
    (openFor r n d l s).plan = { s.plan with records := put s.plan.records n (.handover d l) } := by rw [openFor_eq]
@[simp] theorem openFor_engine : (openFor r n d l s).engine = (markStale s).engine := by rw [openFor_eq]; rfl
@[simp] theorem openFor_survey : (openFor r n d l s).survey = s.survey := by rw [openFor_eq]
@[simp] theorem openFor_tally : (openFor r n d l s).tally = s.tally := by rw [openFor_eq]
@[simp] theorem openFor_talk : (openFor r n d l s).talk = s.talk := by rw [openFor_eq]
@[simp] theorem openFor_ctl :
    (openFor r n d l s).ctl = { s.ctl with changed := setAdd l s.ctl.changed } := by rw [openFor_eq]
@[simp] theorem openFor_waitList :
    (openFor r n d l s).retune.waitList = setRemove l s.retune.waitList := by rw [openFor_eq]

theorem openFor_ret : (openFor r n d l s).ret =
    if isCamera s l then { s.ret with tunePending := setAdd l s.ret.tunePending } else s.ret := by rw [openFor_eq]

@[simp] theorem openFor_cuePending : (openFor r n d l s).ret.cuePending = s.ret.cuePending := by
  rw [openFor_ret]
  split <;> rfl

theorem mem_tunePending_openFor (h : isCamera s l = true) : l ∈ (openFor r n d l s).ret.tunePending := by
  rw [openFor_ret, if_pos h]
  exact (mem_setAdd ..).2 (.inl rfl)

theorem openFor_ret_of_not_camera (h : isCamera s l = false) : (openFor r n d l s).ret = s.ret := by
  rw [openFor_ret, if_neg (by simp [h])]

/-- A search whose candidate has no conflict completes with it (R28, R29, R44). -/
theorem evaluateRunning_found {r : Running} {q : Search} (hr : s.engine.running = some r)
    (hq : r.request = ⟨.internal l, .find q⟩) (hc : conflicts s none (searchCandidate q r.evaluated) = []) :
    evaluateRunning s = startHead (serveWaitList (applySearchResult l
      ⟨some (searchCandidate q r.evaluated).centre, r.evaluated + 1, none, r.stale⟩
      { s with engine.running := none })) := by
  simp only [evaluateRunning, hr, hc, List.isEmpty_nil, if_true, completeRequest, hq]
  rfl

/-- What a found carrier that is not stale makes of the retune where the plan and the group have room (R108). -/
theorem applySearchResult_found {place : SearchPlace} {c : Carrier} {x tried : Nat} {w : Option Conflict}
    (he : entry s l = .enrolled e) (hp : e.phase = .seeking r place) (hc : (planRecord s e.carrier).carrier = some c)
    (hn : n < 96) (hempty : planRecord s n = .empty) (hlow : ∀ j < n, planRecord s j ≠ .empty)
    (hroom : memberCount s c.group < 24) :
    applySearchResult l ⟨some x, tried, w, false⟩ s = openFor r n ⟨x, c.halfWidth, c.group⟩ l s := by
  have hlc : linkCarrier s e = c := by rw [linkCarrier, hc, Option.getD_some]
  simp only [applySearchResult, he, hp, hlc, openFromSearch_done (c := ⟨x, c.halfWidth, c.group⟩) hn hempty hlow hroom,
    Bool.false_eq_true, if_false, openFor]

end

end Sys2Proof.Machine
end

section
namespace Sys2Proof.Proofs
open Sys2Proof.Machine

/-- Settles O17: a found carrier opens in the state `a` that runs nothing, and `u` is that state with the wait list
served, which reads and writes only what waits. -/
theorem foundCarrierOpens : Obligations.FoundCarrierOpens := by
  unfold Obligations.FoundCarrierOpens
  intro s r l n q e rec_ c hrun hreq hstale he hp hcar hconf hn hempty hlow hroom hwait
  have hn96 : n < 96 := by omega
  generalize hd : (⟨q.lower + q.halfWidth + r.evaluated * q.step, c.halfWidth, c.group⟩ : Carrier) = d
  obtain ⟨a, ha⟩ : ∃ a : State, a = { s with engine.running := none } := ⟨_, rfl⟩
  have hentry (j : Nat) : entry a j = entry s j := by rw [ha]; rfl
  have hrecord (j : Nat) : planRecord a j = planRecord s j := by rw [ha]; rfl
  have hcamera : isCamera a l = isCamera s l := by rw [isCamera_enrolled he, isCamera_enrolled ((hentry l).trans he)]
  have hawait : (openFor rec_ n d l a).retune.waitList = s.retune.waitList := by
    rw [openFor_waitList, ha]; exact setRemove_of_not_mem hwait
  have hplan (j : Nat) (hj : j ≠ n) : planRecord (openFor rec_ n d l a) j = planRecord s j :=
    (planRecord_openFor_ne hj).trans (hrecord j)
  have hserved : ListServed s.engine.queue s.retune.waitList s (serveWaitList (openFor rec_ n d l a)) := by
    have h := listServed_serveWaitList (s := openFor rec_ n d l a) (u := s) (by rw [openFor_engine, ha]; rfl)
      (fun m hm => (entry_openFor_ne fun hml : m = l => hwait (hml ▸ hawait ▸ hm)).trans (hentry m))
      (fun i x hi => by rw [hplan i fun h => by rw [h, hempty] at hi; cases hi]; exact hi)
      (by rw [openFor_plan, ha])
    have hqueue : (openFor rec_ n d l a).engine.queue = s.engine.queue := by rw [openFor_engine, ha]; rfl
    rwa [hawait, hqueue] at h
  have hserve (j : Nat) : planRecord (serveWaitList (openFor rec_ n d l a)) j = planRecord (openFor rec_ n d l a) j :=
    congrFun (planRecord_of_records (congrArg Plan.records (serveWaitList_plan _))) j
  refine ⟨serveWaitList (openFor rec_ n d l a), startHead (serveWaitList (openFor rec_ n d l a)), rfl, ?eval,
    (hserve n).trans (planRecord_openFor_self hn96),
    (entry_serveWaitList_ne (hawait ▸ hwait)).trans (entry_openFor_self ((hentry l).trans he)),
    ?tune, ?noTune, ?changed, ?idle, hserved, fun j hj => (hserve j).trans (hplan j hj),
    fun j hj hjw => (entry_serveWaitList_ne (hawait ▸ hjw)).trans ((entry_openFor_ne hj).trans (hentry j)),
    ?causes, ?cue, ?tally, ?talk, ?survey, ?slots, plan_of_standing (standing_startHead _), startHead_ret _⟩
  case eval =>
    refine congrArg Host.Outcome.next ((evaluateRunning_found hrun hreq hconf).trans ?_)
    rw [hstale, ← ha, applySearchResult_found (n := n) ((hentry l).trans he) hp ((congrArg _ (hrecord _)).trans hcar)
      hn96 ((hrecord n).trans hempty) (fun j hj => hrecord j ▸ hlow j hj) (by rw [ha]; exact hroom), ← hd]
    rfl
  case tune => exact fun h => by rw [serveWaitList_ret]; exact mem_tunePending_openFor (hcamera.trans h)
  case noTune => exact fun h => by rw [serveWaitList_ret, openFor_ret_of_not_camera (hcamera.trans h), ha]
  case changed => rw [serveWaitList_ctl, openFor_ctl]; exact (mem_setAdd ..).2 (.inl rfl)
  case idle => rw [serveWaitList_running, openFor_engine, ha]; rfl
  case slots => rw [serveWaitList_slots, openFor_engine, ha]; rfl
  all_goals simp only [serveWaitList_ctl, serveWaitList_ret, serveWaitList_tally, serveWaitList_talk,
    serveWaitList_survey, openFor_ctl, openFor_cuePending, openFor_tally, openFor_talk, openFor_survey, ha]

end Sys2Proof.Proofs
end

section
/-! SUPPORT. LINK.RETUNE, with a target and without one (R102 to R104, R109). -/
namespace Sys2Proof.Machine

section
variable {s t : State} {i l n keep : Nat} {e : EnrolledLink} {r : RetuneRecord} {c : Carrier}

theorem flagChoice_of_le {n : Nat} (h : n ≤ 1) : flagChoice n = some (n == 1) := by
  match n, h with
  | 0, _ => rfl
  | 1, _ => rfl

theorem flagChoice_of_lt {n : Nat} (h : 1 < n) : flagChoice n = none := by
  match n, h with
  | n + 2, _ => rfl

/-! ## The start of a search -/

theorem placeSearch_frame (l : Nat) (s : State) : placeSearch l s = { s with
    dir := (placeSearch l s).dir
    engine := { s.engine with queue := (placeSearch l s).engine.queue }
    retune := { s.retune with waitList := (placeSearch l s).retune.waitList } } := by
  unfold placeSearch
  split
  · rw [queueSearch_frame]
  · rw [joinWaitList_frame]

theorem entry_placeSearch_ne {j : Nat} (hj : j ≠ l) : entry (placeSearch l s) j = entry s j := by
  unfold placeSearch
  split
  · exact entry_queueSearch_ne hj
  · exact entry_setPlace_ne _ hj

/-- R104: a search goes to the engine while it has room, and to the seek wait list otherwise. -/
theorem placeSearch_placed {q : SearchPlace} (he : entry s l = .enrolled e) (hp : e.phase = .seeking r q) :
    ∃ place, entry (placeSearch l s) l = .enrolled { e with phase := .seeking r place } ∧
      SearchPlaced place l e s (placeSearch l s) := by
  by_cases h : internalCount s < Config.internalCapacity
  · have ht : placeSearch l s = setPlace .inEngine l (enqueue ⟨.internal l, .find (linkSearch s e)⟩ s) := by
      rw [placeSearch, if_pos h, queueSearch_enrolled he]
    rw [ht]
    refine ⟨.inEngine, entry_setPlace_self _ he hp, fun _ => ⟨rfl, by rw [setPlace_retune]; rfl, linkSearch s e,
      by rw [setPlace_engine]; rfl, fun c hc => linkSearch_eq hc⟩, fun h2 => absurd h (Nat.not_lt.2 h2)⟩
  · have ht : placeSearch l s = joinWaitList l s := by rw [placeSearch, if_neg h]
    rw [ht]
    exact ⟨.waiting, entry_setPlace_self _ he hp, fun h2 => absurd h2 h,
      fun _ => ⟨rfl, by rw [joinWaitList_frame], fun _ => mem_joinWaitList⟩⟩

/-- The placement sees the engine, the plan and the seek wait list alone. -/
theorem searchPlaced_congr {u : State} {e' : EnrolledLink} {place : SearchPlace} (hc : e'.carrier = e.carrier)
    (hengine : u.engine = s.engine) (hplan : u.plan = s.plan) (hwait : u.retune.waitList = s.retune.waitList)
    (h : SearchPlaced place l e' u t) : SearchPlaced place l e s t := by
  have hcount : internalCount u = internalCount s := by rw [internalCount, engineRequests, hengine]; rfl
  have hrecord (j : Nat) : planRecord u j = planRecord s j := by rw [planRecord, hplan]; rfl
  have hsearch (c : Carrier) : planSearch u c = planSearch s c := by rw [planSearch, hplan]; rfl
  simpa only [SearchPlaced, hc, hengine, hwait, hcount, hrecord, hsearch] using h

/-- R102: what the start of a retune without a target writes beside the entry, the engine and the wait list. -/
theorem startSeeking_frame (o : Origin) (k : Bool) (l : Nat) (s : State) : startSeeking o k l s = { s with
    dir := (startSeeking o k l s).dir
    engine := { s.engine with queue := (startSeeking o k l s).engine.queue }
    retune := { s.retune with
      seekOrder := s.retune.seekOrder ++ [l], waitList := (startSeeking o k l s).retune.waitList }
    ctl := { s.ctl with changed := setAdd l s.ctl.changed } } := by
  unfold startSeeking
  dsimp only
  rw [placeSearch_frame, updateLink_frame]
  rfl

theorem entry_startSeeking_ne {j : Nat} (o : Origin) (k : Bool) (hj : j ≠ l) :
    entry (startSeeking o k l s) j = entry s j :=
  (entry_placeSearch_ne hj).trans (entry_updateLink_ne _ hj)

theorem startSeeking_placed (o : Origin) (k : Bool) (he : entry s l = .enrolled e) :
    ∃ place, entry (startSeeking o k l s) l
        = .enrolled { e with phase := .seeking ⟨o, k, deadlineAfter s.retune.limit s⟩ place } ∧
      SearchPlaced place l e s (startSeeking o k l s) := by
  obtain ⟨place, hentry, hplaced⟩ := placeSearch_placed (r := ⟨o, k, deadlineAfter s.retune.limit s⟩)
    (s := markChanged l { (updateLink l (fun e => { e with
      phase := .seeking ⟨o, k, deadlineAfter s.retune.limit s⟩ .waiting }) s) with
        retune.seekOrder := (updateLink l (fun e => { e with
      phase := .seeking ⟨o, k, deadlineAfter s.retune.limit s⟩ .waiting }) s).retune.seekOrder ++ [l] })
    (entry_updateLink_self _ he) rfl
  refine ⟨place, hentry, searchPlaced_congr (e' := _) ?_ ?_ ?_ ?_ hplaced⟩
  · rfl
  all_goals rw [updateLink_frame]; rfl

/-! ## The verdicts of LINK.RETUNE -/

/-- The range check of the index and of the optional target. -/
theorem linkRetune_outOfRange :
    (decide (63 < i) || (optIndex n).any (95 < ·)) = true ↔ 63 < i ∨ (95 < n ∧ n ≠ 255) := by
  by_cases h : n = 255
  · simp [optIndex, h]
  · simp [optIndex, h]

theorem linkRetuneRule_badField (h : 63 < i ∨ (95 < n ∧ n ≠ 255) ∨ 1 < keep) :
    linkRetuneRule i n keep s = .refuse .badField := by
  unfold linkRetuneRule
  dsimp only
  split
  · rfl
  · next hr =>
    rw [linkRetune_outOfRange] at hr
    rw [flagChoice_of_lt (by tauto)]

theorem linkRetune_inRange (hi : i ≤ 63) (hn : n ≤ 95 ∨ n = 255) :
    (decide (63 < i) || (optIndex n).any (95 < ·)) = false := by
  rw [Bool.eq_false_iff, ne_eq, linkRetune_outOfRange]
  omega

section
variable (hi : i ≤ 63) (hn : n ≤ 95 ∨ n = 255) (hk : keep ≤ 1)
include hi hn hk

theorem linkRetuneRule_notEnrolled (he : (entry s i).isEnrolled = false) :
    linkRetuneRule i n keep s = .refuse .badState := by
  simp only [linkRetuneRule, linkRetune_inRange hi hn, flagChoice_of_le hk, Bool.false_eq_true, if_false]
  split
  · next h => rw [h] at he; cases he
  · rfl

theorem linkRetuneRule_busy (he : entry s i = .enrolled e) (hp : e.phase ≠ .none) :
    linkRetuneRule i n keep s = .refuse .busy := by
  simp only [linkRetuneRule, linkRetune_inRange hi hn, flagChoice_of_le hk, Bool.false_eq_true, if_false, he]

end

theorem linkRetuneRule_seek (hi : i ≤ 63) (hk : keep ≤ 1) (he : entry s i = .enrolled e) (hp : e.phase = .none) :
    linkRetuneRule i 255 keep s = .accept [.one (.choice 1), .optional [[]]]
      (startSeeking .requested (keep == 1) i (stopDelay i s)) := by
  simp only [linkRetuneRule, linkRetune_inRange hi (.inr rfl), flagChoice_of_le hk, Bool.false_eq_true, if_false,
    he, hp]
  rfl

section
variable (hi : i ≤ 63) (hn : n ≤ 95) (hk : keep ≤ 1) (he : entry s i = .enrolled e) (hp : e.phase = .none)
include hi hn hk he hp

theorem linkRetuneRule_open (hr : planRecord s n = .reserved c) :
    linkRetuneRule i n keep s = .accept [.one (.choice 2), .optional [[.index n]]]
      (openFor ⟨.requested, keep == 1, deadlineAfter s.retune.limit s⟩ n c i (stopDelay i s)) := by
  have ho : openOnTarget n i (stopDelay i s) = some (markStale (setRecord n (.handover c i) (stopDelay i s))) :=
    openOnTarget_eq_some.2 ⟨c, by rw [planRecord, stopDelay, updateLink_plan]; exact hr, rfl⟩
  unfold stopDelay at ho
  have hin := linkRetune_inRange hi (.inl hn)
  rw [optIndex_of_ne (show n ≠ 255 by omega)] at hin
  simp only [linkRetuneRule, flagChoice_of_le hk, he, hp, optIndex_of_ne (show n ≠ 255 by omega), hin,
    Bool.false_eq_true, if_false, ho]
  rfl

theorem linkRetuneRule_badState (hr : ∀ c, planRecord s n ≠ .reserved c) :
    linkRetuneRule i n keep s = .refuse .badState := by
  have ho : openOnTarget n i (stopDelay i s) = none := by
    refine Option.eq_none_iff_forall_ne_some.2 fun t ht => ?_
    obtain ⟨c, hc, -⟩ := openOnTarget_eq_some.1 ht
    rw [planRecord, stopDelay, updateLink_plan] at hc
    exact hr c hc
  unfold stopDelay at ho
  have hin := linkRetune_inRange hi (.inl hn)
  rw [optIndex_of_ne (show n ≠ 255 by omega)] at hin
  simp only [linkRetuneRule, flagChoice_of_le hk, he, hp, optIndex_of_ne (show n ≠ 255 by omega), hin,
    Bool.false_eq_true, if_false, ho]

end

end

end Sys2Proof.Machine
end

section
namespace Sys2Proof.Proofs
open Sys2Proof.Machine

/-- Settles O32: with a target the new carrier opens on the RESERVED record as a found one does, and without one the
search is placed; the stop of the retune-delay timer before either writes the entry alone. -/
theorem retuneRequests : Obligations.RetuneRequests := by
  unfold Obligations.RetuneRequests
  refine ⟨fun p i keep e s hm he hk => ?_, fun p i n keep s hm => ⟨?badField, ?notEnrolled⟩⟩
  case badField =>
    exact fun h => congrArg Host.Outcome.next (takeRequest_refused hm (linkRetuneRule_badField h))
  case notEnrolled =>
    intro hi hn hk he
    refine congrArg Host.Outcome.next (takeRequest_refused hm (linkRetuneRule_notEnrolled hi hn hk ?_))
    rw [entry_completeFrame]
    exact he
  have hi : i ≤ 63 := le_of_enrolled he
  have heu : entry (completeFrame p s) i = .enrolled e := (entry_completeFrame _ p i).trans he
  have hlimit : deadlineAfter (completeFrame p s).retune.limit (completeFrame p s)
      = s.clock + BitVec.ofNat 32 s.retune.limit := by
    rw [deadlineAfter, completeFrame_clock, completeFrame_retune]
  obtain ⟨v, hv⟩ : ∃ v, v = stopDelay i (completeFrame p s) := ⟨_, rfl⟩
  have hvi : entry v i = .enrolled { e with delayTimer := none } := by rw [hv]; exact entry_updateLink_self _ heu
  have hvj (j : Nat) (hj : j ≠ i) : entry v j = entry s j := by
    rw [hv]; exact (entry_updateLink_ne _ hj).trans (entry_completeFrame _ p j)
  have hframe : v = { completeFrame p s with dir := v.dir } := by
    rw [hv]
    exact updateLink_frame ..
  have hcamera : isCamera v i = isCamera s i := by rw [isCamera_enrolled hvi, isCamera_enrolled he]
  refine ⟨?target, ?badState, ?search, ?busy⟩
  case badState =>
    intro n hp hn hr
    refine congrArg Host.Outcome.next (takeRequest_refused hm (linkRetuneRule_badState hi hn hk heu hp fun c hc => ?_))
    rw [planRecord_completeFrame] at hc
    exact hr c hc
  case busy =>
    exact fun n hp hn =>
      congrArg Host.Outcome.next (takeRequest_refused hm (linkRetuneRule_busy hi hn hk heu hp))
  case target =>
    intro n c hp hr
    have hn : n < 96 := lt_of_planRecord_ne (by rw [hr]; exact fun h => by cases h)
    have hru : planRecord (completeFrame p s) n = .reserved c := (planRecord_completeFrame _ p n).trans hr
    refine ⟨openFor ⟨.requested, keep == 1, s.clock + BitVec.ofNat 32 s.retune.limit⟩ n c i v, ?_,
      planRecord_openFor_self hn, fun j hj => (planRecord_openFor_ne hj).trans ?_, entry_openFor_self hvi,
      fun j hj => (entry_openFor_ne hj).trans (hvj j hj), ?_, ?_, ?_, ?_, ?_, ?_, ?_, ?_⟩
    · rw [hv, ← hlimit]
      exact congrArg Host.Outcome.next (takeRequest_answered hm (linkRetuneRule_open hi (by omega) hk heu hp hru))
    · rw [hframe]; exact planRecord_completeFrame _ p j
    · rw [openFor_ret, hcamera, hframe]; simp only [completeFrame_ret]
    · rw [openFor_engine, hframe]; simp
    · rw [openFor_talk, hframe]; simp
    · rw [openFor_survey, hframe]; simp
    · rw [openFor_tally, hframe]; simp
    · intro hs hw
      rw [openFor_eq, hframe]
      simp [setRemove_of_not_mem, hs, hw]
    · rw [openFor_ctl, hframe]; simp
    · rw [openFor_ctl, hframe]; simp
  case search =>
    intro hp
    obtain ⟨place, hplace, hplaced⟩ := startSeeking_placed .requested (keep == 1) hvi
    obtain ⟨t, ht⟩ : ∃ t, t = startSeeking .requested (keep == 1) i v := ⟨_, rfl⟩
    have htframe := startSeeking_frame .requested (keep == 1) i v
    rw [← ht] at hplace hplaced htframe
    have hvlimit : deadlineAfter v.retune.limit v = s.clock + BitVec.ofNat 32 s.retune.limit := by
      rw [← hlimit, hframe]; rfl
    rw [hvlimit] at hplace
    refine ⟨t, place, ?_, hplace, searchPlaced_congr (u := v) (e' := _) rfl ?_ ?_ ?_ hplaced, ?_,
      fun j hj => by rw [ht, entry_startSeeking_ne _ _ hj, hvj j hj], ?_, ?_, ?_, ?_, ?_, ?_, ?_⟩
    · rw [ht, hv]
      exact congrArg Host.Outcome.next (takeRequest_answered hm (linkRetuneRule_seek hi hk heu hp))
    · rw [hframe]; simp
    · rw [hframe]; simp
    · rw [hframe]; simp
    all_goals rw [htframe, hframe]; simp

end Sys2Proof.Proofs
end

section
/-! SUPPORT. The abort of a retune from each phase (R112 to R114). -/
namespace Sys2Proof.Machine

section
variable {s u : State} {l j : Nat} {e : EnrolledLink} {r : RetuneRecord} {result : RetuneResult}

/-! ## Identity of the entries -/

theorem entryIdent_updateLink {f : EnrolledLink → EnrolledLink} (hf : ∀ e, (f e).ident = e.ident) :
    entryIdent (entry (updateLink l f s) j) = entryIdent (entry s j) := by
  by_cases hj : j = l
  · cases hj
    cases he : entry s l with
    | enrolled e => rw [entry_updateLink_self f he]; exact congrArg some (hf e)
    | vacant => simp [updateLink, he]
    | noted n => simp [updateLink, he]
  · rw [entry_updateLink_ne f hj]

theorem entryIdent_endRetune : entryIdent (entry (endRetune result l s) j) = entryIdent (entry s j) :=
  entryIdent_updateLink fun _ => rfl

theorem entryIdent_queueSearch : entryIdent (entry (queueSearch l s) j) = entryIdent (entry s j) := by
  unfold queueSearch
  split
  · exact entryIdent_updateLink fun _ => rfl
  · rfl

theorem entryIdent_serveWaitList : entryIdent (entry (serveWaitList s) j) = entryIdent (entry s j) := by
  unfold serveWaitList
  split
  · rfl
  · split
    · exact entryIdent_queueSearch
    · rfl

/-! ## Searches that leave the engine -/

theorem mem_searchingLinks : l ∈ searchingLinks s ↔
    (∃ q, s.engine.running = some q ∧ q.request.client = .internal l) ∨
      ∃ q ∈ s.engine.queue, q.client = .internal l := by
  simp only [searchingLinks, engineRequests, List.mem_filterMap, List.mem_append, Option.mem_toList,
    Option.map_eq_some_iff]
  constructor
  · rintro ⟨q, hmem, hq⟩
    have hc : q.client = .internal l := by
      split at hq
      · next h => cases hq; exact h
      · cases hq
    obtain ⟨a, ha, rfl⟩ | hmem := hmem
    · exact .inl ⟨a, ha, hc⟩
    · exact .inr ⟨q, hmem, hc⟩
  · rintro (⟨a, ha, hc⟩ | ⟨q, hmem, hc⟩)
    · exact ⟨_, .inl ⟨a, ha, rfl⟩, by rw [hc]⟩
    · exact ⟨q, .inr hmem, by rw [hc]⟩

theorem not_mem_searchingLinks_cancelInternal : l ∉ searchingLinks (cancelInternal l s) := by
  rw [mem_searchingLinks]
  rintro (⟨q, hq, hc⟩ | ⟨q, hq, hc⟩)
  · simp [cancelInternal, Option.filter_eq_some_iff, hc] at hq
  · simp [cancelInternal, hc] at hq

theorem mem_searchingLinks_queueSearch {x : Nat} (h : x ∈ searchingLinks (queueSearch l s)) :
    x ∈ searchingLinks s ∨ x = l := by
  unfold queueSearch at h
  split at h
  · rw [mem_searchingLinks, setPlace_engine] at h
    simp only [enqueue, List.mem_append, List.mem_singleton] at h
    rw [mem_searchingLinks]
    obtain h | ⟨q, hq | rfl, hc⟩ := h
    · exact .inl (.inl h)
    · exact .inl (.inr ⟨q, hq, hc⟩)
    · cases hc; exact .inr rfl
  · exact .inl h

/-- The service of the list puts no search into the engine but a waiting link's. -/
theorem mem_searchingLinks_serveWaitList {x : Nat} (h : x ∈ searchingLinks (serveWaitList s)) :
    x ∈ searchingLinks s ∨ x ∈ s.retune.waitList := by
  unfold serveWaitList at h
  split at h
  · exact .inl h
  · next m rest hw =>
    split at h
    · obtain h | rfl := mem_searchingLinks_queueSearch h
      · exact .inl h
      · exact .inr (by rw [hw]; exact List.mem_cons_self)
    · exact .inl h

theorem waitList_serveWaitList_subset : (serveWaitList s).retune.waitList ⊆ s.retune.waitList := by
  unfold serveWaitList
  split
  · exact fun _ h => h
  · next m rest hw =>
    split
    · rw [hw, show (queueSearch m { s with retune.waitList := rest }).retune.waitList = rest by
        unfold queueSearch; split <;> simp [enqueue]]
      exact List.subset_cons_self _ _
    · exact fun _ h => h

theorem internalRuns_iff :
    internalRuns s l = true ↔ ∃ q, s.engine.running = some q ∧ q.request.client = .internal l := by
  unfold internalRuns
  cases s.engine.running <;> simp

/-! ## The abort -/

@[simp] theorem endRetune_engine : (endRetune result l s).engine = s.engine := by rw [endRetune_eq]
@[simp] theorem endRetune_ret : (endRetune result l s).ret = s.ret := by rw [endRetune_eq]
@[simp] theorem endRetune_survey : (endRetune result l s).survey = s.survey := by rw [endRetune_eq]
@[simp] theorem endRetune_tally : (endRetune result l s).tally = s.tally := by rw [endRetune_eq]
@[simp] theorem endRetune_talk : (endRetune result l s).talk = s.talk := by rw [endRetune_eq]
@[simp] theorem endRetune_causes : (endRetune result l s).ctl.causes = s.ctl.causes ||| causeOnly .retuneEnd := by
  rw [endRetune_eq]
@[simp] theorem endRetune_changed : (endRetune result l s).ctl.changed = setAdd l s.ctl.changed := by
  rw [endRetune_eq]
@[simp] theorem endRetune_waitList : (endRetune result l s).retune.waitList = setRemove l s.retune.waitList := by
  rw [endRetune_eq]

theorem closeRecord_frame (n : Nat) (s : State) : closeRecord n s = { s with
    plan := (closeRecord n s).plan, engine := (closeRecord n s).engine } := by
  unfold closeRecord
  split <;> rfl

@[simp] theorem closeRecord_ctl (n : Nat) (s : State) : (closeRecord n s).ctl = s.ctl := by rw [closeRecord_frame]
@[simp] theorem closeRecord_ret (n : Nat) (s : State) : (closeRecord n s).ret = s.ret := by rw [closeRecord_frame]
@[simp] theorem closeRecord_tally (n : Nat) (s : State) : (closeRecord n s).tally = s.tally := by rw [closeRecord_frame]
@[simp] theorem closeRecord_talk (n : Nat) (s : State) : (closeRecord n s).talk = s.talk := by rw [closeRecord_frame]
@[simp] theorem closeRecord_survey (n : Nat) (s : State) : (closeRecord n s).survey = s.survey := by
  rw [closeRecord_frame]
@[simp] theorem closeRecord_slots (n : Nat) (s : State) : (closeRecord n s).engine.slots = s.engine.slots := by
  unfold closeRecord
  split <;> rfl

/-- The search of the link runs: its abort lets the next head start (log entry 19). -/
def RunsSearch (l : Nat) (e : EnrolledLink) (s : State) : Prop :=
  ∃ q r, s.engine.running = some q ∧ q.request.client = .internal l ∧ e.phase = .seeking r .inEngine

/-- What the abort of a retune with the result leaves, before the engine starts a next head (R112 to R114). -/
def Aborted (l : Nat) (e : EnrolledLink) (s : State) (result : RetuneResult) (u : State) : Prop :=
  entry u l = .enrolled { e with phase := .none, lastResult := result } ∧
  (∀ r n d, e.phase = .ordered r n → planRecord s n = .handover d l →
    planRecord u n = .empty ∧ l ∉ u.ret.tunePending ∧ (∀ j, j ≠ n → planRecord u j = planRecord s j) ∧
    u.engine = { s.engine with running := s.engine.running.map fun q => { q with stale := true } }) ∧
  (∀ r place, e.phase = .seeking r place → ¬ RunsSearch l e s → u.engine.running = s.engine.running) ∧
  (∀ r place, e.phase = .seeking r place → SearchLaw s → l ∉ searchingLinks u ∧ l ∉ u.retune.waitList ∧
    u.plan.records = s.plan.records ∧ u.ret = s.ret) ∧
  (RunsSearch l e s → l ∉ s.retune.waitList → u.engine.running = none ∧
    ListServed (s.engine.queue.filter fun r => r.client != .internal l) s.retune.waitList s u) ∧
  u.ctl.causes = s.ctl.causes ||| causeOnly .retuneEnd ∧ u.ctl.changed = setAdd l s.ctl.changed ∧
  (∀ j, j ≠ l → entryIdent (entry u j) = entryIdent (entry s j)) ∧ u.ret.cuePending = s.ret.cuePending ∧
  u.ret.inFlight = s.ret.inFlight ∧ u.tally = s.tally ∧ u.talk = s.talk ∧ u.survey = s.survey ∧
  u.engine.slots = s.engine.slots

theorem runsSearch_iff (hp : e.phase = .seeking r .inEngine) : RunsSearch l e s ↔ internalRuns s l = true := by
  rw [internalRuns_iff]
  exact ⟨fun ⟨q, _, hq, hc, _⟩ => ⟨q, hq, hc⟩, fun ⟨q, hq, hc⟩ => ⟨q, r, hq, hc, hp⟩⟩

/-- R112, R14: in ORDERED the record closes and the TUNE goes. -/
theorem aborted_ordered {n : Nat} (he : entry s l = .enrolled e) (hp : e.phase = .ordered r n) :
    Aborted l e s result (endRetune result l (removeTunePending l (closeRecord n s))) := by
  have hphase (r' : RetuneRecord) (place : SearchPlace) : e.phase ≠ .seeking r' place := by rw [hp]; exact nofun
  have hle : entry (removeTunePending l (closeRecord n s)) l = .enrolled e := by simp [he]
  refine ⟨entry_endRetune_self result hle, ?record, fun _ _ h => absurd h (hphase _ _),
    fun _ _ h => absurd h (hphase _ _), fun ⟨_, _, _, _, h⟩ => absurd h (hphase _ _), ?_, ?_, fun j _ => ?_, ?_, ?_,
    ?_, ?_, ?_, ?_⟩
  case record =>
    intro r' n' d hp' hrec
    cases hp.symm.trans hp'
    have hn : n < 96 := lt_of_planRecord_ne (by rw [hrec]; exact fun h => by cases h)
    simp only [planRecord, endRetune_plan, endRetune_engine, endRetune_ret, removeTunePending_plan,
      removeTunePending_engine, removeTunePending_ret, closeRecord_handover hrec, markStale_plan, setRecord_plan,
      markStale_engine, setRecord_engine, mem_setRemove]
    exact ⟨look_put_self _ _ _ hn, fun h => h.2 rfl, fun j hj => look_put_ne _ _ _ _ hj, trivial⟩
  · rw [endRetune_causes]; simp
  · rw [endRetune_changed]; simp
  · rw [entryIdent_endRetune]; simp
  all_goals simp

/-- R112: a waiting search leaves the seek wait list. -/
theorem aborted_waiting (he : entry s l = .enrolled e) (hp : e.phase = .seeking r .waiting) :
    Aborted l e s result (endRetune result l s) := by
  have hidle : ¬ RunsSearch l e s := by
    rintro ⟨_, _, _, _, h⟩
    rw [hp] at h
    cases h
  refine ⟨entry_endRetune_self result he, fun _ _ _ h => absurd (hp.symm.trans h) nofun, fun _ _ _ _ => by simp, ?law,
    fun h => absurd h hidle, by simp, by simp, fun j _ => entryIdent_endRetune, by simp, by simp, by simp, by simp,
    by simp, by simp⟩
  case law =>
    intro _ _ _ ⟨⟨_, _, _, hin, _⟩, _, _⟩
    refine ⟨fun h => ?_, by simp, by simp, by simp⟩
    rw [mem_searchingLinks, endRetune_engine, ← mem_searchingLinks] at h
    obtain ⟨e', r', he', hp'⟩ := (hin l).1 h
    cases he.symm.trans he'
    rw [hp] at hp'
    cases hp'

/-- R112, R32, R105: a search in the engine leaves it, and the list is served. -/
theorem aborted_inEngine (he : entry s l = .enrolled e) (hp : e.phase = .seeking r .inEngine) :
    Aborted l e s result (serveWaitList (cancelInternal l (endRetune result l s))) := by
  generalize hw : cancelInternal l (endRetune result l s) = w
  have hwait : w.retune.waitList = setRemove l s.retune.waitList := by rw [← hw]; exact endRetune_waitList
  have hplan : w.plan = s.plan := by rw [← hw]; exact endRetune_plan _
  have hentry (j : Nat) : entry w j = entry (endRetune result l s) j := by rw [← hw]; rfl
  have hrunning : w.engine.running = s.engine.running.filter fun r => r.request.client != .internal l := by
    rw [← hw]; simp [cancelInternal]
  have hqueue : w.engine.queue = s.engine.queue.filter fun r => r.client != .internal l := by
    rw [← hw]; simp [cancelInternal]
  have hl : l ∉ w.retune.waitList := by rw [hwait]; simp
  have hret : w.ret = s.ret := by rw [← hw]; exact endRetune_ret
  refine ⟨?entry, fun _ _ _ h => absurd (hp.symm.trans h) nofun, ?runs, ?law, ?served, ?_, ?_, fun j _ => ?ident, ?_,
    ?_, ?_, ?_, ?_, ?_⟩
  case entry => rw [entry_serveWaitList_ne hl, hentry]; exact entry_endRetune_self result he
  case runs =>
    intro _ _ _ hidle
    rw [runsSearch_iff hp, internalRuns_iff] at hidle
    rw [serveWaitList_running, hrunning]
    cases hr : s.engine.running with
    | none => rfl
    | some q => exact Option.filter_some_pos (by simpa using fun hc => hidle ⟨q, hr, hc⟩)
  case law =>
    intro _ _ _ _
    refine ⟨fun h => ?_, fun h => hl (waitList_serveWaitList_subset h), by rw [serveWaitList_plan, hplan],
      by rw [serveWaitList_ret, hret]⟩
    obtain h | h := mem_searchingLinks_serveWaitList h
    · rw [← hw] at h
      exact not_mem_searchingLinks_cancelInternal h
    · exact hl h
  case served =>
    rintro ⟨q, _, hr, hc, _⟩ hwl
    have hnone : w.engine.running = none := by rw [hrunning, hr]; simp [hc]
    have hsame : w.retune.waitList = s.retune.waitList := by rw [hwait, setRemove_of_not_mem hwl]
    have h := listServed_serveWaitList (u := s) hnone
      (fun m hm => (hentry m).trans (entry_endRetune_ne result fun hml : m = l => hl (hml ▸ hm)))
      (fun i c hi => by rw [planRecord, hplan]; exact hi) (by rw [hplan])
    rw [hqueue, hsame] at h
    exact ⟨by rw [serveWaitList_running, hnone], h⟩
  case ident => rw [entryIdent_serveWaitList, hentry, entryIdent_endRetune]
  · rw [serveWaitList_ctl, ← hw]; exact endRetune_causes
  · rw [serveWaitList_ctl, ← hw]; exact endRetune_changed
  · rw [serveWaitList_ret, hret]
  · rw [serveWaitList_ret, hret]
  · rw [serveWaitList_tally, ← hw]; exact endRetune_tally
  · rw [serveWaitList_talk, ← hw]; exact endRetune_talk
  · rw [serveWaitList_survey, ← hw]; exact endRetune_survey
  · rw [serveWaitList_slots, ← hw]; simp [cancelInternal]

/-- The abort of a retune: what it leaves, and the start of the next head where the search ran. -/
theorem abortRetune_aborted (he : entry s l = .enrolled e) (hp : e.phase ≠ .none) : ∃ u, Aborted l e s result u ∧
    (RunsSearch l e s → exec .engineStart u = .next (abortRetune result l s)) ∧
    (¬ RunsSearch l e s → abortRetune result l s = u) := by
  cases h : e.phase with
  | none => exact absurd h hp
  | ordered r n =>
    refine ⟨_, aborted_ordered he h, fun ⟨_, _, _, _, h'⟩ => absurd (h.symm.trans h') nofun, fun _ => ?_⟩
    simp only [abortRetune, he, h]
  | seeking r place =>
    cases place with
    | waiting =>
      refine ⟨_, aborted_waiting he h, fun ⟨_, _, _, _, h'⟩ => absurd (h.symm.trans h') nofun, fun _ => ?_⟩
      simp only [abortRetune, he, h]
    | inEngine =>
      have habort : abortRetune result l s = cancelSearch l (endRetune result l s) := by simp only [abortRetune, he, h]
      have hruns : internalRuns (endRetune result l s) l = internalRuns s l := by
        rw [internalRuns, endRetune_engine]; rfl
      refine ⟨_, aborted_inEngine he h, fun hs => ?_, fun hs => ?_⟩
      · rw [habort, cancelSearch, if_pos (hruns.trans ((runsSearch_iff h).1 hs))]
        rfl
      · rw [habort, cancelSearch, if_neg (by rw [hruns, ← runsSearch_iff h]; exact hs)]

theorem aborted_completeFrame {p : Port} (h : Aborted l e (completeFrame p s) result u) : Aborted l e s result u := by
  cases p <;> exact h

/-! ## The verdicts of LINK.HALT -/

theorem linkHaltRule_badField (h : 63 < l) : linkHaltRule l s = .refuse .badField := if_pos h

theorem linkHaltRule_notEnrolled (hl : l ≤ 63) (he : (entry s l).isEnrolled = false) :
    linkHaltRule l s = .refuse .badState := by
  rw [linkHaltRule, if_neg (by omega)]
  split
  · next h => rw [h] at he; cases he
  · rfl

theorem linkHaltRule_noRetune (he : entry s l = .enrolled e) (hp : e.phase = .none) :
    linkHaltRule l s = .refuse .badState := by
  rw [linkHaltRule, if_neg (by have := le_of_enrolled he; omega), he]
  simp only [hp]

theorem linkHaltRule_abort (he : entry s l = .enrolled e) (hp : e.phase ≠ .none) :
    linkHaltRule l s = .accept [] (abortRetune .halted l s) := by
  rw [linkHaltRule, if_neg (by have := le_of_enrolled he; omega), he]
  dsimp only
  split
  · next h => exact absurd h hp
  · rfl

end

end Sys2Proof.Machine
end

section
namespace Sys2Proof.Proofs
open Sys2Proof.Machine

/-- Settles O33: both commands run `abortRetune`, whose outcome the three phases give (`abortRetune_aborted`). -/
theorem retuneAborts : Obligations.RetuneAborts := by
  unfold Obligations.RetuneAborts
  refine ⟨fun l e s he hp => ⟨fun p hm => ?halt, fun r hr hreached => ?expiry⟩, fun p l s hm => ⟨fun h => ?badField,
    fun hl he => ?notEnrolled, fun e he hp => ?noRetune⟩⟩
  case halt =>
    have heu : entry (completeFrame p s) l = .enrolled e := by rw [entry_completeFrame]; exact he
    obtain ⟨u, hu, hstarts, hstays⟩ := abortRetune_aborted (result := .halted) heu hp
    have hruns : RunsSearch l e (completeFrame p s) ↔ RunsSearch l e s := by
      rw [RunsSearch, RunsSearch, completeFrame_engine]
    exact ⟨u, _, aborted_completeFrame hu, ⟨fun h => hstarts (hruns.2 h), fun h => hstays (mt hruns.1 h)⟩,
      congrArg Host.Outcome.next (takeRequest_answered hm (linkHaltRule_abort heu hp))⟩
  case expiry =>
    obtain ⟨u, hu, hgoes⟩ := abortRetune_aborted (result := .timeout) he hp
    have hlimit : limitDeadline e = some r.limit := by
      obtain h | ⟨place, h⟩ := hr <;> rw [limitDeadline, h]
    refine ⟨u, _, hu, hgoes, congrArg Host.Outcome.next ?_⟩
    rw [(enrolledLink_eq_some).2 he]
    dsimp only
    rw [hlimit]
    exact if_pos hreached
  case badField => exact congrArg Host.Outcome.next (takeRequest_refused hm (linkHaltRule_badField h))
  case notEnrolled =>
    exact congrArg Host.Outcome.next (takeRequest_refused hm
      (linkHaltRule_notEnrolled hl (by rw [entry_completeFrame]; exact he)))
  case noRetune =>
    exact congrArg Host.Outcome.next (takeRequest_refused hm
      (linkHaltRule_noRetune (by rw [entry_completeFrame]; exact he) hp))

end Sys2Proof.Proofs
end

section
/-! SUPPORT. What a good report, the completion of a retune and the echo comparison write (R85, R87, R111, R130). -/
namespace Sys2Proof.Machine

section
variable {s t u : State} {l j : Nat} {e : EnrolledLink}

/-! ## Operations that write entries of the directory alone -/

/-- From `s` to `t` only entries of the directory are written. -/
def EntriesOnly (s t : State) : Prop := t = { s with dir := { s.dir with entries := t.dir.entries } }

theorem EntriesOnly.trans (h : EntriesOnly s t) (h' : EntriesOnly t u) : EntriesOnly s u := by
  rw [EntriesOnly] at *
  rw [h', h]

theorem entriesOnly_updateLink (f : EnrolledLink → EnrolledLink) : EntriesOnly s (updateLink l f s) := by
  unfold updateLink
  split <;> rfl

/-! ## A good report -/

theorem raise_ite (p : Prop) [Decidable p] (c : Cause) (s : State) : (if p then raise c s else s) =
    { s with ctl.causes := if p then s.ctl.causes ||| causeOnly c else s.ctl.causes } := by
  split <;> rfl

theorem setCuePending_ite (p : Prop) [Decidable p] (l : Nat) (s : State) : (if p then setCuePending l s else s) =
    { s with ret.cuePending := if p then setAdd l s.ret.cuePending else s.ret.cuePending } := by
  split <;> rfl

/-- R84, R85, R127: what the entry into LIVE writes. -/
theorem setPresence_live_frame (he : entry s l = .enrolled e) : setPresence l .live s = { s with
    dir := { s.dir with entries := (setPresence l .live s).dir.entries }
    ret := { s.ret with cuePending :=
      if e.presence ≠ .live ∧ isCamera s l = true then setAdd l s.ret.cuePending else s.ret.cuePending }
    ctl := { s.ctl with
      causes := if e.presence = .lost then s.ctl.causes ||| causeOnly .presence else s.ctl.causes
      changed := if e.presence = .live then s.ctl.changed else setAdd l s.ctl.changed } } := by
  unfold setPresence
  rw [enrolledLink_eq_some.2 he]
  dsimp only
  by_cases hlive : e.presence = .live
  · simp [hlive]
  · have hv : EntriesOnly s (updateLink l (fun e => { e with presence := .live }) s) := entriesOnly_updateLink _
    have hcam : isCamera (updateLink l (fun e => { e with presence := .live }) s) l = isCamera s l :=
      congrArg Option.isSome (cameraOutput_updateLink fun _ => rfl)
    generalize updateLink l (fun e => { e with presence := .live }) s = v at hv hcam ⊢
    have hmarked (causes : BitVec 11) : isCamera { markChanged l v with ctl.causes := causes } l = isCamera s l := hcam
    rw [EntriesOnly] at hv
    rw [if_neg hlive, raise_ite, setCuePending_ite, hmarked, hv]
    simp [hlive, markChanged]

/-- The entry that a good report leaves (R87). -/
def goodEntry (receiver margin : Nat) (now : Clock) (e : EnrolledLink) : EnrolledLink :=
  { e with lastHeard := some now, bestReceiver := some receiver, lastMargin := some margin, lastGood := some now,
           delayTimer := none, presence := .live }

theorem entry_setPresence_self (p : Presence) (he : entry s l = .enrolled e) :
    entry (setPresence l p s) l = .enrolled { e with presence := p } := by
  unfold setPresence
  rw [enrolledLink_eq_some.2 he]
  dsimp only
  split
  · next h => rw [he, ← h]
  · refine Eq.trans ?_ (entry_updateLink_self (fun e => { e with presence := p }) he)
    rw [raise_ite, setCuePending_ite]
    rfl

theorem entry_setPresence_ne (p : Presence) (hj : j ≠ l) : entry (setPresence l p s) j = entry s j := by
  unfold setPresence
  split
  · rfl
  · split
    · rfl
    · refine Eq.trans ?_ (entry_updateLink_ne (fun e => { e with presence := p }) hj)
      dsimp only
      rw [raise_ite, setCuePending_ite]
      rfl

section
variable {receiver margin : Nat}

theorem entriesOnly_stopDelay_noteReport : EntriesOnly s (stopDelay l
    (updateLink l (fun e => { e with lastGood := some s.clock }) (noteReport l receiver margin s))) :=
  ((entriesOnly_updateLink _).trans (entriesOnly_updateLink _)).trans (entriesOnly_updateLink _)

/-- A good report writes the entry, and then the link enters LIVE. -/
theorem goodReport_eq (he : entry s l = .enrolled e) : ∃ v, EntriesOnly s v ∧
    goodReport l receiver margin s = setPresence l .live v ∧
    entry v l = .enrolled { goodEntry receiver margin s.clock e with presence := e.presence } ∧
    ∀ j ≠ l, entry v j = entry s j := by
  refine ⟨_, entriesOnly_stopDelay_noteReport (l := l) (receiver := receiver) (margin := margin), rfl, ?_,
    fun j hj => ?_⟩
  · exact entry_updateLink_self _ (entry_updateLink_self _ (entry_updateLink_self _ he))
  · exact (entry_updateLink_ne _ hj).trans ((entry_updateLink_ne _ hj).trans (entry_updateLink_ne _ hj))

theorem goodReport_frame (he : entry s l = .enrolled e) : goodReport l receiver margin s = { s with
    dir := { s.dir with entries := (goodReport l receiver margin s).dir.entries }
    ret := { s.ret with cuePending :=
      if e.presence ≠ .live ∧ isCamera s l = true then setAdd l s.ret.cuePending else s.ret.cuePending }
    ctl := { s.ctl with
      causes := if e.presence = .lost then s.ctl.causes ||| causeOnly .presence else s.ctl.causes
      changed := if e.presence = .live then s.ctl.changed else setAdd l s.ctl.changed } } := by
  obtain ⟨v, hv, heq, hl, -⟩ := goodReport_eq (receiver := receiver) (margin := margin) he
  have hcam : isCamera v l = isCamera s l := by rw [isCamera_enrolled hl, isCamera_enrolled he]; rfl
  rw [EntriesOnly] at hv
  rw [heq, setPresence_live_frame hl, hcam, hv]

theorem entry_goodReport_self (he : entry s l = .enrolled e) :
    entry (goodReport l receiver margin s) l = .enrolled (goodEntry receiver margin s.clock e) := by
  obtain ⟨v, -, heq, hl, -⟩ := goodReport_eq (receiver := receiver) (margin := margin) he
  rw [heq, entry_setPresence_self _ hl, goodEntry]

theorem entry_goodReport_ne (he : entry s l = .enrolled e) (hj : j ≠ l) :
    entry (goodReport l receiver margin s) j = entry s j := by
  obtain ⟨v, -, heq, -, hne⟩ := goodReport_eq (receiver := receiver) (margin := margin) he
  rw [heq, entry_setPresence_ne _ hj, hne j hj]

end

/-! ## The completion -/

section
variable {r : RetuneRecord} {n : Nat} {c d : Carrier}

theorem markStale_setRecord_markStale (i : Nat) (x : PlanRecord) (s : State) :
    markStale (setRecord i x (markStale s)) = markStale (setRecord i x s) := by
  simp only [markStale, setRecord, Option.map_map]
  rfl

theorem completeRetune_eq (he : entry s l = .enrolled e) (hc : planRecord s e.carrier = .active c l)
    (hd : planRecord s n = .handover d l) : completeRetune r n l s =
      endRetune .done l (removeTunePending l (updateLink l (fun e => { e with carrier := n })
        (markStale (setRecord e.carrier (if r.keepOld then .reserved c else .empty)
          (setRecord n (.active d l) s))))) := by
  have hne : n ≠ e.carrier := by rintro rfl; rw [hc] at hd; cases hd
  have hold : planRecord (promoteRecord n s) e.carrier = .active c l := by
    simp [promoteRecord_handover hd, planRecord_setRecord, hne, hc]
  unfold completeRetune
  rw [he]
  dsimp only
  rw [releaseOldRecord_active _ hold, promoteRecord_handover hd, markStale_setRecord_markStale]

/-- R13, R111: what the completion writes. -/
theorem completeRetune_frame (he : entry s l = .enrolled e) (hc : planRecord s e.carrier = .active c l)
    (hd : planRecord s n = .handover d l) : completeRetune r n l s = { s with
      plan := (completeRetune r n l s).plan
      engine := (markStale s).engine
      dir := { s.dir with entries := (completeRetune r n l s).dir.entries }
      retune := { s.retune with
        seekOrder := setRemove l s.retune.seekOrder, waitList := setRemove l s.retune.waitList }
      ret := { s.ret with tunePending := setRemove l s.ret.tunePending }
      ctl := { s.ctl with causes := s.ctl.causes ||| causeOnly .retuneEnd, changed := setAdd l s.ctl.changed } } := by
  rw [completeRetune_eq he hc hd]
  generalize hv : markStale (setRecord e.carrier (if r.keepOld then .reserved c else .empty)
    (setRecord n (.active d l) s)) = v
  have hu : EntriesOnly v (updateLink l (fun e => { e with carrier := n }) v) := entriesOnly_updateLink _
  generalize updateLink l (fun e => { e with carrier := n }) v = u at hu ⊢
  have hx : EntriesOnly (removeTunePending l u)
      (updateLink l (fun e => { e with phase := .none, lastResult := .done }) (removeTunePending l u)) :=
    entriesOnly_updateLink _
  rw [endRetune_eq]
  generalize updateLink l (fun e => { e with phase := .none, lastResult := .done }) (removeTunePending l u) = x at hx ⊢
  rw [EntriesOnly] at hu hx
  rw [hx, hu, ← hv]
  rfl

theorem entry_completeRetune_self (he : entry s l = .enrolled e) (hc : planRecord s e.carrier = .active c l)
    (hd : planRecord s n = .handover d l) : entry (completeRetune r n l s) l
      = .enrolled { e with carrier := n, phase := .none, lastResult := .done } := by
  rw [completeRetune_eq he hc hd]
  refine entry_endRetune_self _ (e := { e with carrier := n }) ?_
  rw [entry_removeTunePending]
  exact entry_updateLink_self (fun e => { e with carrier := n }) he

theorem entry_completeRetune_ne (he : entry s l = .enrolled e) (hc : planRecord s e.carrier = .active c l)
    (hd : planRecord s n = .handover d l) (hj : j ≠ l) : entry (completeRetune r n l s) j = entry s j := by
  rw [completeRetune_eq he hc hd]
  rw [entry_endRetune_ne _ hj, entry_removeTunePending]
  exact entry_updateLink_ne (fun e => { e with carrier := n }) hj

end

/-! ## The echo comparison -/

/-- What the comparison may do to the link: its role keeps kind and output, a CUE may be set pending and TALLY_FAULT
raised, and nothing else is written (R130). -/
structure EchoCompared (l : Nat) (e : EnrolledLink) (s t : State) : Prop where
  plan : t.plan = s.plan
  engine : t.engine = s.engine
  survey : t.survey = s.survey
  retune : t.retune = s.retune
  tally : t.tally = s.tally
  talk : t.talk = s.talk
  changed : t.ctl.changed = s.ctl.changed
  dir : t.dir = { s.dir with entries := t.dir.entries }
  ret : t.ret = { s.ret with cuePending := t.ret.cuePending }
  own : ∃ role, entry t l = .enrolled { e with role := role } ∧ roleKind role = roleKind e.role ∧
    roleOutput role = roleOutput e.role
  others : ∀ j ≠ l, entry t j = entry s j
  cue : t.ret.cuePending = s.ret.cuePending ∨ t.ret.cuePending = setAdd l s.ret.cuePending
  causes : t.ctl.causes = s.ctl.causes ∨ t.ctl.causes = s.ctl.causes ||| causeOnly .tallyFault

theorem echoCompared_refl (he : entry s l = .enrolled e) : EchoCompared l e s s :=
  ⟨rfl, rfl, rfl, rfl, rfl, rfl, rfl, rfl, rfl, ⟨e.role, he, rfl, rfl⟩, fun _ _ => rfl, .inl rfl, .inl rfl⟩

theorem echoCompared_setMismatch (n : Nat) (he : entry s l = .enrolled e) : EchoCompared l e s (setMismatch l n s) := by
  have hframe : EntriesOnly s (setMismatch l n s) := entriesOnly_updateLink _
  rw [EntriesOnly] at hframe
  constructor
  case own =>
    refine ⟨_, entry_updateLink_self _ he, ?_⟩
    cases e.role <;> exact ⟨rfl, rfl⟩
  case others => exact fun j hj => entry_updateLink_ne _ hj
  case cue => rw [hframe]; exact .inl rfl
  case causes => rw [hframe]; exact .inl rfl
  all_goals rw [hframe]

theorem EchoCompared.setCuePending (h : EchoCompared l e s t) (hcue : t.ret.cuePending = s.ret.cuePending) :
    EchoCompared l e s (setCuePending l t) :=
  { h with
    ret := by rw [Machine.setCuePending, h.ret]
    cue := .inr (congrArg (setAdd l) hcue) }

theorem EchoCompared.raise (h : EchoCompared l e s t) (hcauses : t.ctl.causes = s.ctl.causes) :
    EchoCompared l e s (raise .tallyFault t) :=
  { h with causes := .inr (congrArg (· ||| causeOnly .tallyFault) hcauses) }

theorem compareEcho_none : compareEcho l none s = s := by
  unfold compareEcho
  split
  · next h => cases h
  · rfl

theorem echoCompared_compareEcho (echo : Option Cue) (he : entry s l = .enrolled e) :
    EchoCompared l e s (compareEcho l echo s) := by
  have hcue (n : Nat) : (setMismatch l n s).ret.cuePending = s.ret.cuePending := by rw [setMismatch, updateLink_frame]
  have hctl (n : Nat) : (setMismatch l n s).ctl = s.ctl := by rw [setMismatch, updateLink_frame]
  unfold compareEcho
  split
  · split
    · exact echoCompared_refl he
    · next count _ =>
      split
      · exact echoCompared_setMismatch 0 he
      · split
        · exact echoCompared_refl he
        · have h := (echoCompared_setMismatch (min Config.countStop (count + 1)) he).setCuePending (hcue _)
          dsimp only
          split
          · exact h.raise (congrArg Control.causes (hctl _))
          · exact h
  · exact echoCompared_refl he

/-! ## A report on the new carrier -/

theorem probe_distinct {x : Nat} (hs : IdentsDistinct s) (h : entryIdent (entry s l) = some x) :
    probe s x = some l := by
  cases hp : probe s x with
  | none => exact absurd h ((probe_none _).1 hp l)
  | some i => rw [hs i l x (probe_some _ hp) h]

theorem cameraOutput_enrolled (h : entry s l = .enrolled e) : cameraOutput s l = roleOutput e.role := by
  rw [cameraOutput, h]
  cases hr : e.role <;> simp [roleOutput, hr]

theorem isSet_or (c d : Cause) (x : BitVec 11) :
    (x ||| causeOnly d).getLsbD (causeBit c) = (x.getLsbD (causeBit c) || c == d) :=
  causeIsSet_raise c d { State.reset with ctl.causes := x }

/-- What HEARD does with a good report on the new carrier (R65, R111). -/
theorem exec_heard_completes {r : HeardReport} {n : Nat} {rec_ : RetuneRecord} (hm : r.malformed = false)
    (hs : IdentsDistinct s) (he : entry s l = .enrolled e) (hid : e.ident = r.ident) (hp : e.phase = .ordered rec_ n)
    (hlies : liesOn r.freq (planRecord s n) = true) (hgood : e.settings.floor ≤ min 63 r.margin) :
    exec (.heard r) s = .next (moveRover (compareEcho l (reportEcho r) (completeRetune rec_ n l
      (goodReport l r.receiver (min 63 r.margin) (completeMessage .receiver s))))) := by
  have hprobe : probe (completeMessage .receiver s) r.ident = some l := by
    have h := probe_distinct hs (show entryIdent (entry s l) = some r.ident by rw [he, ← hid]; rfl)
    rw [← h]
    simp only [probe, entry_completeMessage]
  have heu : entry (completeMessage .receiver s) l = .enrolled e := (entry_completeMessage ..).trans he
  have hwhere : whereLies (completeMessage .receiver s) e r.freq = .onNewCarrier rec_ n := by
    simp only [whereLies, hp, planRecord_completeMessage, hlies, if_true]
  have hreport : handleReport r (completeMessage .receiver s)
      = compareEcho l (reportEcho r) (completeRetune rec_ n l
        (goodReport l r.receiver (min 63 r.margin) (completeMessage .receiver s))) := by
    simp only [handleReport, hprobe, heu, reportEnrolled, hwhere, applyPresence, completes, clampMargin, hgood, if_true,
      decide_true]
  rw [← hreport]
  refine congrArg Host.Outcome.next (if_neg ?_)
  rw [contentMalformed, hm]
  exact Bool.false_ne_true

end
end Sys2Proof.Machine
end

section
namespace Sys2Proof.Proofs
open Sys2Proof.Machine

/-- Settles O27: HEARD applies the report to presence (`w`), completes the retune (`x`), compares the echo (`y`) and
moves the rover; each step's writes are one equation. -/
theorem retuneCompletes : Obligations.RetuneCompletes := by
  unfold Obligations.RetuneCompletes
  intro r l n e rec_ c d s hm hs he hid hp hc hd hlies hgood
  have hexec := exec_heard_completes hm hs he hid hp hlies hgood
  have heu : entry (completeMessage .receiver s) l = .enrolled e := (entry_completeMessage ..).trans he
  have hcamera : isCamera (completeMessage .receiver s) l = isCamera s l := by
    rw [isCamera_enrolled heu, isCamera_enrolled he]
  obtain ⟨w, hw⟩ : ∃ w, w = goodReport l r.receiver (min 63 r.margin) (completeMessage .receiver s) := ⟨_, rfl⟩
  have hwl : entry w l = .enrolled (goodEntry r.receiver (min 63 r.margin) s.clock e) := by
    rw [hw, entry_goodReport_self heu, completeMessage_clock]
  have hwj (j : Nat) (hj : j ≠ l) : entry w j = entry s j := by
    rw [hw, entry_goodReport_ne heu hj, entry_completeMessage]
  have hwframe := goodReport_frame (receiver := r.receiver) (margin := min 63 r.margin) heu
  rw [← hw, hcamera] at hwframe
  have hwplan : w.plan = s.plan := by rw [hwframe]; exact completeMessage_plan _ _
  have hwrecord (j : Nat) : planRecord w j = planRecord s j := by rw [planRecord, hwplan]; rfl
  have hwc : planRecord w e.carrier = .active c l := (hwrecord _).trans hc
  have hwd : planRecord w n = .handover d l := (hwrecord _).trans hd
  obtain ⟨x, hx⟩ : ∃ x, x = completeRetune rec_ n l w := ⟨_, rfl⟩
  have hxl : entry x l = .enrolled { goodEntry r.receiver (min 63 r.margin) s.clock e with
      carrier := n, phase := .none, lastResult := .done } := by rw [hx]; exact entry_completeRetune_self hwl hwc hwd
  have hxj (j : Nat) (hj : j ≠ l) : entry x j = entry s j := by
    rw [hx, entry_completeRetune_ne hwl hwc hwd hj, hwj j hj]
  have hxplan := completeRetune_plan (r := rec_) hwl hwc hwd
  have hxframe := completeRetune_frame (r := rec_) hwl hwc hwd
  rw [← hx] at hxplan hxframe
  have hy := echoCompared_compareEcho (reportEcho r) hxl
  rw [← hw, ← hx] at hexec
  have hnone : reportEcho r = none → compareEcho l (reportEcho r) x = x := fun h => by rw [h, compareEcho_none]
  generalize compareEcho l (reportEcho r) x = y at hexec hy hnone
  obtain ⟨role, hyl, hkind, houtput⟩ := hy.own
  have hxcue : x.ret.cuePending = if e.presence ≠ .live ∧ isCamera s l = true then setAdd l s.ret.cuePending
      else s.ret.cuePending := by
    rw [hxframe, hwframe]
    simp only [completeMessage_ret]
  have hne : n ≠ e.carrier := by rintro rfl; rw [hc] at hd; cases hd
  have hyrecord (j : Nat) : planRecord (moveRover y) j = planRecord x j :=
    congrArg (fun p : Plan => look p.records j) hy.plan
  have hcause (k : Cause) (hk : k ≠ .tallyFault) : causeIsSet k y =
      (causeIsSet k s || (k == .presence && e.presence == .lost) || k == .retuneEnd) := by
    have hyx : causeIsSet k y = causeIsSet k x := by
      obtain h | h := hy.causes
      · rw [causeIsSet, h]; rfl
      · rw [causeIsSet, h, isSet_or, beq_eq_false_iff_ne.2 hk, Bool.or_false]; rfl
    rw [hyx, causeIsSet, hxframe]
    dsimp only
    rw [isSet_or, hwframe]
    dsimp only
    split
    · next h => rw [isSet_or, completeMessage_ctl, h, causeIsSet]; simp
    · next h => rw [completeMessage_ctl, causeIsSet, beq_eq_false_iff_ne.2 h, Bool.and_false, Bool.or_false]
  refine ⟨moveRover y, _, hexec, hyl, rfl, rfl, rfl, rfl, rfl, rfl, rfl, rfl, rfl, rfl, rfl, rfl, hkind, ?output,
    ?newRecord, ?oldRecord, ?records, fun j hj => (hy.others j hj).trans (hxj j hj), ?ret, ?cueSet, ?cueExact,
    ?cueOthers, ?retuneEnd, ?presence, ?causes, ?retune, ?changed, ?engine, ?dir, ?talk, ?survey, ?tally⟩
  case output => exact (cameraOutput_enrolled hyl).trans (houtput.trans (cameraOutput_enrolled he).symm)
  case newRecord =>
    refine (hyrecord n).trans ?_
    rw [hxplan, goodEntry, Function.update_of_ne hne, Function.update_self]
  case oldRecord => rw [hyrecord, hxplan]; exact Function.update_self ..
  case records =>
    intro j hj hje
    rw [hyrecord, hxplan, goodEntry, Function.update_of_ne hje, Function.update_of_ne hj, hwrecord]
  case ret =>
    refine hy.ret.trans ?_
    rw [hxframe, hwframe]
    simp only [completeMessage_ret]
    rfl
  case cueSet =>
    intro hlive hcam
    rw [if_pos ⟨hlive, hcam⟩] at hxcue
    obtain h | h := hy.cue
    · exact (h.trans hxcue) ▸ (mem_setAdd ..).2 (.inl rfl)
    · exact h ▸ (mem_setAdd ..).2 (.inl rfl)
  case cueExact => exact fun h => (congrArg (fun u => u.ret.cuePending) (hnone h)).trans hxcue
  case cueOthers =>
    intro j hj
    have hjx : j ∈ x.ret.cuePending ↔ j ∈ s.ret.cuePending := by
      rw [hxcue]
      split <;> simp [hj]
    refine Iff.trans ?_ hjx
    obtain h | h := hy.cue
    · exact iff_of_eq (congrArg (j ∈ ·) h)
    · refine (iff_of_eq (congrArg (j ∈ ·) h)).trans ?_
      simp [hj]
  case retuneEnd => exact (hcause .retuneEnd nofun).trans (by simp)
  case presence => exact (hcause .presence nofun).trans (by simp)
  case causes =>
    intro k hk hk' hk''
    rw [show causeIsSet k (moveRover y) = causeIsSet k y from rfl, hcause k hk'', beq_eq_false_iff_ne.2 hk,
      beq_eq_false_iff_ne.2 hk', Bool.false_and, Bool.or_false, Bool.or_false]
  case retune =>
    intro hseek hwait
    refine hy.retune.trans ?_
    rw [hxframe, hwframe]
    simp only [completeMessage_retune, setRemove_of_not_mem hseek, setRemove_of_not_mem hwait]
  case changed =>
    refine hy.changed.trans ?_
    rw [hxframe, hwframe]
    simp only [completeMessage_ctl]
    split <;> simp
  case engine =>
    refine hy.engine.trans ?_
    rw [hxframe, hwframe]
    simp
  case dir =>
    refine (congrArg (fun d : Directory => { d with
      rover := if d.rover = d.pinBound then 63 else d.rover - 1 }) hy.dir).trans ?_
    rw [hxframe, hwframe]
    simp only [completeMessage_dir, moveRover]
  case talk => exact hy.talk.trans (by rw [hxframe, hwframe]; simp)
  case survey => exact hy.survey.trans (by rw [hxframe, hwframe]; simp)
  case tally => exact hy.tally.trans (by rw [hxframe, hwframe]; simp)

end Sys2Proof.Proofs
end

section
/-! SUPPORT. The part of a state that the laws of the engine's requests, of the seek wait list and of the return
scheduler speak of (R23, R26, R99, R105, R161), and the commands that leave it alone. -/

namespace Sys2Proof.Machine

/-- The link entries, the engine's requests without the progress of the running one, the order of the seeking links and
the return scheduler. -/
structure Core where
  entries : Vector LinkEntry 64
  queue : List EngineRequest
  running : Option EngineRequest
  slots : Vector Slot 4
  waitList : List Nat
  seekOrder : List Nat
  ret : ReturnScheduler

def core (s : State) : Core :=
  ⟨s.dir.entries, s.engine.queue, s.engine.running.map Running.request, s.engine.slots, s.retune.waitList,
   s.retune.seekOrder, s.ret⟩

section
variable {s t : State}

theorem core_congr (hd : t.dir.entries = s.dir.entries) (he : t.engine = s.engine) (hr : t.retune = s.retune)
    (hs : t.ret = s.ret) : core t = core s := by
  simp only [core, hd, he, hr, hs]

theorem entry_of_core (h : core t = core s) : entry t = entry s := by
  funext l
  rw [entry, entry, show t.dir.entries = s.dir.entries from congrArg Core.entries h]

theorem ret_of_core (h : core t = core s) : t.ret = s.ret := congrArg Core.ret h

end

/-! ## Operations of every block -/

variable (s : State)

@[simp] theorem core_raise (c : Cause) : core (raise c s) = core s := rfl
@[simp] theorem core_markChanged (l : Nat) : core (markChanged l s) = core s := rfl
@[simp] theorem core_directoryFullFault : core (directoryFullFault s) = core s := rfl
@[simp] theorem core_setRecord (i : Nat) (r : PlanRecord) : core (setRecord i r s) = core s := rfl
@[simp] theorem core_setKey (k : Nat) (v : Key) : core (setKey k v s) = core s := rfl
@[simp] theorem core_setArbiter (l : Nat) (v : Arbiter) : core (setArbiter l v s) = core s := rfl
@[simp] theorem core_placeOrder (o : Nat) (i : MatrixInput) : core (placeOrder o i s) = core s := rfl
@[simp] theorem core_darken (l : Nat) : core (darken l s) = core s := rfl
@[simp] theorem core_discardPartial : core (discardPartial s) = core s := rfl
@[simp] theorem core_framingFault (line : SerialLine) : core (framingFault line s) = core s := rfl
@[simp] theorem core_parityFault (line : SerialLine) : core (parityFault line s) = core s := rfl
@[simp] theorem core_capture (k : CaptureKind) (r : HeardReport) : core (capture k r s) = core s := rfl
@[simp] theorem core_moveRover : core (moveRover s) = core s := rfl
@[simp] theorem core_setJob (j : Nat) (v : SurveyJob) : core (setJob j v s) = core s := rfl

@[simp] theorem core_markStale : core (markStale s) = core s := by
  simp only [core, markStale, Option.map_map]
  rfl

@[simp] theorem core_completeFrame (p : Port) : core (completeFrame p s) = core s := by cases p <;> rfl

@[simp] theorem core_respond (p : Port) (r : Response) : core (respond p r s) = core s := by
  apply core_congr <;> simp

@[simp] theorem core_setPortPartial (line : InPort) (v : Option Partial) :
    core (setPortPartial line v s) = core s := by cases line <;> rfl

@[simp] theorem core_completeMessage (line : InPort) : core (completeMessage line s) = core s :=
  core_setPortPartial s line none

@[simp] theorem core_discardMalformed (line : InPort) : core (discardMalformed line s) = core s :=
  core_completeMessage s line

/-- A run of operations that each keep the core keeps it. -/
theorem core_foldl {α : Type} {f : State → α → State} (hf : ∀ s a, core (f s a) = core s) (as : List α) :
    core (as.foldl f s) = core s := by
  induction as generalizing s with
  | nil => rfl
  | cons a as ih => rw [List.foldl_cons, ih, hf]

/-! ## Feeds, plan records and the survey -/

@[simp] theorem core_orderFeed (l : Nat) : core (orderFeed l s) = core s := by
  unfold orderFeed; split <;> rfl

@[simp] theorem core_requestFeed (k l : Nat) : core (requestFeed k l s) = core s := by
  unfold requestFeed
  dsimp only
  split
  · rfl
  · split
    · simp
    · split <;> simp

@[simp] theorem core_withdrawFeed (k l : Nat) : core (withdrawFeed k l s) = core s := by
  unfold withdrawFeed
  dsimp only
  split_ifs <;> simp

@[simp] theorem core_refreshStatuses : core (refreshStatuses s) = core s := by
  refine core_foldl s (fun s k => ?_) _
  unfold refreshStatus; dsimp only; split <;> rfl

@[simp] theorem core_becomeDestination (l : Nat) : core (becomeDestination l s) = core s := by
  unfold becomeDestination
  split <;> simp [seedArbiter, core_foldl]

@[simp] theorem core_statusesAfter (camera : Bool) : core (statusesAfter camera s) = core s := by
  cases camera <;> simp [statusesAfter]

@[simp] theorem core_leaveDestination (l : Nat) (o : Option Nat) : core (leaveDestination l o s) = core s := by
  cases o <;> simp [leaveDestination, clearArbiter]

@[simp] theorem core_closeRecord (i : Nat) : core (closeRecord i s) = core s := by
  unfold closeRecord; split <;> simp

@[simp] theorem core_releaseRecord (i : Nat) : core (releaseRecord i s) = core s := by
  unfold releaseRecord; split <;> simp

@[simp] theorem core_promoteRecord (i : Nat) : core (promoteRecord i s) = core s := by
  unfold promoteRecord; split <;> simp

@[simp] theorem core_releaseOldRecord (i : Nat) (keep : Bool) : core (releaseOldRecord i keep s) = core s := by
  unfold releaseOldRecord; split <;> simp

@[simp] theorem core_takeSample (r : Nat) (x : Int) : core (takeSample r x s) = core s := by
  unfold takeSample
  split
  · rfl
  · split
    · unfold fileSample
      dsimp only
      split_ifs <;> rfl
    · rfl

@[simp] theorem core_startKeyStatus : core (startKeyStatus s) = core s := by
  unfold startKeyStatus; split <;> rfl

@[simp] theorem core_startOrder : core (startOrder s) = core s := by
  unfold startOrder
  split
  · split <;> rfl
  · rfl

@[simp] theorem core_takeOrderAck (o : Nat) (i : MatrixInput) : core (takeOrderAck o i s) = core s := by
  unfold takeOrderAck
  split
  · split <;> rfl
  · rfl

/-! ## Requests -/

/-- A request keeps the core that its rule keeps. -/
theorem core_takeRequest {p : Port} {c : RequestCode} {rule : State → Verdict}
    (h : ∀ u, core ((rule u).after u) = core u) : core (takeRequest p c rule s) = core s := by
  obtain ⟨r, ht | ht⟩ := takeRequest_after s p c rule
  · rw [ht, core_respond, h, core_completeFrame]
  · rw [ht, core_respond, core_completeFrame]

/-- A request whose rule leaves the state as it was. -/
theorem core_takeRequest_read {p : Port} {c : RequestCode} {rule : State → Verdict}
    (h : ∀ u, (rule u).after u = u) : core (takeRequest p c rule s) = core s :=
  core_takeRequest s fun u => by rw [h u]

theorem core_groupSetRule (g lo up gs gp two three st lim : Nat) :
    core ((groupSetRule g lo up gs gp two three st lim s).after s) = core s := by
  unfold groupSetRule
  split
  · rfl
  · split
    · dsimp only
      split
      · rfl
      · exact core_markStale _
    · rfl

theorem core_planPutRule (i st c h g : Nat) : core ((planPutRule i st c h g s).after s) = core s := by
  unfold planPutRule
  split
  · rfl
  · split
    · rfl
    · dsimp only
      split_ifs <;> simp

theorem core_planDropRule (i : Nat) : core ((planDropRule i s).after s) = core s := by
  unfold planDropRule
  split
  · rfl
  · split <;> simp

theorem core_surveySetupRule (a w : Nat) (x : Int) : core ((surveySetupRule a w x s).after s) = core s := by
  unfold surveySetupRule
  split <;> rfl

theorem core_surveyStartRule (j r b n m : Nat) (x : Int) :
    core ((surveyStartRule j r b n m x s).after s) = core s := by
  unfold surveyStartRule
  split
  · rfl
  · split
    · rfl
    · split_ifs <;> rfl

theorem core_surveyStopRule (j : Nat) : core ((surveyStopRule j s).after s) = core s := by
  unfold surveyStopRule
  split
  · rfl
  · split <;> rfl

theorem core_binsClearRule (a b : Nat) : core ((binsClearRule a b s).after s) = core s := by
  unfold binsClearRule
  split
  · rfl
  · rw [after_accept]
    unfold core
    dsimp only

theorem core_directoryPinRule (b : Nat) : core ((directoryPinRule b s).after s) = core s := by
  unfold directoryPinRule
  split <;> rfl

theorem core_directoryAdmitRule (x : Nat) : core ((directoryAdmitRule x s).after s) = core s := by
  unfold directoryAdmitRule
  split <;> rfl

theorem core_lampSetRule (n l c d v : Nat) : core ((lampSetRule n l c d v s).after s) = core s := by
  unfold lampSetRule
  dsimp only
  split
  · rfl
  · split <;> rfl

theorem core_keySetRule (k v m lk src : Nat) (ds : List Nat) :
    core ((keySetRule k v m lk src ds s).after s) = core s := by
  unfold keySetRule
  split
  · rfl
  · split
    · dsimp only
      split <;> rfl
    · rfl

theorem core_feedDefaultRule (l i : Nat) : core ((feedDefaultRule l i s).after s) = core s := by
  unfold feedDefaultRule
  dsimp only
  split
  · rfl
  · rw [after_accept]
    split <;> simp

theorem core_authorityYieldRule (p : Port) : core ((authorityYieldRule p s).after s) = core s := by
  cases p <;> rfl

theorem core_causeClearRule (c : BitVec 16) : core ((causeClearRule c s).after s) = core s := by
  unfold causeClearRule; split <;> rfl

theorem core_causeMaskRule (m : BitVec 16) : core ((causeMaskRule m s).after s) = core s := by
  unfold causeMaskRule; split <;> rfl

/-! ## Every command that leaves the core -/

/-- The commands that may change a link entry, a request of the engine, the seeking links or the return scheduler. -/
def touchesCore : Instr → Bool
  | .hardwareReset | .runRestart _
  | .checkStart _ _ | .findStart _ _ _ _ _ _ _ | .checkRead _ _ | .checkCancel _ _ | .engineStart
  | .candidateEvaluation
  | .linkNote _ _ _ _ | .linkEnroll _ _ _ _ _ _ _ | .linkSet _ _ _ | .linkRetire _ _ | .linkErase _ _ | .heard _
  | .fadeExpiry _ | .lossExpiry _ | .retuneDelayExpiry _ | .linkRetune _ _ _ _ | .linkHalt _ _ | .retuneLimitExpiry _
  | .mixerTallyMessage _ _ | .tallyMap _ _ _ | .tallyOverride _ _ _
  | .keyDown _ | .keyPress _ _ | .keyUp _ | .keyLift _ _
  | .returnPass _ _ _ | .returnSendStart | .doneMessage _ | .returnTimeout => true
  | _ => false

theorem exec_core {c : Instr} {t : State} (hc : touchesCore c = false) (h : exec c s = .next t) :
    core t = core s := by
  cases c <;> cases hc <;> cases h
  case groupSet p g lo up gs gp two three st lim =>
    exact core_takeRequest s (core_groupSetRule · g lo up gs gp two three st lim)
  case groupGet p g => exact core_takeRequest_read s (after_groupGetRule · g)
  case planPut p i st c h g => exact core_takeRequest s (core_planPutRule · i st c h g)
  case planDrop p i => exact core_takeRequest s (core_planDropRule · i)
  case planGet p i => exact core_takeRequest_read s (after_planGetRule · i)
  case planList p g => exact core_takeRequest_read s (after_planListRule · g)
  case surveySetup p a w x => exact core_takeRequest s (core_surveySetupRule · a w x)
  case surveyStart p j r b n m x => exact core_takeRequest s (core_surveyStartRule · j r b n m x)
  case surveyStop p j => exact core_takeRequest s (core_surveyStopRule · j)
  case surveyRead p j => exact core_takeRequest_read s (after_surveyReadRule · j)
  case binsRead p a b => exact core_takeRequest_read s (after_binsReadRule · a b)
  case binsClear p a b => exact core_takeRequest s (core_binsClearRule · a b)
  case sample r x => split <;> simp
  case linkGet p l => exact core_takeRequest_read s (after_linkGetRule · l)
  case linkProbe p x => exact core_takeRequest_read s (after_linkProbeRule · x)
  case linkChanges p => exact core_takeRequest s fun _ => rfl
  case directoryPin p b => exact core_takeRequest s (core_directoryPinRule · b)
  case directoryAdmit p x => exact core_takeRequest s (core_directoryAdmitRule · x)
  case directoryGet p => exact core_takeRequest s fun _ => rfl
  case captureRead p => exact core_takeRequest s fun _ => rfl
  case clockRead p => exact core_takeRequest s fun _ => rfl
  case linkTimers p l => exact core_takeRequest_read s (after_linkTimersRule · l)
  case retuneLimit p x => exact core_takeRequest s fun _ => rfl
  case retuneGet p l => exact core_takeRequest_read s (after_retuneGetRule · l)
  case retuneQueue p => exact core_takeRequest s fun _ => rfl
  case tallySources p a b => exact core_takeRequest_read s (after_tallySourcesRule · a b)
  case tallyGet p l => exact core_takeRequest_read s (after_tallyGetRule · l)
  case lampSet p n l c d v => exact core_takeRequest s (core_lampSetRule · n l c d v)
  case lampGet p n => exact core_takeRequest_read s (after_lampGetRule · n)
  case keySet p k v m lk src ds => exact core_takeRequest s (core_keySetRule · k v m lk src ds)
  case keyGet p k => exact core_takeRequest_read s (after_keyGetRule · k)
  case feedDefault p l i => exact core_takeRequest s (core_feedDefaultRule · l i)
  case feedGet p l => exact core_takeRequest_read s (after_feedGetRule · l)
  case matrixGet p o => exact core_takeRequest_read s (after_matrixGetRule · o)
  case keyStatusSendStart => exact core_startKeyStatus s
  case keyStatusSendEnd => rfl
  case orderSendStart => exact core_startOrder s
  case orderAck o i => split <;> simp
  case orderTimeout =>
    split
    · split <;> rfl
    · rfl
  case returnGet p => exact core_takeRequest s fun _ => rfl
  case authorityYield p => exact core_takeRequest s (core_authorityYieldRule · p)
  case causeRead p => exact core_takeRequest s fun _ => rfl
  case causeClear p c => exact core_takeRequest s (core_causeClearRule · c)
  case causeMask p m => exact core_takeRequest s (core_causeMaskRule · m)
  case portFaults p => exact core_takeRequest s fun _ => rfl
  case badFrame p b => split <;> simp [answerBadFrame]
  case readTransaction n => rfl
  case lineBreak => unfold takeAuthority; split <;> rfl
  case serviceCharacterError e => cases e <;> rfl
  case serviceGapExpiry =>
    split
    · split <;> rfl
    · rfl
  case serviceResponseEnd => split <;> rfl
  case portByteError line e =>
    cases e with
    | parity => simp
    | noStop => simp
    | unknownType => dsimp only; split <;> simp
  case inputGapExpiry line =>
    split
    · split <;> simp
    · rfl
  case malformedMessage line b => split <;> simp

/-! ## Steps without a command -/

theorem core_gather (a : Arrival) : core (gather a s) = core s := by
  unfold gather
  split
  · unfold gatherService
    dsimp only
    split <;> rfl
  · unfold gatherPort
    dsimp only
    split
    · rfl
    · split
      · exact core_setPortPartial ..
      · exact core_completeMessage ..
  · unfold takeTransaction
    split <;> rfl

theorem core_idle : core (idle s) = core s := by
  unfold idle
  split
  · next a rest _ => exact core_gather { s with arriving := rest } a
  · rfl

end Sys2Proof.Machine
end

section
/-! SUPPORT. The searches of the engine, the links in SEEKING and the seek wait list by themselves: the laws of R26, R99
and R105, and what the moves of one link make of them. -/

namespace Sys2Proof.Machine

/-- The searches in the engine with their links, the running one first; each link's search place while it is in SEEKING;
the seek wait list; and the seeking order. -/
structure Searching where
  searches : List (Nat × Job)
  places : Nat → Option SearchPlace
  waitList : List Nat
  seekOrder : List Nat

namespace Searching

/-- The links whose searches are in the engine, in the engine's order. -/
def links (x : Searching) : List Nat := x.searches.map Prod.fst

/-- Every internal request is a search, and every seeking link's search is in the engine or on the wait list, as its
search place says (R26, R99, R104). -/
structure Placed (x : Searching) : Prop where
  finds : ∀ p ∈ x.searches, ∃ q, p.2 = .find q
  linksOnce : x.links.Nodup
  waitOnce : x.waitList.Nodup
  inEngine : ∀ l, l ∈ x.links ↔ x.places l = some .inEngine
  waiting : ∀ l, l ∈ x.waitList ↔ x.places l = some .waiting

/-- The searches are placed, at most two in the engine, and none waits while there is room (R26, R105). -/
structure Law (x : Searching) : Prop extends Placed x where
  within : x.links.length ≤ 2
  served : x.links.length < 2 → x.waitList = []

/-- The searches are placed, and one service of the wait list makes the law hold again (R105). -/
structure Due (x : Searching) : Prop extends Placed x where
  within : x.links.length ≤ 2
  one : x.links = [] → x.waitList.length ≤ 1

/-- The seeking order holds the seeking links once each, and the wait list stands in that order (R99, R105). -/
structure InOrder (x : Searching) : Prop where
  once : x.seekOrder.Nodup
  seeking : ∀ l, l ∈ x.seekOrder ↔ (x.places l).isSome
  sorted : x.waitList.Pairwise fun a b => x.seekOrder.idxOf a < x.seekOrder.idxOf b

/-! ## The moves of a link -/

/-- The link's search is queued in the engine. -/
def enqueue (l : Nat) (q : Search) (x : Searching) : Searching :=
  { x with searches := x.searches ++ [(l, .find q)], places := Function.update x.places l (some .inEngine) }

/-- The link joins the wait list at the place of its seeking order. -/
def join (l : Nat) (x : Searching) : Searching :=
  let before (m : Nat) : Bool := x.seekOrder.idxOf m < x.seekOrder.idxOf l
  { x with
    waitList := x.waitList.takeWhile before ++ l :: x.waitList.dropWhile before
    places := Function.update x.places l (some .waiting) }

/-- The link leaves SEEKING. -/
def leave (l : Nat) (x : Searching) : Searching :=
  { x with
    places := Function.update x.places l none
    waitList := setRemove l x.waitList
    seekOrder := setRemove l x.seekOrder }

/-- From `x` to `y` the link's search, if the engine holds it, has left the engine. -/
structure Gone (l : Nat) (x y : Searching) : Prop where
  frame : y = { x with searches := y.searches }
  sublist : y.searches.Sublist x.searches
  links : y.links = x.links.erase l

/-- From `x` to `y` the wait list is served (R105). -/
inductive Served (x : Searching) : Searching → Prop
  | none (h : x.waitList = []) : Served x x
  | full (h : 2 ≤ x.links.length) : Served x x
  | head {m : Nat} {rest : List Nat} (q : Search) (hw : x.waitList = m :: rest) (h : x.links.length < 2) :
      Served x (({ x with waitList := rest } : Searching).enqueue m q)

variable {x y z : Searching} {l : Nat} {q : Search}

@[simp] theorem links_enqueue : (x.enqueue l q).links = x.links ++ [l] := by simp [enqueue, links]
@[simp] theorem links_join : (x.join l).links = x.links := rfl
@[simp] theorem links_leave : (x.leave l).links = x.links := rfl

theorem perm_waitList_join : (x.join l).waitList.Perm (l :: x.waitList) := by
  refine List.perm_middle.trans (List.Perm.cons l ?_)
  rw [List.takeWhile_append_dropWhile]

/-- The searches stay placed when one link's search moves from one place to another. -/
theorem Placed.move (hx : x.Placed) {place : Option SearchPlace}
    (hplaces : y.places = Function.update x.places l place)
    (hfinds : ∀ p ∈ y.searches, p ∈ x.searches ∨ ∃ q, p.2 = .find q)
    (hlinks : y.links.Nodup) (hlink : ∀ m, m ∈ y.links ↔ if m = l then place = some .inEngine else m ∈ x.links)
    (hwaits : y.waitList.Nodup)
    (hwait : ∀ m, m ∈ y.waitList ↔ if m = l then place = some .waiting else m ∈ x.waitList) : y.Placed where
  finds p hp := (hfinds p hp).elim (hx.finds p) id
  linksOnce := hlinks
  waitOnce := hwaits
  inEngine m := by
    rw [hlink, hplaces, Function.update_apply]
    split
    · rfl
    · exact hx.inEngine m
  waiting m := by
    rw [hwait, hplaces, Function.update_apply]
    split
    · rfl
    · exact hx.waiting m

theorem Placed.not_mem_waitList (hx : x.Placed) (h : l ∈ x.links) : l ∉ x.waitList := by
  rw [hx.inEngine] at h
  rw [hx.waiting, h]
  exact nofun

theorem Gone.finds (hg : Gone l x y) (p : Nat × Job) (hp : p ∈ y.searches) :
    p ∈ x.searches ∨ ∃ q, p.2 = .find q := .inl (hg.sublist.subset hp)

theorem Gone.mem_links (hg : Gone l x y) (hx : x.Placed) (m : Nat) : m ∈ y.links ↔ m ≠ l ∧ m ∈ x.links := by
  rw [hg.links, hx.linksOnce.mem_erase_iff]

theorem Gone.linksOnce (hg : Gone l x y) (hx : x.Placed) : y.links.Nodup := by
  rw [hg.links]
  exact hx.linksOnce.erase l

/-- The search of a link that has none in the engine is gone already. -/
theorem Gone.refl (h : l ∉ x.links) : Gone l x x := ⟨rfl, .refl _, (List.erase_of_not_mem h).symm⟩

/-- A link whose search has left the engine leaves SEEKING. -/
theorem Placed.leave (hx : x.Placed) (hg : Gone l x y) : (y.leave l).Placed := by
  refine hx.move (place := none) (by rw [hg.frame]; rfl) hg.finds (hg.linksOnce hx) (fun m => ?_) ?_
    fun m => ?_
  · rw [links_leave, hg.mem_links hx]
    by_cases hm : m = l <;> simp [hm]
  · rw [hg.frame]
    exact hx.waitOnce.filter _
  · rw [hg.frame]
    by_cases hm : m = l <;> simp [hm, Searching.leave]

/-- A link whose search has left the engine joins the wait list. -/
theorem Placed.join (hx : x.Placed) (hg : Gone l x y) (hl : l ∉ x.waitList) : (y.join l).Placed := by
  have hw : y.waitList = x.waitList := by rw [hg.frame]
  refine hx.move (place := some .waiting) (by rw [hg.frame]; rfl) hg.finds (hg.linksOnce hx) (fun m => ?_) ?_
    fun m => ?_
  · rw [links_join, hg.mem_links hx]
    by_cases hm : m = l <;> simp [hm]
  · rw [perm_waitList_join.nodup_iff, hw]
    exact List.nodup_cons.2 ⟨hl, hx.waitOnce⟩
  · rw [perm_waitList_join.mem_iff, hw]
    by_cases hm : m = l <;> simp [hm]

/-- A link whose search is not in the engine, and that no longer waits, has its search queued. -/
theorem Placed.enqueue (hx : x.Placed) (hl : l ∉ x.links) :
    (({ x with waitList := x.waitList.erase l } : Searching).enqueue l q).Placed := by
  refine hx.move (place := some .inEngine) rfl (fun p hp => ?_) ?_ (fun m => ?_) (hx.waitOnce.erase l) fun m => ?_
  · rcases List.mem_append.1 hp with hp | hp
    · exact .inl hp
    · exact .inr ⟨q, by rw [List.mem_singleton.1 hp]⟩
  · rw [links_enqueue]
    exact List.nodup_append.2 ⟨hx.linksOnce, List.nodup_singleton l, fun a ha b hb => by
      rw [List.mem_singleton.1 hb]; rintro rfl; exact hl ha⟩
  · rw [links_enqueue, List.mem_append, List.mem_singleton]
    by_cases hm : m = l
    · simp [hm]
    · rw [if_neg hm, or_iff_left hm]
      rfl
  · refine hx.waitOnce.mem_erase_iff.trans ?_
    by_cases hm : m = l <;> simp [hm]

/-! ## The law -/

theorem Law.links_length (hx : x.Law) (h : x.waitList ≠ []) : x.links.length = 2 := by
  have := hx.within
  by_contra hne
  exact h (hx.served (by omega))

theorem Gone.links_length_le (hg : Gone l x y) : y.links.length ≤ x.links.length := by
  rw [hg.links]
  exact List.length_erase_le

/-- A link whose search is not in the engine leaves SEEKING: the law stays. -/
theorem Law.leave (hx : x.Law) (hl : l ∉ x.links) : (x.leave l).Law where
  toPlaced := hx.toPlaced.leave (.refl hl)
  within := hx.within
  served h := by
    rw [Searching.leave, hx.served h]
    rfl

/-- A link whose search has left the engine leaves SEEKING: one service is due. -/
theorem Law.due_leave (hx : x.Law) (hg : Gone l x y) : (y.leave l).Due where
  toPlaced := hx.toPlaced.leave hg
  within := hg.links_length_le.trans hx.within
  one h := by
    rw [Searching.leave, hg.frame]
    rcases hw : x.waitList with _ | ⟨m, rest⟩
    · exact Nat.zero_le 1
    · have h2 := hx.links_length (by rw [hw]; exact List.cons_ne_nil _ _)
      have h0 : (x.links.erase l).length = 0 := by rw [← hg.links]; exact congrArg List.length h
      have := List.le_length_erase (a := l) (l := x.links)
      omega

/-- A link whose search has left the engine joins the wait list: one service is due. -/
theorem Law.due_join (hx : x.Law) (hl : l ∈ x.links) (hg : Gone l x y) : (y.join l).Due where
  toPlaced := hx.toPlaced.join hg (hx.not_mem_waitList hl)
  within := hg.links_length_le.trans hx.within
  one h := by
    have h1 : x.links.length = 1 := by
      rw [← List.length_erase_add_one hl, ← hg.links, show y.links = [] from h]
      rfl
    have hw : y.waitList = [] := by rw [hg.frame]; exact hx.served (by omega)
    rw [perm_waitList_join.length_eq, hw]
    exact le_refl 1

/-- A link that enters SEEKING has its search queued while there is room, and waits otherwise (R104). -/
theorem Law.placeSearch (hx : x.Law) (hl : x.places l = none)
    (hz : x.links.length < 2 ∧ z = x.enqueue l q ∨ ¬ x.links.length < 2 ∧ z = x.join l) : z.Law := by
  have hlink : l ∉ x.links := by rw [hx.inEngine, hl]; exact nofun
  have hwait : l ∉ x.waitList := by rw [hx.waiting, hl]; exact nofun
  rcases hz with ⟨hroom, rfl⟩ | ⟨hfull, rfl⟩
  · have hp := hx.toPlaced.enqueue (q := q) hlink
    rw [List.erase_of_not_mem hwait] at hp
    refine ⟨hp, ?_, fun _ => hx.served hroom⟩
    rw [links_enqueue, List.length_append, List.length_singleton]
    omega
  · exact ⟨hx.toPlaced.join (.refl hlink) hwait, hx.within, fun h => absurd h hfull⟩

/-- One service of the wait list makes the law hold again (R105). -/
theorem Due.served (hx : x.Due) (hs : Served x y) : y.Law := by
  cases hs with
  | none h => exact ⟨hx.toPlaced, hx.within, fun _ => h⟩
  | full h => exact ⟨hx.toPlaced, hx.within, fun h' => absurd h' (Nat.not_lt.2 h)⟩
  | @head m rest q hw h =>
    have hm : x.places m = some .waiting := (hx.waiting m).1 (by rw [hw]; exact List.mem_cons_self)
    have hp := hx.toPlaced.enqueue (l := m) (q := q) (by rw [hx.inEngine, hm]; exact nofun)
    rw [hw, List.erase_cons_head] at hp
    have hlen : (({ x with waitList := rest } : Searching).enqueue m q).links.length = x.links.length + 1 := by
      rw [links_enqueue, List.length_append]
      rfl
    refine ⟨hp, ?_, fun h' => ?_⟩
    · rw [hlen]
      omega
    · rw [hlen] at h'
      have hone := hx.one (List.length_eq_zero_iff.1 (by omega))
      rw [hw, List.length_cons] at hone
      exact List.length_eq_zero_iff.1 (Nat.le_zero.1 (Nat.le_of_succ_le_succ hone))

/-! ## The seeking order -/

theorem idxOf_filter_lt {a b : Nat} {p : Nat → Bool} {xs : List Nat} (ha : p a = true) (hb : p b = true)
    (h : xs.idxOf a < xs.idxOf b) : (xs.filter p).idxOf a < (xs.filter p).idxOf b := by
  induction xs with
  | nil => simp at h
  | cons x xs ih =>
    by_cases hxa : x = a
    · subst hxa
      have hne : x ≠ b := by rintro rfl; exact lt_irrefl _ h
      rw [List.filter_cons_of_pos ha, List.idxOf_cons_self, List.idxOf_cons_ne _ hne]
      exact Nat.succ_pos _
    · by_cases hxb : x = b
      · subst hxb
        rw [List.idxOf_cons_self] at h
        exact absurd h (Nat.not_lt_zero _)
      · rw [List.idxOf_cons_ne _ hxa, List.idxOf_cons_ne _ hxb] at h
        have := ih (Nat.lt_of_succ_lt_succ h)
        cases hx : p x
        · rwa [List.filter_cons_of_neg (by simp [hx])]
        · rw [List.filter_cons_of_pos hx, List.idxOf_cons_ne _ hxa, List.idxOf_cons_ne _ hxb]
          exact Nat.succ_lt_succ this

/-- The order is kept when a link leaves SEEKING. -/
theorem InOrder.leave (hx : x.InOrder) : (x.leave l).InOrder where
  once := hx.once.filter _
  seeking m := by
    simp only [Searching.leave, mem_setRemove, Function.update_apply, hx.seeking]
    by_cases hm : m = l <;> simp [hm]
  sorted := by
    have hs : (setRemove l x.waitList).Pairwise fun a b => x.seekOrder.idxOf a < x.seekOrder.idxOf b :=
      hx.sorted.filter _
    refine hs.imp_of_mem fun ha hb h => idxOf_filter_lt ?_ ?_ h
    · exact (List.mem_filter.1 ha).2
    · exact (List.mem_filter.1 hb).2

/-- The order sees neither the engine nor which places the seeking links have. -/
theorem InOrder.congr (hx : x.InOrder) (hplaces : ∀ m, (y.places m).isSome = (x.places m).isSome)
    (hseek : y.seekOrder = x.seekOrder) (hwait : y.waitList.Sublist x.waitList) : y.InOrder where
  once := by rw [hseek]; exact hx.once
  seeking m := by rw [hseek, hplaces]; exact hx.seeking m
  sorted := by rw [hseek]; exact hx.sorted.sublist hwait

theorem isSome_update {l m : Nat} {place : SearchPlace} (h : (x.places l).isSome) :
    (Function.update x.places l (some place) m).isSome = (x.places m).isSome := by
  rw [Function.update_apply]
  split
  · next hm => rw [hm, h]; rfl
  · rfl

theorem InOrder.enqueue (hx : x.InOrder) (hl : (x.places l).isSome) : (x.enqueue l q).InOrder :=
  hx.congr (fun _ => isSome_update hl) rfl (.refl _)

theorem le_of_mem_dropWhile {f : Nat → Nat} {k m : Nat} {xs : List Nat} (hs : xs.Pairwise fun a b => f a < f b)
    (hm : m ∈ xs.dropWhile fun a => f a < k) : k ≤ f m := by
  induction xs with
  | nil => cases hm
  | cons a xs ih =>
    obtain ⟨ha, hs⟩ := List.pairwise_cons.1 hs
    by_cases hak : f a < k
    · rw [List.dropWhile_cons_of_pos (by simpa using hak)] at hm
      exact ih hs hm
    · rw [List.dropWhile_cons_of_neg (by simpa using hak)] at hm
      rcases List.mem_cons.1 hm with rfl | hm
      · omega
      · have := ha m hm
        omega

/-- A seeking link joins the wait list behind those that entered SEEKING before it, and before the others. -/
theorem InOrder.join (hx : x.InOrder) (hl : (x.places l).isSome) (hw : l ∉ x.waitList) : (x.join l).InOrder where
  once := hx.once
  seeking m := (hx.seeking m).trans (iff_of_eq (congrArg (· = true) (isSome_update hl).symm))
  sorted := by
    have hbefore {m : Nat} (hm : m ∈ x.waitList.takeWhile fun m => decide (x.seekOrder.idxOf m < x.seekOrder.idxOf l)) :
        x.seekOrder.idxOf m < x.seekOrder.idxOf l := by simpa using List.mem_takeWhile_imp hm
    have hafter {m : Nat} (hm : m ∈ x.waitList.dropWhile fun m => decide (x.seekOrder.idxOf m < x.seekOrder.idxOf l)) :
        x.seekOrder.idxOf l < x.seekOrder.idxOf m := by
      have hmw : m ∈ x.waitList := (List.dropWhile_sublist _).subset hm
      refine lt_of_le_of_ne (le_of_mem_dropWhile (f := (x.seekOrder.idxOf ·)) hx.sorted hm) fun heq => hw ?_
      rwa [(List.idxOf_inj ((hx.seeking l).2 hl)).1 heq]
    have hsplit := hx.sorted
    rw [← List.takeWhile_append_dropWhile (p := fun m => decide (x.seekOrder.idxOf m < x.seekOrder.idxOf l))
      (l := x.waitList), List.pairwise_append] at hsplit
    obtain ⟨htake, hdrop, hcross⟩ := hsplit
    refine List.pairwise_append.2 ⟨htake, List.pairwise_cons.2 ⟨fun m hm => hafter hm, hdrop⟩, fun a ha b hb => ?_⟩
    rcases List.mem_cons.1 hb with rfl | hb
    · exact hbefore ha
    · exact hcross a ha b hb

/-- The link that enters SEEKING is the last of the seeking order. -/
theorem InOrder.enter (hx : x.InOrder) (hl : x.places l = none) (hsub : ∀ m ∈ x.waitList, (x.places m).isSome)
    (place : SearchPlace) : ({ x with
      places := Function.update x.places l (some place), seekOrder := x.seekOrder ++ [l] } : Searching).InOrder where
  once := List.nodup_append.2 ⟨hx.once, List.nodup_singleton l, fun a ha b hb => by
    rw [List.mem_singleton.1 hb]
    rintro rfl
    rw [hx.seeking, hl] at ha
    cases ha⟩
  seeking m := by
    simp only [List.mem_append, List.mem_singleton, Function.update_apply, hx.seeking]
    by_cases hm : m = l <;> simp [hm]
  sorted := by
    refine hx.sorted.imp_of_mem fun ha hb h => ?_
    rwa [List.idxOf_append_of_mem ((hx.seeking _).2 (hsub _ ha)),
      List.idxOf_append_of_mem ((hx.seeking _).2 (hsub _ hb))]

theorem Placed.seeking_of_waits (hx : x.Placed) (m : Nat) (hm : m ∈ x.waitList) : (x.places m).isSome := by
  rw [(hx.waiting m).1 hm]
  rfl

theorem InOrder.served (hx : x.InOrder) (hp : x.Placed) (hs : Served x y) : y.InOrder := by
  cases hs with
  | none h => exact hx
  | full h => exact hx
  | @head m rest q hw h =>
    refine hx.congr (fun _ => isSome_update (hp.seeking_of_waits m (by rw [hw]; exact List.mem_cons_self))) rfl ?_
    rw [hw]
    exact List.sublist_cons_self _ _

end Searching

end Sys2Proof.Machine
end

section
/-! SUPPORT. The searches of a state, and what the operations on searches and retunes make of them (R32, R102 to
R109). -/

namespace Sys2Proof.Machine

/-- The search place, which SEEKING alone has (R99). -/
def RetunePhase.place : RetunePhase → Option SearchPlace
  | .seeking _ p => some p
  | _ => Option.none

/-- The search place of an entry that is ENROLLED and in SEEKING. -/
def LinkEntry.place : LinkEntry → Option SearchPlace
  | .enrolled e => e.phase.place
  | _ => none

/-- An internal request's link and job. -/
def requestSearch (r : EngineRequest) : Option (Nat × Job) :=
  match r.client with
  | .internal l => some (l, r.job)
  | .host _ => none

def searching (s : State) : Searching :=
  ⟨(engineRequests s).filterMap requestSearch, fun l => (entry s l).place, s.retune.waitList, s.retune.seekOrder⟩

@[simp] theorem requestSearch_internal (l : Nat) (job : Job) : requestSearch ⟨.internal l, job⟩ = some (l, job) := rfl
@[simp] theorem requestSearch_host (k : Nat) (job : Job) : requestSearch ⟨.host k, job⟩ = none := rfl

section
variable {s t : State} {l : Nat} {e : EnrolledLink}

@[simp] theorem searching_waitList : (searching s).waitList = s.retune.waitList := rfl

theorem places_searching : (searching s).places l = (entry s l).place := rfl

theorem place_of_entry (he : entry s l = .enrolled e) : (searching s).places l = e.phase.place := by
  simp only [searching, he, LinkEntry.place]

theorem seeksAt_iff {place : SearchPlace} : SeeksAt s l place ↔ (searching s).places l = some place := by
  rw [SeeksAt, places_searching]
  cases entry s l with
  | enrolled e => cases hp : e.phase <;> simp [LinkEntry.place, RetunePhase.place, hp]
  | _ => simp [LinkEntry.place]

theorem links_searching : (searching s).links = searchingLinks s := by
  rw [Searching.links, searching, searchingLinks, List.map_filterMap]
  refine List.filterMap_congr fun r _ => ?_
  unfold requestSearch
  cases r.client <;> rfl

theorem internalCount_eq : internalCount s = (searching s).links.length := by
  rw [Searching.links, searching, List.length_map, List.length_filterMap_eq_countP, internalCount]
  refine List.countP_congr fun r _ => ?_
  unfold requestSearch isInternal
  cases r.client <;> simp

/-- R26, R99 and R105 as the law of the searches by themselves. -/
theorem searchLaw_iff : SearchLaw s ↔ (searching s).Law := by
  have hfinds : (∀ r ∈ engineRequests s, isInternal r = true → ∃ q, r.job = .find q) ↔
      ∀ p ∈ (searching s).searches, ∃ q, p.2 = .find q := by
    simp only [searching, List.mem_filterMap]
    constructor
    · rintro h p ⟨⟨client, job⟩, hr, hp⟩
      cases client <;> cases hp
      exact h _ hr rfl
    · rintro h ⟨client, job⟩ hr hi
      cases client with
      | host => cases hi
      | internal l => exact h (l, job) ⟨_, hr, rfl⟩
  simp only [SearchLaw, SearchesPlaced, InternalWithinTwo, WaitListServed, hfinds, internalCount_eq, seeksAt_iff,
    ← links_searching, ← searching_waitList]
  constructor
  · rintro ⟨⟨hf, hl, hw, hin, hwait⟩, h2, hs⟩
    exact ⟨⟨hf, hl, hw, hin, hwait⟩, h2, hs⟩
  · rintro ⟨⟨hf, hl, hw, hin, hwait⟩, h2, hs⟩
    exact ⟨⟨hf, hl, hw, hin, hwait⟩, h2, hs⟩

/-- R99 and R105's order as the order of the searches by themselves. -/
theorem seekingInOrder_iff : SeekingInOrder s ↔ (searching s).InOrder := by
  simp only [SeekingInOrder, seeksAt_iff, ← Option.isSome_iff_exists]
  exact ⟨fun ⟨h1, h2, h3⟩ => ⟨h1, h2, h3⟩, fun ⟨h1, h2, h3⟩ => ⟨h1, h2, h3⟩⟩

/-- From `s` to `t` the searches stay placed and the seek wait list served and in order (R26, R99, R105). -/
structure KeepsSearches (s t : State) : Prop where
  law : (searching s).Law → (searching t).Law
  order : (searching s).Law → (searching s).InOrder → (searching t).InOrder

theorem KeepsSearches.of_eq (h : searching t = searching s) : KeepsSearches s t :=
  ⟨fun hs => h ▸ hs, fun _ hs => h ▸ hs⟩

theorem KeepsSearches.trans {u : State} (h : KeepsSearches s t) (h' : KeepsSearches t u) : KeepsSearches s u :=
  ⟨fun hs => h'.law (h.law hs), fun hs ho => h'.order (h.law hs) (h.order hs ho)⟩

theorem engineRequests_eq : engineRequests s = (s.engine.running.map Running.request).toList ++ s.engine.queue := rfl

/-- The searches are read from the core. -/
theorem searching_of_core (h : core t = core s) : searching t = searching s := by
  have hq : t.engine.queue = s.engine.queue := congrArg Core.queue h
  have hr : t.engine.running.map Running.request = s.engine.running.map Running.request := congrArg Core.running h
  have hw : t.retune.waitList = s.retune.waitList := congrArg Core.waitList h
  have hs : t.retune.seekOrder = s.retune.seekOrder := congrArg Core.seekOrder h
  simp only [searching, engineRequests_eq, hq, hr, hw, hs, entry_of_core h]

/-! ## Link entries -/

theorem places_setEntry (hl : l < 64) (x : LinkEntry) :
    (searching (setEntry l x s)).places = Function.update (searching s).places l x.place := by
  funext j
  simp only [searching, entry_setEntry, hl, and_true, Function.update_apply, eq_comm (a := j)]
  split <;> rfl

theorem searching_updateLink (he : entry s l = .enrolled e) (f : EnrolledLink → EnrolledLink) :
    searching (updateLink l f s) =
      { searching s with places := Function.update (searching s).places l (f e).phase.place } := by
  rw [updateLink_enrolled s f he, ← show LinkEntry.place (.enrolled (f e)) = (f e).phase.place from rfl,
    ← places_setEntry (enrolled_lt s he)]
  rfl

/-- Writing an entry with the same search place, as one that is not in SEEKING has none. -/
theorem searching_setEntry {x : LinkEntry} (h : x.place = (entry s l).place) :
    searching (setEntry l x s) = searching s := by
  have hp : (searching (setEntry l x s)).places = (searching s).places := by
    funext j
    rw [places_searching, places_searching, entry_setEntry]
    split
    · next hj => rw [h, hj.1]
    · rfl
  exact congrArg (fun p => { searching s with places := p }) hp

theorem searching_updateLink_same {f : EnrolledLink → EnrolledLink} (hf : ∀ e, (f e).phase.place = e.phase.place) :
    searching (updateLink l f s) = searching s := by
  cases he : entry s l with
  | enrolled e =>
    rw [updateLink_enrolled s f he]
    exact searching_setEntry (by rw [he]; exact hf e)
  | _ => simp [updateLink, he]

/-! ## Moves of a link -/

theorem searching_setPlace {r : RetuneRecord} {p : SearchPlace} (place : SearchPlace) (he : entry s l = .enrolled e)
    (hp : e.phase = .seeking r p) : searching (setPlace place l s) =
      { searching s with places := Function.update (searching s).places l (some place) } := by
  rw [setPlace, searching_updateLink he, hp]
  rfl

theorem searching_enqueue (job : Job) :
    searching (enqueue ⟨.internal l, job⟩ s) =
      { searching s with searches := (searching s).searches ++ [(l, job)] } := by
  simp only [searching, engineRequests_eq, enqueue, List.filterMap_append, ← List.append_assoc]
  rfl

theorem searching_queueSearch {r : RetuneRecord} {p : SearchPlace} (he : entry s l = .enrolled e)
    (hp : e.phase = .seeking r p) :
    searching (queueSearch l s) = (searching s).enqueue l (linkSearch s e) := by
  rw [queueSearch_enrolled he, searching_setPlace .inEngine (s := enqueue _ s) he hp, searching_enqueue]
  rfl

theorem searching_joinWaitList {r : RetuneRecord} {p : SearchPlace} (he : entry s l = .enrolled e)
    (hp : e.phase = .seeking r p) : searching (joinWaitList l s) = (searching s).join l := by
  unfold joinWaitList
  dsimp only
  exact searching_setPlace (s := { s with retune.waitList := _ }) .waiting he hp

/-- A link without phase or in ORDERED has no search place. -/
theorem searching_leave {f : EnrolledLink → EnrolledLink} (hf : ∀ e, (f e).phase.place = none) :
    { searching (updateLink l f s) with
      waitList := setRemove l s.retune.waitList, seekOrder := setRemove l s.retune.seekOrder } =
      (searching s).leave l := by
  cases he : entry s l with
  | enrolled e => rw [searching_updateLink he, hf]; rfl
  | _ =>
    have hu : updateLink l f s = s := by simp [updateLink, he]
    have hp : (searching s).places l = none := by simp [searching, he, LinkEntry.place]
    rw [hu, Searching.leave, Function.update_eq_self_iff.2 hp.symm]
    rfl

theorem searching_endRetune (result : RetuneResult) : searching (endRetune result l s) = (searching s).leave l := by
  rw [← searching_leave (f := fun e => { e with phase := .none, lastResult := result }) fun _ => rfl, endRetune_eq]
  conv_rhs => rw [updateLink_frame]
  rfl

theorem searching_enterOrdered (r : RetuneRecord) (n : Nat) :
    searching (enterOrdered r n l s) = (searching s).leave l := by
  rw [← searching_leave (f := fun e => { e with phase := .ordered r n }) fun _ => rfl, enterOrdered_eq]
  conv_rhs => rw [updateLink_frame]
  rfl

/-- A search result leaves a seeking link on the wait list or takes it out of SEEKING (R106 to R108). -/
theorem searching_applySearchResult {r : RetuneRecord} {p : SearchPlace} (f : FindResult)
    (he : entry s l = .enrolled e) (hp : e.phase = .seeking r p) :
    searching (applySearchResult l f s) = (searching s).join l ∨
      searching (applySearchResult l f s) = (searching s).leave l := by
  simp only [applySearchResult, he, hp]
  split
  · exact .inl (searching_joinWaitList he hp)
  · split
    · exact .inr (searching_endRetune _)
    · split
      · exact .inr (searching_endRetune _)
      · exact .inr (searching_endRetune _)
      · next n t ho =>
        obtain ⟨-, -, -, rfl⟩ := openFromSearch_inv ho
        refine .inr ((searching_enterOrdered r n).trans ?_)
        rw [searching_of_core ((core_markStale _).trans (core_setRecord s n _))]

end

end Sys2Proof.Machine
end

section
/-! SUPPORT. Retunes, aborts, search results and the engine keep the searches placed, the seek wait list served and in
order (R26, R27, R32, R99, R104 to R109). -/

namespace Sys2Proof.Machine

section
variable {s t u : State} {l : Nat} {e : EnrolledLink}

open Searching

/-! ## The seek wait list -/

/-- A service of the list moves its head's search into the engine while there is room (R105). -/
theorem served_serveWaitList (h : (searching s).Placed) : Served (searching s) (searching (serveWaitList s)) := by
  unfold serveWaitList
  split
  · next hw => exact .none hw
  · next m rest hw =>
    split
    · next hroom =>
      rw [internalCount_eq] at hroom
      obtain ⟨e, r, he, hp⟩ := seeksAt_iff.2
        ((h.waiting m).1 (by rw [searching_waitList, hw]; exact List.mem_cons_self))
      rw [searching_queueSearch (s := { s with retune.waitList := rest }) he hp]
      exact .head _ hw hroom
    · next hfull =>
      rw [internalCount_eq] at hfull
      exact .full (Nat.not_lt.1 hfull)

/-- Where one service is due, it makes the law hold again. -/
theorem KeepsSearches.serve (hdue : (searching s).Law → (searching u).Due)
    (horder : (searching s).Law → (searching s).InOrder → (searching u).InOrder) :
    KeepsSearches s (serveWaitList u) where
  law h := (hdue h).served (served_serveWaitList (hdue h).toPlaced)
  order h ho := (horder h ho).served (hdue h).toPlaced (served_serveWaitList (hdue h).toPlaced)

/-! ## The start of a retune -/

/-- The state in which a link that has entered SEEKING has its search placed. -/
theorem startSeeking_placeSearch (o : Origin) (k : Bool) (he : entry s l = .enrolled e) :
    ∃ u e' r, startSeeking o k l s = placeSearch l u ∧ entry u l = .enrolled e' ∧ e'.phase = .seeking r .waiting ∧
      searching u = { searching s with
        places := Function.update (searching s).places l (some .waiting)
        seekOrder := (searching s).seekOrder ++ [l] } := by
  refine ⟨_, _, _, rfl, entry_updateLink_self _ he, rfl, ?_⟩
  rw [updateLink_enrolled s _ he]
  exact congrArg (fun p => { searching s with places := p, seekOrder := (searching s).seekOrder ++ [l] })
    (places_setEntry (enrolled_lt s he) _)

/-- A link that enters SEEKING has its search placed (R104). -/
theorem keepsSearches_startSeeking (o : Origin) (k : Bool) (he : entry s l = .enrolled e) (hp : e.phase.place = none) :
    KeepsSearches s (startSeeking o k l s) := by
  have hplace : (searching s).places l = none := (place_of_entry he).trans hp
  obtain ⟨u, e', r, heq, hue, hup, hux⟩ := startSeeking_placeSearch o k he
  rw [heq]
  have hseeks : ((searching u).places l).isSome := by rw [place_of_entry hue, hup]; rfl
  have hmoved : ∃ q, internalCount u < 2 ∧ searching (placeSearch l u) = (searching u).enqueue l q ∨
      ¬ internalCount u < 2 ∧ searching (placeSearch l u) = (searching u).join l := by
    refine ⟨linkSearch u e', ?_⟩
    unfold placeSearch
    split
    · next h => exact .inl ⟨h, searching_queueSearch hue hup⟩
    · next h => exact .inr ⟨h, searching_joinWaitList hue hup⟩
  obtain ⟨q, hmoved⟩ := hmoved
  have horder (h : (searching s).Law) (ho : (searching s).InOrder) : (searching u).InOrder := by
    rw [hux]
    exact ho.enter hplace h.seeking_of_waits .waiting
  have hwaits (h : (searching s).Law) : l ∉ (searching u).waitList := by
    rw [hux]
    exact fun hl => by rw [h.waiting, hplace] at hl; cases hl
  constructor
  · intro h
    have hlong : ({ searching s with seekOrder := (searching s).seekOrder ++ [l] } : Searching).Law :=
      ⟨⟨h.finds, h.linksOnce, h.waitOnce, h.inEngine, h.waiting⟩, h.within, h.served⟩
    refine hlong.placeSearch (l := l) (q := q) hplace (hmoved.imp (And.imp ?_ ?_) (And.imp ?_ ?_))
    · rw [internalCount_eq, hux]; exact id
    · intro hz; rw [hz, hux, Searching.enqueue, Searching.enqueue, Function.update_idem]
    · rw [internalCount_eq, hux]; exact id
    · intro hz; rw [hz, hux, Searching.join, Searching.join, Function.update_idem]
  · intro h ho
    rcases hmoved with ⟨-, hz⟩ | ⟨-, hz⟩ <;> rw [hz]
    · exact (horder h ho).enqueue hseeks
    · exact (horder h ho).join hseeks (hwaits h)

/-! ## The end of a retune outside the engine -/

theorem KeepsSearches.leave (hl : (searching s).places l ≠ some .inEngine) (ht : searching t = (searching s).leave l) :
    KeepsSearches s t where
  law h := ht ▸ h.leave (by rw [h.inEngine]; exact hl)
  order _ ho := ht ▸ ho.leave

/-! ## Searches that leave the engine -/

theorem searching_cancelInternal : searching (cancelInternal l s) =
    { searching s with searches := (searching s).searches.filter fun p => p.1 != l } := by
  have hreq : engineRequests (cancelInternal l s) = (engineRequests s).filter fun r => r.client != .internal l := by
    simp only [engineRequests_eq, cancelInternal, List.filter_append]
    congr 1
    cases s.engine.running with
    | none => rfl
    | some q => by_cases hq : q.request.client = .internal l <;> simp [hq]
  have hsearch : (engineRequests (cancelInternal l s)).filterMap requestSearch =
      ((engineRequests s).filterMap requestSearch).filter fun p => p.1 != l := by
    rw [hreq, List.filter_filterMap, List.filterMap_filter]
    refine List.filterMap_congr fun r _ => ?_
    rcases r with ⟨_ | m, job⟩
    · rfl
    · by_cases hm : m = l <;> simp [hm, Option.filter]
  exact congrArg (fun z => { searching s with searches := z }) hsearch

theorem Searching.Placed.gone_filter {x : Searching} (h : x.Placed) (l : Nat) :
    Gone l x { x with searches := x.searches.filter fun p => p.1 != l } where
  frame := rfl
  sublist := List.filter_sublist
  links := by
    rw [h.linksOnce.erase_eq_filter, links, links, List.filter_map]
    rfl

/-- The head of the engine's requests leaves. -/
theorem searching_idle {r : EngineRequest} (hrun : s.engine.running.map Running.request = some r) :
    searching s = { searching { s with engine.running := none } with
      searches := (requestSearch r).toList ++ (searching { s with engine.running := none }).searches } := by
  have : (engineRequests s).filterMap requestSearch = (requestSearch r).toList ++
      (engineRequests { s with engine.running := none }).filterMap requestSearch := by
    simp only [engineRequests_eq, hrun, Option.map_none, Option.toList_none, List.nil_append, List.filterMap_append]
    cases h : requestSearch r <;> simp [h]
  exact congrArg (fun z => { searching s with searches := z }) this

theorem gone_idle {job : Job} (hrun : s.engine.running.map Running.request = some ⟨.internal l, job⟩) :
    Gone l (searching s) (searching { s with engine.running := none }) := by
  rw [searching_idle hrun]
  exact ⟨rfl, List.sublist_cons_self _ _, (List.erase_cons_head ..).symm⟩

/-- The running request is a search of a link in SEEKING with place IN_ENGINE (R26, R99). -/
theorem Searching.Law.running (h : (searching s).Law) {job : Job}
    (hrun : s.engine.running.map Running.request = some ⟨.internal l, job⟩) :
    l ∈ (searching s).links ∧ ∃ q, job = .find q := by
  have hmem : (l, job) ∈ (searching s).searches := by rw [searching_idle hrun]; exact List.mem_cons_self
  exact ⟨List.mem_map_of_mem hmem, h.finds _ hmem⟩

/-- The delivery of a result keeps the searches placed and serves the wait list (R29, R105 to R108). -/
theorem keepsSearches_deliverResult {r : EngineRequest} {result : EngineResult}
    (hrun : s.engine.running.map Running.request = some r) (hres : ∀ q, r.job = .find q → ∃ f, result = .find f) :
    KeepsSearches s (deliverResult r result s) := by
  obtain ⟨client, job⟩ := r
  cases client with
  | host k =>
    refine .of_eq (Eq.trans ?_ (searching_idle hrun).symm)
    rfl
  | internal l =>
    have hidle (h : (searching s).Law) : ∃ e r, entry s l = .enrolled e ∧ e.phase = .seeking r .inEngine :=
      seeksAt_iff.2 ((h.inEngine l).1 (h.running hrun).1)
    have happly (h : (searching s).Law) : ∃ u, deliverResult ⟨.internal l, job⟩ result s = serveWaitList u ∧
        (searching u = (searching { s with engine.running := none }).join l ∨
          searching u = (searching { s with engine.running := none }).leave l) := by
      obtain ⟨f, rfl⟩ := (h.running hrun).2.elim hres
      obtain ⟨e, r, he, hp⟩ := hidle h
      exact ⟨_, rfl, searching_applySearchResult (s := { s with engine.running := none }) f he hp⟩
    have hkeeps (h : (searching s).Law) : KeepsSearches s (deliverResult ⟨.internal l, job⟩ result s) := by
      obtain ⟨u, heq, hu⟩ := happly h
      obtain ⟨e, r, he, hp⟩ := hidle h
      have hlink := (h.running hrun).1
      have hseeks : ((searching s).places l).isSome := by rw [place_of_entry he, hp]; rfl
      rw [heq]
      refine .serve (fun _ => ?_) fun _ ho => ?_
      · rcases hu with hu | hu <;> rw [hu]
        · exact h.due_join hlink (gone_idle hrun)
        · exact h.due_leave (gone_idle hrun)
      · have ho' : (searching { s with engine.running := none }).InOrder := ho.congr (fun _ => rfl) rfl (.refl _)
        rcases hu with hu | hu <;> rw [hu]
        · exact ho'.join hseeks (h.not_mem_waitList hlink)
        · exact ho'.leave
    exact ⟨fun h => (hkeeps h).law h, fun h => (hkeeps h).order h⟩

/-! ## The engine -/

theorem searching_beginRequest {r : EngineRequest} {rest : List EngineRequest} (hr : s.engine.running = none)
    (hq : s.engine.queue = r :: rest) : searching (beginRequest r rest s) = searching s := by
  unfold beginRequest
  split <;> simp only [searching, engineRequests_eq, hr, hq] <;> rfl

theorem running_beginRequest (r : EngineRequest) (rest : List EngineRequest) :
    (beginRequest r rest s).engine.running.map Running.request = some r := by
  rw [(beginRequest_work s r rest).1]
  rfl

theorem keepsSearches_startHeads (n : Nat) (s : State) : KeepsSearches s (startHeads n s) := by
  induction n generalizing s with
  | zero => exact .of_eq rfl
  | succ n ih =>
    unfold startHeads
    split
    · next r rest hr hq =>
      have hbegin : KeepsSearches s (beginRequest r rest s) := .of_eq (searching_beginRequest hr hq)
      dsimp only
      split
      · exact hbegin.trans ((keepsSearches_deliverResult (running_beginRequest r rest) fun _ _ => ⟨_, rfl⟩).trans
          (ih _))
      · exact hbegin
    · exact .of_eq rfl

theorem keepsSearches_startHead (s : State) : KeepsSearches s (startHead s) := keepsSearches_startHeads _ s

theorem keepsSearches_evaluateRunning (s : State) : KeepsSearches s (evaluateRunning s) := by
  unfold evaluateRunning
  split
  · exact .of_eq rfl
  · next r hr =>
    have hrun : s.engine.running.map Running.request = some r.request := by rw [hr]; rfl
    split
    · next hjob =>
      exact (keepsSearches_deliverResult hrun fun q hq => by rw [hjob] at hq; cases hq).trans
        (keepsSearches_startHead _)
    · have hfind (f : FindResult) : KeepsSearches s (completeRequest r.request (.find f) s) :=
        (keepsSearches_deliverResult hrun fun _ _ => ⟨f, rfl⟩).trans (keepsSearches_startHead _)
      dsimp only
      split
      · exact hfind _
      · split
        · exact hfind _
        · refine .of_eq (searching_of_core ?_)
          simp only [core, hr, Option.map_some]

/-! ## The abort and the completion of a retune -/

/-- The abort of a search in the engine takes it out and serves the wait list (R32, R105, R112). -/
theorem keepsSearches_cancelSearch (result : RetuneResult) :
    KeepsSearches s (cancelSearch l (endRetune result l s)) := by
  have hgone (h : (searching s).Law) : Gone l (searching s)
      { searching s with searches := (searching s).searches.filter fun p => p.1 != l } := h.gone_filter l
  have hleft : searching (cancelInternal l (endRetune result l s)) =
      ({ searching s with searches := (searching s).searches.filter fun p => p.1 != l } : Searching).leave l := by
    rw [searching_cancelInternal, searching_endRetune]
    rfl
  have hserve : KeepsSearches s (serveWaitList (cancelInternal l (endRetune result l s))) := by
    refine .serve (fun h => hleft ▸ h.due_leave (hgone h)) fun _ ho => hleft ▸ InOrder.leave ?_
    exact ho.congr (fun _ => rfl) rfl (.refl _)
  unfold cancelSearch
  dsimp only
  split
  · exact hserve.trans (keepsSearches_startHead _)
  · exact hserve

theorem keepsSearches_abortRetune (s : State) (result : RetuneResult) (l : Nat) :
    KeepsSearches s (abortRetune result l s) := by
  unfold abortRetune
  split
  · next e he =>
    split
    · exact .of_eq rfl
    · exact keepsSearches_cancelSearch result
    · next r hp =>
      exact .leave (by rw [place_of_entry he, hp]; exact nofun) (searching_endRetune result)
    · next r n hp =>
      refine .leave (l := l) (by rw [place_of_entry he, hp]; exact nofun) ((searching_endRetune result).trans ?_)
      have hc : searching (removeTunePending l (closeRecord n s)) = searching s :=
        searching_of_core (t := closeRecord n s) (core_closeRecord s n)
      rw [hc]
  · exact .of_eq rfl

theorem keepsSearches_completeRetune {r r' : RetuneRecord} {n m : Nat} (he : entry s l = .enrolled e)
    (hp : e.phase = .ordered r' m) : KeepsSearches s (completeRetune r n l s) := by
  refine .leave (l := l) (by rw [place_of_entry he, hp]; exact nofun) ?_
  unfold completeRetune
  rw [he]
  dsimp only
  generalize hu : releaseOldRecord e.carrier r.keepOld (promoteRecord n s) = u
  have hcore : core u = core s := by rw [← hu, core_releaseOldRecord, core_promoteRecord]
  rw [searching_endRetune, ← searching_of_core hcore,
    ← searching_updateLink_same (s := u) (l := l) (f := fun e => { e with carrier := n }) fun _ => rfl]
  rfl

end

end Sys2Proof.Machine
end

section
/-! SUPPORT. The host check slots with the engine's host requests by themselves (R23, R26), and the operations that keep
them in agreement. -/

namespace Sys2Proof.Machine

/-- The slot of a host request. -/
def requestSlot (r : EngineRequest) : Option Nat :=
  match r.client with
  | .host k => some k
  | .internal _ => none

@[simp] theorem requestSlot_host (k : Nat) (job : Job) : requestSlot ⟨.host k, job⟩ = some k := rfl
@[simp] theorem requestSlot_internal (l : Nat) (job : Job) : requestSlot ⟨.internal l, job⟩ = none := rfl

/-- The host requests that wait in the engine, the one that runs, and the slots. -/
structure Hosting where
  queue : List EngineRequest
  running : Option EngineRequest
  slots : Vector Slot 4

namespace Hosting

/-- The slots of the host requests in the engine, the running one first. -/
def hosts (x : Hosting) : List Nat := (x.running.toList ++ x.queue).filterMap requestSlot

/-- A slot is QUEUED or RUNNING exactly with the request that the engine holds for it, once (R23, R26). -/
structure Law (x : Hosting) : Prop where
  queued : ∀ k job, look x.slots k = .queued job ↔ ⟨.host k, job⟩ ∈ x.queue
  running : ∀ k job, look x.slots k = .running job ↔ x.running = some ⟨.host k, job⟩
  once : x.hosts.Nodup

variable {x y : Hosting} {k : Nat} {v : Slot} {job : Job}

theorem mem_hosts : k ∈ x.hosts ↔ ∃ job, x.running = some ⟨.host k, job⟩ ∨ ⟨.host k, job⟩ ∈ x.queue := by
  simp only [hosts, List.mem_filterMap, List.mem_append, Option.mem_toList]
  constructor
  · rintro ⟨⟨client, job⟩, hr, hk⟩
    cases client <;> cases hk
    exact ⟨job, hr⟩
  · rintro ⟨job, hr⟩
    exact ⟨_, hr, rfl⟩

theorem Law.lt_of_mem_hosts (hx : x.Law) (h : k ∈ x.hosts) : k < 4 := by
  refine lt_of_look_ne x.slots k fun hd => ?_
  obtain ⟨job, h | h⟩ := mem_hosts.1 h
  · cases hd.symm.trans ((hx.running k job).2 h)
  · cases hd.symm.trans ((hx.queued k job).2 h)

/-- One slot is written with what the engine then holds for it, and the other requests stay. -/
theorem Law.move (hx : x.Law) (hk : k < 4) (hslots : y.slots = put x.slots k v)
    (hqueue : ∀ j job, ⟨.host j, job⟩ ∈ y.queue ↔ if j = k then v = .queued job else ⟨.host j, job⟩ ∈ x.queue)
    (hrunning : ∀ j job, y.running = some ⟨.host j, job⟩ ↔
      if j = k then v = .running job else x.running = some ⟨.host j, job⟩) (honce : y.hosts.Nodup) : y.Law where
  queued j job := by
    rw [hslots, look_put, hqueue]
    by_cases hj : j = k
    · simp [hj, hk]
    · simp [hj, Ne.symm hj, hx.queued]
  running j job := by
    rw [hslots, look_put, hrunning]
    by_cases hj : j = k
    · simp [hj, hk]
    · simp [hj, Ne.symm hj, hx.running]
  once := honce

/-- A request is accepted for an EMPTY slot (R24, R25). -/
theorem Law.accept (hx : x.Law) (hk : k < 4) (hempty : look x.slots k = .empty) :
    Law { x with queue := x.queue ++ [⟨.host k, job⟩], slots := put x.slots k (.queued job) } := by
  have hnot : k ∉ x.hosts := by
    rw [mem_hosts]
    rintro ⟨job', h | h⟩
    · cases hempty.symm.trans ((hx.running k job').2 h)
    · cases hempty.symm.trans ((hx.queued k job').2 h)
  have hnone (job' : Job) : ⟨.host k, job'⟩ ∉ x.queue ∧ x.running ≠ some ⟨.host k, job'⟩ :=
    ⟨fun h => hnot (mem_hosts.2 ⟨job', .inr h⟩), fun h => hnot (mem_hosts.2 ⟨job', .inl h⟩)⟩
  refine hx.move hk rfl (fun j job' => ?_) (fun j job' => ?_) ?_
  · by_cases hj : j = k
    · simp [hj, hnone, eq_comm]
    · simp [hj]
  · by_cases hj : j = k
    · simp [hj, hnone]
    · simp [hj]
  · rw [hosts, ← List.append_assoc, List.filterMap_append]
    refine List.nodup_append.2 ⟨hx.once, List.nodup_singleton k, fun a ha b hb => ?_⟩
    rintro rfl
    rw [List.mem_singleton.1 hb] at ha
    exact hnot ha

/-- The head of the queue becomes the running request (R27). -/
theorem Law.start {rest : List EngineRequest} (hx : x.Law) (hq : x.queue = ⟨.host k, job⟩ :: rest)
    (hr : x.running = none) :
    Law { queue := rest, running := some ⟨.host k, job⟩, slots := put x.slots k (.running job) } := by
  have hmem : k ∈ x.hosts := mem_hosts.2 ⟨job, .inr (by rw [hq]; exact List.mem_cons_self)⟩
  have honce : (k :: rest.filterMap requestSlot).Nodup := by
    have h := hx.once
    rw [hosts, hr, hq] at h
    exact h
  have hnot (job' : Job) : ⟨.host k, job'⟩ ∉ rest := fun h =>
    (List.nodup_cons.1 honce).1 (List.mem_filterMap.2 ⟨_, h, rfl⟩)
  refine hx.move (hx.lt_of_mem_hosts hmem) rfl (fun j job' => ?_) (fun j job' => ?_) honce
  · by_cases hj : j = k
    · simp [hj, hnot]
    · simp [hj, hq]
  · by_cases hj : j = k
    · simp [hj]
    · simp [hj, hr, Ne.symm hj]

/-- What a slot holds once the engine has no request for it: nothing, or a result (R23). -/
def Released (v : Slot) : Prop := ∀ job, v ≠ .queued job ∧ v ≠ .running job

theorem released_empty : Released .empty := fun _ => ⟨nofun, nofun⟩
theorem released_done (job : Job) (r : EngineResult) : Released (.done job r) := fun _ => ⟨nofun, nofun⟩

/-- The running request leaves the engine (R29, R31). -/
theorem Law.finish (hx : x.Law) (hr : x.running = some ⟨.host k, job⟩) (hv : Released v) :
    Law { x with running := none, slots := put x.slots k v } := by
  have hmem : k ∈ x.hosts := mem_hosts.2 ⟨job, .inl hr⟩
  have honce : (k :: x.queue.filterMap requestSlot).Nodup := by
    have h := hx.once
    rw [hosts, hr] at h
    exact h
  have hnot (job' : Job) : ⟨.host k, job'⟩ ∉ x.queue := fun h =>
    (List.nodup_cons.1 honce).1 (List.mem_filterMap.2 ⟨_, h, rfl⟩)
  refine hx.move (hx.lt_of_mem_hosts hmem) rfl (fun j job' => ?_) (fun j job' => ?_) (List.nodup_cons.1 honce).2
  · by_cases hj : j = k
    · simp [hj, hnot, (hv job').1]
    · simp [hj]
  · by_cases hj : j = k
    · simp [hj, (hv job').2]
    · simp [hj, hr, Ne.symm hj]

/-- A slot's waiting request is taken out of the queue (R31). -/
theorem Law.withdraw (hx : x.Law) (hslot : look x.slots k = .queued job) : Law { x with
    queue := x.queue.filter fun r => r.client != .host k, slots := put x.slots k .empty } := by
  have hmem : k ∈ x.hosts := mem_hosts.2 ⟨job, .inr ((hx.queued k job).1 hslot)⟩
  refine hx.move (hx.lt_of_mem_hosts hmem) rfl (fun j job' => ?_) (fun j job' => ?_) ?_
  · by_cases hj : j = k <;> simp [hj]
  · by_cases hj : j = k
    · simp [hj, ← hx.running, hslot]
    · simp [hj]
  · exact hx.once.sublist (List.Sublist.filterMap _ (List.Sublist.append (.refl _) List.filter_sublist))

/-- A slot without a request is written (R30, R31). -/
theorem Law.write (hx : x.Law) (hslot : Released (look x.slots k)) (hv : Released v) :
    Law { x with slots := put x.slots k v } := by
  have hlook (j : Nat) (w : Slot) (hw : ¬ Released w) : look (put x.slots k v) j = w ↔ look x.slots j = w := by
    rw [look_put]
    split
    · next hj =>
      rw [hj.1] at hslot
      exact ⟨fun h => absurd (h ▸ hv) hw, fun h => absurd (h ▸ hslot) hw⟩
    · rfl
  exact ⟨fun j job => (hlook j _ fun h => (h job).1 rfl).trans (hx.queued j job),
    fun j job => (hlook j _ fun h => (h job).2 rfl).trans (hx.running j job), hx.once⟩

end Hosting

/-! ## The host requests of a state -/

/-- The request is of a host check slot. -/
def isHost (r : EngineRequest) : Bool := !isInternal r

def hosting (s : State) : Hosting :=
  ⟨s.engine.queue.filter isHost, (s.engine.running.map Running.request).filter isHost, s.engine.slots⟩

section
variable {s t : State} {l k : Nat}

theorem hosts_hosting : (hosting s).hosts = (engineRequests s).filterMap requestSlot := by
  have hq : (s.engine.queue.filter isHost).filterMap requestSlot = s.engine.queue.filterMap requestSlot := by
    rw [List.filterMap_filter]
    refine List.filterMap_congr fun r _ => ?_
    rcases r with ⟨_ | _, _⟩ <;> rfl
  rw [Hosting.hosts, hosting, List.filterMap_append, hq, engineRequests_eq, List.filterMap_append]
  congr 1
  cases s.engine.running with
  | none => rfl
  | some q => rcases hq : q.request with ⟨_ | _, _⟩ <;> simp [hq, isHost, isInternal, Option.filter]

/-- R23 and R26's agreement as the law of the host requests by themselves. -/
theorem slotsMatchEngine_iff : SlotsMatchEngine s ↔ (hosting s).Law := by
  have hqueue (k : Nat) (job : Job) : ⟨.host k, job⟩ ∈ (hosting s).queue ↔ ⟨.host k, job⟩ ∈ s.engine.queue := by
    simp [hosting, isHost, isInternal]
  have hrun (k : Nat) (job : Job) : (hosting s).running = some ⟨.host k, job⟩ ↔
      s.engine.running.map Running.request = some ⟨.host k, job⟩ := by
    simp only [hosting, Option.filter_eq_some_iff]
    exact ⟨And.left, fun h => ⟨h, rfl⟩⟩
  have honce : (hosting s).hosts.Nodup = ((engineRequests s).filterMap requestSlot).Nodup :=
    congrArg List.Nodup hosts_hosting
  constructor
  · rintro ⟨h1, h2, h3⟩
    exact ⟨fun k job => (h1 k job).trans (hqueue k job).symm, fun k job => (h2 k job).trans (hrun k job).symm,
      honce.mpr h3⟩
  · rintro ⟨h1, h2, h3⟩
    exact ⟨fun k job => (h1 k job).trans (hqueue k job), fun k job => (h2 k job).trans (hrun k job), honce.mp h3⟩

theorem hosting_of_core (h : core t = core s) : hosting t = hosting s := by
  have hq : t.engine.queue = s.engine.queue := congrArg Core.queue h
  have hr : t.engine.running.map Running.request = s.engine.running.map Running.request := congrArg Core.running h
  have hs : t.engine.slots = s.engine.slots := congrArg Core.slots h
  simp only [hosting, hq, hr, hs]

theorem hosting_of_engine (h : t.engine = s.engine) : hosting t = hosting s := by
  simp only [hosting, h]

/-! ## Internal requests touch no slot -/

theorem hosting_enqueue_internal (job : Job) : hosting (enqueue ⟨.internal l, job⟩ s) = hosting s := by
  simp [hosting, enqueue, isHost, isInternal]

@[simp] theorem hosting_queueSearch : hosting (queueSearch l s) = hosting s := by
  unfold queueSearch
  split
  · exact (hosting_of_engine (setPlace_engine _ _ l)).trans (hosting_enqueue_internal _)
  · rfl

@[simp] theorem hosting_joinWaitList : hosting (joinWaitList l s) = hosting s :=
  hosting_of_engine (setPlace_engine _ _ l)

@[simp] theorem hosting_placeSearch : hosting (placeSearch l s) = hosting s := by
  unfold placeSearch
  split <;> simp

@[simp] theorem hosting_serveWaitList : hosting (serveWaitList s) = hosting s := by
  unfold serveWaitList
  split
  · rfl
  · split
    · rw [hosting_queueSearch]; rfl
    · rfl

@[simp] theorem hosting_endRetune (result : RetuneResult) : hosting (endRetune result l s) = hosting s :=
  hosting_of_engine endRetune_engine

@[simp] theorem hosting_updateLink (f : EnrolledLink → EnrolledLink) : hosting (updateLink l f s) = hosting s :=
  hosting_of_engine (updateLink_engine ..)

@[simp] theorem hosting_enterOrdered (r : RetuneRecord) (n : Nat) : hosting (enterOrdered r n l s) = hosting s :=
  hosting_of_engine (by rw [enterOrdered_eq])

theorem hosting_startSeeking (o : Origin) (keep : Bool) : hosting (startSeeking o keep l s) = hosting s := by
  unfold startSeeking
  dsimp only
  rw [hosting_placeSearch]
  exact hosting_updateLink _

theorem hosting_applySearchResult (f : FindResult) : hosting (applySearchResult l f s) = hosting s := by
  unfold applySearchResult
  split
  · split
    · split
      · simp
      · split
        · simp
        · dsimp only
          split
          · simp
          · simp
          · next ho =>
            obtain ⟨-, -, -, rfl⟩ := openFromSearch_inv ho
            rw [hosting_enterOrdered]
            exact hosting_of_core ((core_markStale _).trans (core_setRecord ..))
    · rfl
  · rfl

theorem hosting_cancelInternal : hosting (cancelInternal l s) = hosting s := by
  have hq : (s.engine.queue.filter fun r => r.client != .internal l).filter isHost = s.engine.queue.filter isHost := by
    rw [List.filter_filter]
    refine List.filter_congr fun r _ => ?_
    rcases r with ⟨_ | _, _⟩ <;> simp [isHost, isInternal]
  have hr : ((s.engine.running.filter fun r => r.request.client != .internal l).map Running.request).filter isHost =
      (s.engine.running.map Running.request).filter isHost := by
    cases s.engine.running with
    | none => rfl
    | some q =>
      rcases hc : q.request with ⟨_ | m, _⟩
      · simp [hc, Option.filter]
      · by_cases hm : m = l <;> simp [hc, hm, isHost, isInternal, Option.filter]
  simp only [hosting, cancelInternal, hq, hr]

/-! ## The engine keeps the slots in agreement -/

theorem hostingLaw_deliverResult {r : EngineRequest} (result : EngineResult)
    (hrun : s.engine.running.map Running.request = some r) (h : (hosting s).Law) :
    (hosting (deliverResult r result s)).Law := by
  obtain ⟨client, job⟩ := r
  have hidle : hosting { s with engine.running := none } = { hosting s with running := none } := rfl
  cases client with
  | host k =>
    refine h.finish (k := k) (job := job) ?_ (Hosting.released_done job result)
    simp [hosting, hrun, isHost, isInternal]
  | internal l =>
    have hnone : (hosting s).running = none := by simp [hosting, hrun, isHost, isInternal]
    have hsame : hosting (deliverResult ⟨.internal l, job⟩ result s) = hosting s := by
      unfold deliverResult
      dsimp only
      rw [hosting_serveWaitList]
      refine Eq.trans ?_ (hidle.trans (by rw [← hnone]))
      cases result with
      | find f => exact hosting_applySearchResult f
      | check c => rfl
    rwa [hsame]

theorem hostingLaw_beginRequest {r : EngineRequest} {rest : List EngineRequest} (hr : s.engine.running = none)
    (hq : s.engine.queue = r :: rest) (h : (hosting s).Law) : (hosting (beginRequest r rest s)).Law := by
  have hnone : (hosting s).running = none := by rw [hosting, hr]; rfl
  obtain ⟨client, job⟩ := r
  cases client with
  | host k => exact h.start (rest := rest.filter isHost) (by simp only [hosting, hq]; rfl) hnone
  | internal l =>
    have hsame : hosting (beginRequest ⟨.internal l, job⟩ rest s) = hosting s := by
      simp only [hosting, hr, hq]
      rfl
    rwa [hsame]

theorem hostingLaw_startHeads (n : Nat) (h : (hosting s).Law) : (hosting (startHeads n s)).Law := by
  induction n generalizing s with
  | zero => exact h
  | succ n ih =>
    unfold startHeads
    split
    · next r rest hr hq =>
      have hbegin := hostingLaw_beginRequest hr hq h
      dsimp only
      split
      · exact ih (hostingLaw_deliverResult _ (running_beginRequest r rest) hbegin)
      · exact hbegin
    · exact h

theorem hostingLaw_startHead (h : (hosting s).Law) : (hosting (startHead s)).Law := hostingLaw_startHeads _ h

theorem hostingLaw_evaluateRunning (h : (hosting s).Law) : (hosting (evaluateRunning s)).Law := by
  unfold evaluateRunning
  split
  · exact h
  · next r hr =>
    have hcomplete (result : EngineResult) : (hosting (completeRequest r.request result s)).Law :=
      hostingLaw_startHead (hostingLaw_deliverResult result (by rw [hr]; rfl) h)
    split
    · exact hcomplete _
    · dsimp only
      split
      · exact hcomplete _
      · split
        · exact hcomplete _
        · have hsame : hosting { s with engine.running := some { r with evaluated := r.evaluated + 1 } } = hosting s :=
            hosting_of_core (by simp only [core, hr, Option.map_some])
          rwa [hsame]

theorem hostingLaw_abortRetune (result : RetuneResult) (h : (hosting s).Law) :
    (hosting (abortRetune result l s)).Law := by
  unfold abortRetune
  split
  · split
    · exact h
    · have hleft : hosting (serveWaitList (cancelInternal l (endRetune result l s))) = hosting s := by
        rw [hosting_serveWaitList, hosting_cancelInternal, hosting_endRetune]
      unfold cancelSearch
      dsimp only
      split
      · exact hostingLaw_startHead (hleft ▸ h)
      · exact hleft ▸ h
    · rwa [hosting_endRetune]
    · next r n _ =>
      have hclose : hosting (removeTunePending l (closeRecord n s)) = hosting s :=
        hosting_of_core (t := closeRecord n s) (core_closeRecord s n)
      rwa [hosting_endRetune, hclose]
  · exact h

theorem hosting_completeRetune (r : RetuneRecord) (n : Nat) : hosting (completeRetune r n l s) = hosting s := by
  unfold completeRetune
  split
  · next e _ =>
    dsimp only
    rw [hosting_endRetune]
    refine (hosting_updateLink (s := releaseOldRecord e.carrier r.keepOld (promoteRecord n s)) _).trans ?_
    exact hosting_of_core ((core_releaseOldRecord ..).trans (core_promoteRecord s n))
  · rfl

/-! ## The host check requests (R24, R25, R30, R31) -/

theorem hostingLaw_queueHost {k : Nat} {job : Job} (hk : freeSlot s = some k) (h : (hosting s).Law) :
    (hosting (queueHost k job s)).Law := by
  obtain ⟨hlt, hempty⟩ := (mem_indicesWhere ..).1 (List.mem_of_mem_head? hk)
  have heq : hosting (queueHost k job s) =
      { hosting s with
        queue := (hosting s).queue ++ [⟨.host k, job⟩], slots := put s.engine.slots k (.queued job) } := by
    simp [hosting, queueHost, enqueue, setSlot, isHost, isInternal]
  exact heq ▸ h.accept hlt (beq_iff_eq.1 hempty)

/-- A slot with a result is emptied. -/
theorem hostingLaw_empty {k : Nat} {job : Job} {r : EngineResult} (hslot : slotAt s k = .done job r)
    (h : (hosting s).Law) : (hosting (setSlot k .empty s)).Law := by
  refine h.write (k := k) ?_ Hosting.released_empty
  rw [show look (hosting s).slots k = .done job r from hslot]
  exact Hosting.released_done job r

/-- A QUEUED slot is emptied and its request withdrawn. -/
theorem hostingLaw_withdrawHost {k : Nat} {job : Job} (hslot : slotAt s k = .queued job) (h : (hosting s).Law) :
    (hosting (setSlot k .empty { s with engine.queue := s.engine.queue.filter fun r => r.client != .host k })).Law := by
  have heq : hosting (setSlot k .empty { s with engine.queue := s.engine.queue.filter fun r => r.client != .host k }) =
      { hosting s with
        queue := (hosting s).queue.filter fun r => r.client != .host k, slots := put s.engine.slots k .empty } := by
    simp only [hosting, setSlot, List.filter_filter, Bool.and_comm]
  rw [heq]
  exact h.withdraw hslot

/-- A RUNNING slot is emptied and its request abandoned. -/
theorem hostingLaw_abandonHost {k : Nat} {job : Job} (hslot : slotAt s k = .running job) (h : (hosting s).Law) :
    (hosting (setSlot k .empty { s with
      engine.running := s.engine.running.filter fun r => r.request.client != .host k })).Law := by
  have hrun := (h.running k job).1 hslot
  have hreq : s.engine.running.map Running.request = some ⟨.host k, job⟩ := (Option.filter_eq_some_iff.1 hrun).1
  obtain ⟨q, hq, hqr⟩ := Option.map_eq_some_iff.1 hreq
  have hnone : (s.engine.running.filter fun r => r.request.client != .host k) = none := by
    rw [hq]
    simp [hqr]
  rw [hnone]
  exact h.finish hrun Hosting.released_empty

end

end Sys2Proof.Machine
end

section
/-! SUPPORT. The return scheduler's sets and queue, and the links pending in them (R161 to R164), through the operations
on links, searches and retunes. -/

namespace Sys2Proof.Machine

section
variable {s t u : State} {l m : Nat} {e : EnrolledLink}

/-! ## Operations that write the entries of seeking links alone -/

/-- From `s` to `t` only entries of links in SEEKING are written, and of them the phase and the last result alone. -/
def SeekersOnly (s t : State) : Prop :=
  ∀ l, entry t l = entry s l ∨ ∃ e phase result, entry s l = .enrolled e ∧ e.phase.place.isSome ∧
    entry t l = .enrolled { e with phase := phase, lastResult := result }

theorem SeekersOnly.of_entry (h : entry t = entry s) : SeekersOnly s t := fun l => .inl (congrFun h l)

theorem SeekersOnly.trans (h : SeekersOnly s t) (h' : SeekersOnly t u) : SeekersOnly s u := by
  intro l
  rcases h l with h | ⟨e, phase, result, he, hp, ht⟩
  · rcases h' l with h' | ⟨e, phase, result, he, hp, hu⟩
    · exact .inl (h'.trans h)
    · exact .inr ⟨e, phase, result, h ▸ he, hp, hu⟩
  · rcases h' l with h' | ⟨e', phase', result', he', -, hu⟩
    · exact .inr ⟨e, phase, result, he, hp, h'.trans ht⟩
    · cases ht.symm.trans he'
      exact .inr ⟨e, phase', result', he, hp, hu⟩

/-- One seeking link's phase and last result are written. -/
theorem SeekersOnly.write {phase : RetunePhase} {result : RetuneResult} (he : entry s l = .enrolled e)
    (hp : e.phase.place.isSome) (hl : entry t l = .enrolled { e with phase := phase, lastResult := result })
    (hne : ∀ j ≠ l, entry t j = entry s j) : SeekersOnly s t := by
  intro j
  by_cases hj : j = l
  · subst hj
    exact .inr ⟨e, phase, result, he, hp, hl⟩
  · exact .inl (hne j hj)

theorem SeekersOnly.entry_eq (h : SeekersOnly s t) (hl : (entry s l).place = none) : entry t l = entry s l := by
  rcases h l with h | ⟨e, _, _, he, hp, -⟩
  · exact h
  · rw [he] at hl
    rw [show e.phase.place = none from hl] at hp
    cases hp

theorem SeekersOnly.cameraOutput (h : SeekersOnly s t) (l : Nat) : cameraOutput t l = cameraOutput s l := by
  rcases h l with h | ⟨e, _, _, he, -, ht⟩
  · rw [Machine.cameraOutput, Machine.cameraOutput, h]
  · rw [cameraOutput_enrolled he, cameraOutput_enrolled ht]

theorem seekersOnly_setPlace (place : SearchPlace) : SeekersOnly s (setPlace place l s) := by
  cases he : entry s l with
  | enrolled e =>
    cases hp : e.phase with
    | seeking r p =>
      exact .write he (by rw [hp]; rfl) (result := e.lastResult) (entry_setPlace_self place he hp)
        fun j hj => entry_setPlace_ne _ hj
    | _ =>
      refine .of_entry (funext fun j => ?_)
      by_cases hj : j = l
      · subst hj
        refine (entry_updateLink_self _ he).trans ?_
        rw [he]
        cases e
        cases hp
        rfl
      · exact entry_setPlace_ne _ hj
  | _ => exact .of_entry (by rw [setPlace, updateLink, he])

theorem seekersOnly_queueSearch : SeekersOnly s (queueSearch l s) := by
  unfold queueSearch
  split
  · exact (seekersOnly_setPlace (s := enqueue _ s) .inEngine :)
  · exact .of_entry rfl

theorem seekersOnly_joinWaitList : SeekersOnly s (joinWaitList l s) :=
  (seekersOnly_setPlace (s := { s with retune.waitList := _ }) .waiting :)

theorem seekersOnly_serveWaitList : SeekersOnly s (serveWaitList s) := by
  unfold serveWaitList
  split
  · exact .of_entry rfl
  · next m rest _ =>
    split
    · exact (seekersOnly_queueSearch (s := { s with retune.waitList := rest }) :)
    · exact .of_entry rfl

theorem seekersOnly_endRetune (result : RetuneResult) (he : entry s l = .enrolled e) (hp : e.phase.place.isSome) :
    SeekersOnly s (endRetune result l s) :=
  .write he hp (entry_endRetune_self result he) fun _ hj => entry_endRetune_ne result hj

theorem seekersOnly_applySearchResult (f : FindResult) : SeekersOnly s (applySearchResult l f s) := by
  unfold applySearchResult
  split
  · next e he =>
    split
    · next r p hp =>
      have hplace : e.phase.place.isSome := by rw [hp]; rfl
      split
      · exact seekersOnly_joinWaitList
      · split
        · exact seekersOnly_endRetune _ he hplace
        · dsimp only
          split
          · exact seekersOnly_endRetune _ he hplace
          · exact seekersOnly_endRetune _ he hplace
          · next n t ho =>
            obtain ⟨-, -, -, rfl⟩ := openFromSearch_inv ho
            exact .write he hplace (result := e.lastResult) (entry_openFor_self he) fun _ hj => entry_openFor_ne hj
    · exact .of_entry rfl
  · exact .of_entry rfl

theorem seekersOnly_deliverResult (r : EngineRequest) (result : EngineResult) :
    SeekersOnly s (deliverResult r result s) := by
  unfold deliverResult
  split
  · exact .of_entry rfl
  · refine SeekersOnly.trans ?_ seekersOnly_serveWaitList
    cases result with
    | find f => exact (seekersOnly_applySearchResult (s := { s with engine.running := none }) f :)
    | check c => exact .of_entry rfl

theorem seekersOnly_startHeads (n : Nat) (s : State) : SeekersOnly s (startHeads n s) := by
  induction n generalizing s with
  | zero => exact .of_entry rfl
  | succ n ih =>
    unfold startHeads
    split
    · next r rest _ _ =>
      have hbegin : SeekersOnly s (beginRequest r rest s) := .of_entry (by unfold beginRequest; split <;> rfl)
      dsimp only
      split
      · exact hbegin.trans ((seekersOnly_deliverResult r _).trans (ih _))
      · exact hbegin
    · exact .of_entry rfl

theorem seekersOnly_startHead : SeekersOnly s (startHead s) := seekersOnly_startHeads _ s

theorem seekersOnly_cancelSearch : SeekersOnly s (cancelSearch l s) := by
  have hleft : SeekersOnly s (serveWaitList (cancelInternal l s)) :=
    SeekersOnly.trans (t := cancelInternal l s) (.of_entry rfl) seekersOnly_serveWaitList
  unfold cancelSearch
  dsimp only
  split
  · exact hleft.trans seekersOnly_startHead
  · exact hleft

/-- After the abort of a retune its link has no search place. -/
theorem place_abortRetune (s : State) (result : RetuneResult) (l : Nat) :
    (entry (abortRetune result l s) l).place = none := by
  unfold abortRetune
  split
  · next e he =>
    have hend {u : State} (hu : entry u l = .enrolled e) : (entry (endRetune result l u) l).place = none := by
      rw [entry_endRetune_self result hu]
      rfl
    split
    · next hp => rw [he]; exact congrArg RetunePhase.place hp
    · rw [seekersOnly_cancelSearch.entry_eq (hend he), hend he]
    · exact hend he
    · exact hend (by simpa using he)
  · next hne =>
    cases h : entry s l with
    | enrolled e => exact absurd h (hne e)
    | _ => rfl

/-! ## What an operation keeps of the return scheduler -/

/-- From `s` to `t` the pending sets and the PASS queue stay in order, and the pending links stay such as may be
pending (R161 to R164). -/
structure KeepsReturns (s t : State) : Prop where
  order : ReturnInOrder s → ReturnInOrder t
  pending : PendingLinksFit s → PendingLinksFit t

theorem KeepsReturns.trans (h : KeepsReturns s t) (h' : KeepsReturns t u) : KeepsReturns s u :=
  ⟨h'.order ∘ h.order, h'.pending ∘ h.pending⟩

theorem lt_of_isCamera (h : isCamera s l = true) : l < 64 := by
  obtain ⟨o, ho⟩ := Option.isSome_iff_exists.1 h
  exact cameraOutput_lt ho

theorem isCamera_of_tuneWanted (h : tuneWanted s l = true) : isCamera s l = true := by
  rw [tuneWanted, Bool.and_eq_true] at h
  exact h.1

theorem newCarrierOf_of_entry (h : entry t l = entry s l) : newCarrierOf t l = newCarrierOf s l := by
  rw [newCarrierOf_links, newCarrierOf_links, links, links, h]

theorem isCamera_of_entry (h : entry t l = entry s l) : isCamera t l = isCamera s l := by
  rw [isCamera, isCamera, cameraOutput, cameraOutput, h]

theorem tuneWanted_of_entry (h : entry t l = entry s l) : tuneWanted t l = tuneWanted s l := by
  rw [tuneWanted, tuneWanted, isCamera_of_entry h, newCarrierOf_of_entry h]

/-- The scheduler stays, and the links that may be pending in it. -/
theorem KeepsReturns.of_views (hret : t.ret = s.ret) (hcam : ∀ m, isCamera t m = isCamera s m)
    (hnew : ∀ m, newCarrierOf t m = newCarrierOf s m) : KeepsReturns s t where
  order h := by rwa [ReturnInOrder, hret]
  pending h := by
    rw [PendingLinksFit, hret]
    exact ⟨fun m hm => by rw [tuneWanted, hcam, hnew]; exact h.1 m hm, fun m hm => (hcam m).trans (h.2 m hm)⟩

theorem KeepsReturns.of_entries (hret : t.ret = s.ret) (he : entry t = entry s) : KeepsReturns s t :=
  .of_views hret (fun m => isCamera_of_entry (congrFun he m)) fun m => newCarrierOf_of_entry (congrFun he m)

/-- Seeking links whose new carriers do not change. -/
theorem KeepsReturns.of_seekersOnly (hret : t.ret = s.ret) (h : SeekersOnly s t) (hs : standing t = standing s) :
    KeepsReturns s t :=
  .of_views hret (fun m => congrArg Option.isSome (h.cameraOutput m)) (newCarrierOf_standing hs)

/-- The entries stay, and the sets and the queue lose members at most. -/
theorem KeepsReturns.of_less (he : entry t = entry s) (htune : t.ret.tunePending.Sublist s.ret.tunePending)
    (hcue : t.ret.cuePending.Sublist s.ret.cuePending) (hpass : t.ret.passQueue.Sublist s.ret.passQueue)
    (hsend : s.ret.sendNumber < 256 → t.ret.sendNumber < 256) : KeepsReturns s t where
  order := by
    rintro ⟨⟨ht, htb⟩, ⟨hc, hcb⟩, hlen, hn, hp⟩
    exact ⟨⟨ht.sublist htune, fun x hx => htb x (htune.subset hx)⟩,
      ⟨hc.sublist hcue, fun x hx => hcb x (hcue.subset hx)⟩,
      hpass.length_le.trans hlen, hsend hn, fun e he => hp e (hpass.subset he)⟩
  pending := fun ⟨ht, hc⟩ =>
    ⟨fun m hm => (tuneWanted_of_entry (congrFun he m)).trans (ht m (htune.subset hm)),
      fun m hm => (isCamera_of_entry (congrFun he m)).trans (hc m (hcue.subset hm))⟩

theorem indexSet_setAdd {n : Nat} {xs : List Nat} (hl : l < n) (h : IndexSet n xs) : IndexSet n (setAdd l xs) :=
  ⟨setAdd_sorted l xs h.1, fun x hx => by
    rcases (mem_setAdd ..).1 hx with rfl | hx
    · exact hl
    · exact h.2 x hx⟩

/-- A CAMERA's CUE is set pending (R163). -/
theorem KeepsReturns.setCuePending (h : isCamera s l = true) : KeepsReturns s (setCuePending l s) where
  order := fun ⟨ht, hc, hrest⟩ => ⟨ht, indexSet_setAdd (lt_of_isCamera h) hc, hrest⟩
  pending := fun ⟨ht, hc⟩ => ⟨ht, fun m hm => by
    rcases (mem_setAdd ..).1 hm with rfl | hm
    · exact h
    · exact hc m hm⟩

/-- The TUNE of a CAMERA in ORDERED is set pending (R162). -/
theorem KeepsReturns.setTunePending (h : tuneWanted s l = true) : KeepsReturns s (setTunePending l s) where
  order := fun ⟨ht, hrest⟩ => ⟨indexSet_setAdd (lt_of_isCamera (isCamera_of_tuneWanted h)) ht, hrest⟩
  pending := fun ⟨ht, hc⟩ => ⟨fun m hm => by
    rcases (mem_setAdd ..).1 hm with rfl | hm
    · exact h
    · exact ht m hm, hc⟩

/-- One link's entry is written that is pending for nothing it then may not be pending for. -/
theorem KeepsReturns.of_write (hret : t.ret = s.ret) (hne : ∀ j ≠ l, entry t j = entry s j)
    (htune : PendingLinksFit s → l ∈ s.ret.tunePending → tuneWanted t l = true)
    (hcue : PendingLinksFit s → l ∈ s.ret.cuePending → isCamera t l = true) : KeepsReturns s t where
  order h := by rwa [ReturnInOrder, hret]
  pending h := by
    unfold PendingLinksFit
    rw [hret]
    refine ⟨fun m hm => ?_, fun m hm => ?_⟩
    · by_cases hml : m = l
      · subst hml; exact htune h hm
      · exact (tuneWanted_of_entry (hne m hml)).trans (h.1 m hm)
    · by_cases hml : m = l
      · subst hml; exact hcue h hm
      · exact (isCamera_of_entry (hne m hml)).trans (h.2 m hm)

/-- A link without new carrier has no TUNE pending (R162). -/
theorem not_mem_tunePending (h : PendingLinksFit s) (hnew : newCarrierOf s l = none) : l ∉ s.ret.tunePending := by
  intro hm
  have := h.1 l hm
  rw [tuneWanted, hnew, Option.isSome_none, Bool.and_false] at this
  cases this

/-! ## Entries, searches and retunes -/

theorem keepsReturns_updateLink {f : EnrolledLink → EnrolledLink}
    (hrole : ∀ e, roleOutput (f e).role = roleOutput e.role)
    (hnew : ∀ e, (f e).phase.newCarrier = e.phase.newCarrier) : KeepsReturns s (updateLink l f s) := by
  cases he : entry s l with
  | enrolled e =>
    have hl := entry_updateLink_self f he
    refine .of_write (l := l) (by rw [updateLink_frame]) (fun j hj => entry_updateLink_ne f hj)
      (fun h hm => ?_) fun h hm => ?_
    · rw [← h.1 l hm, tuneWanted, tuneWanted, isCamera_enrolled hl, isCamera_enrolled he, newCarrierOf_enrolled hl,
        newCarrierOf_enrolled he, hrole, hnew]
    · rw [← h.2 l hm, isCamera_enrolled hl, isCamera_enrolled he, hrole]
  | _ => exact .of_entries (by rw [updateLink_frame]) (by rw [updateLink, he])

theorem isCamera_of_not_enrolled (h : (entry s l).isEnrolled = false) : isCamera s l = false := by
  rw [isCamera, cameraOutput]
  split
  · next e he => rw [he] at h; cases h
  · rfl

/-- An entry is written where none is ENROLLED. -/
theorem keepsReturns_setEntry_free {x : LinkEntry} (h : (entry s l).isEnrolled = false) :
    KeepsReturns s (setEntry l x s) := by
  have hcam := isCamera_of_not_enrolled h
  refine .of_write (l := l) rfl (fun j hj => ?_) (fun hs hm => ?_) fun hs hm => ?_
  · rw [entry_setEntry, if_neg fun hlj => hj hlj.1.symm]
  · rw [isCamera_of_tuneWanted (hs.1 l hm)] at hcam; cases hcam
  · rw [hs.2 l hm] at hcam; cases hcam

theorem isCamera_endRetune (result : RetuneResult) : isCamera (endRetune result l s) m = isCamera s m := by
  rw [isCamera, endRetune_eq]
  exact congrArg Option.isSome (cameraOutput_updateLink (f := fun e => { e with phase := .none, lastResult := result })
    fun _ => rfl)

/-- A retune ends whose link has no TUNE pending. -/
theorem keepsReturns_endRetune (result : RetuneResult) (h : PendingLinksFit s → l ∉ s.ret.tunePending) :
    KeepsReturns s (endRetune result l s) :=
  .of_write endRetune_ret (fun _ hj => entry_endRetune_ne result hj) (fun hs hm => absurd hm (h hs))
    fun hs hm => (isCamera_endRetune result).trans (hs.2 l hm)

theorem keepsReturns_enterOrdered (r : RetuneRecord) (n : Nat) (he : entry s l = .enrolled e) :
    KeepsReturns s (enterOrdered r n l s) := by
  have hcam : isCamera (updateLink l (fun e => { e with phase := .ordered r n }) s) l = isCamera s l :=
    congrArg Option.isSome (cameraOutput_updateLink fun _ => rfl)
  have hl := entry_updateLink_self (fun e => { e with phase := .ordered r n }) he
  have hnew : newCarrierOf (updateLink l (fun e => { e with phase := .ordered r n }) s) l = some n := by
    rw [newCarrierOf_enrolled hl]; rfl
  have hwanted : isCamera s l = true →
      tuneWanted (updateLink l (fun e => { e with phase := .ordered r n }) s) l = true := by
    intro h
    rw [tuneWanted, hcam, hnew, h]
    rfl
  have hupdate : KeepsReturns s (updateLink l (fun e => { e with phase := .ordered r n }) s) :=
    .of_write (by rw [updateLink_frame]) (fun j hj => entry_updateLink_ne _ hj)
      (fun hs hm => hwanted (isCamera_of_tuneWanted (hs.1 l hm))) fun hs hm => hcam.trans (hs.2 l hm)
  unfold enterOrdered
  dsimp only
  split
  · next h => exact hupdate.trans ((KeepsReturns.setTunePending (hwanted (hcam ▸ h))).trans (.of_entries rfl rfl))
  · exact hupdate.trans (.of_entries rfl rfl)

theorem keepsReturns_applySearchResult (f : FindResult) : KeepsReturns s (applySearchResult l f s) := by
  unfold applySearchResult
  split
  · next e he =>
    split
    · next r p hp =>
      have hend (result : RetuneResult) : KeepsReturns s (endRetune result l s) :=
        keepsReturns_endRetune result fun hs => not_mem_tunePending hs (by rw [newCarrierOf_enrolled he, hp]; rfl)
      split
      · exact .of_seekersOnly (by rw [joinWaitList_frame]) seekersOnly_joinWaitList (standing_joinWaitList s l)
      · split
        · exact hend _
        · dsimp only
          split
          · exact hend _
          · exact hend _
          · next n t ho =>
            obtain ⟨-, -, -, rfl⟩ := openFromSearch_inv ho
            refine KeepsReturns.trans ?_ (keepsReturns_enterOrdered r n (l := l) (e := e) he)
            exact .of_entries rfl rfl
    · exact .of_entries rfl rfl
  · exact .of_entries rfl rfl

theorem keepsReturns_serveWaitList : KeepsReturns s (serveWaitList s) :=
  .of_seekersOnly (serveWaitList_ret s) seekersOnly_serveWaitList (standing_serveWaitList s)

theorem keepsReturns_startHead : KeepsReturns s (startHead s) :=
  .of_seekersOnly (startHead_ret s) seekersOnly_startHead (standing_startHead s)

theorem keepsReturns_completeRequest (r : EngineRequest) (result : EngineResult) :
    KeepsReturns s (completeRequest r result s) := by
  refine KeepsReturns.trans ?_ keepsReturns_startHead
  unfold deliverResult
  split
  · exact .of_entries rfl rfl
  · refine KeepsReturns.trans ?_ keepsReturns_serveWaitList
    cases result with
    | find f =>
      exact KeepsReturns.trans (t := { s with engine.running := none }) (.of_entries rfl rfl)
        (keepsReturns_applySearchResult f)
    | check c => exact .of_entries rfl rfl

theorem keepsReturns_evaluateRunning (s : State) : KeepsReturns s (evaluateRunning s) := by
  unfold evaluateRunning
  split
  · exact .of_entries rfl rfl
  · split
    · exact keepsReturns_completeRequest ..
    · dsimp only
      split
      · exact keepsReturns_completeRequest ..
      · split
        · exact keepsReturns_completeRequest ..
        · exact .of_entries rfl rfl

theorem keepsReturns_startSeeking (o : Origin) (k : Bool) (hnew : newCarrierOf s l = none) :
    KeepsReturns s (startSeeking o k l s) := by
  refine .of_views (by rw [startSeeking_frame]) (fun m => ?_) (newCarrierOf_standing (standing_startSeeking s o k hnew))
  have hplace : ∀ u, SeekersOnly u (placeSearch l u) := by
    intro u
    unfold placeSearch
    split
    · exact seekersOnly_queueSearch
    · exact seekersOnly_joinWaitList
  unfold startSeeking
  refine (congrArg Option.isSome ((hplace _).cameraOutput m)).trans ?_
  exact congrArg Option.isSome (cameraOutput_updateLink (f := fun e => { e with
    phase := .seeking ⟨o, k, deadlineAfter s.retune.limit s⟩ .waiting }) fun _ => rfl)

theorem keepsReturns_cancelSearch : KeepsReturns s (cancelSearch l s) := by
  refine .of_seekersOnly ?_ seekersOnly_cancelSearch (standing_cancelSearch s l)
  unfold cancelSearch
  dsimp only
  split
  · rw [startHead_ret, serveWaitList_ret]; rfl
  · rw [serveWaitList_ret]; rfl

theorem keepsReturns_removeTunePending : KeepsReturns s (removeTunePending l s) :=
  .of_less rfl List.filter_sublist (.refl _) (.refl _) id

theorem keepsReturns_abortRetune (s : State) (result : RetuneResult) (l : Nat) :
    KeepsReturns s (abortRetune result l s) := by
  unfold abortRetune
  split
  · next e he =>
    have hseek (r place) (hp : e.phase = .seeking r place) : KeepsReturns s (endRetune result l s) :=
      keepsReturns_endRetune result fun hs => not_mem_tunePending hs (by rw [newCarrierOf_enrolled he, hp]; rfl)
    split
    · exact .of_entries rfl rfl
    · next r hp => exact (hseek r _ hp).trans keepsReturns_cancelSearch
    · next r hp => exact hseek r _ hp
    · next r n hp =>
      have hclose : KeepsReturns s (closeRecord n s) := .of_entries (closeRecord_ret n s) (entry_closeRecord n)
      exact (hclose.trans keepsReturns_removeTunePending).trans
        (keepsReturns_endRetune result fun _ h => ((mem_setRemove ..).1 h).2 rfl)
  · exact .of_entries rfl rfl

theorem keepsReturns_completeRetune (r : RetuneRecord) (n : Nat) : KeepsReturns s (completeRetune r n l s) := by
  unfold completeRetune
  split
  · next e _ =>
    dsimp only
    generalize hu : releaseOldRecord e.carrier r.keepOld (promoteRecord n s) = u
    have hcore : core u = core s := by rw [← hu, core_releaseOldRecord, core_promoteRecord]
    have hrecords : KeepsReturns s u := .of_entries (ret_of_core hcore) (entry_of_core hcore)
    have hcarrier : KeepsReturns u (updateLink l (fun e => { e with carrier := n }) u) :=
      keepsReturns_updateLink (fun _ => rfl) fun _ => rfl
    exact ((hrecords.trans hcarrier).trans keepsReturns_removeTunePending).trans
      (keepsReturns_endRetune _ fun _ h => ((mem_setRemove ..).1 h).2 rfl)
  · exact .of_entries rfl rfl

/-! ## The return port (R165 to R170) -/

theorem keepsReturns_returnPassRule (payload : List Byte) :
    KeepsReturns s ((returnPassRule l payload s).after s) := by
  unfold returnPassRule
  split
  · exact .of_entries rfl rfl
  · next hrange =>
    split
    · exact .of_entries rfl rfl
    · split
      · exact .of_entries rfl rfl
      · next hroom =>
        refine ⟨fun ⟨ht, hc, hlen, hn, hp⟩ => ⟨ht, hc, ?_, hn, ?_⟩, fun h => h⟩
        · simp only [Config.passCapacity, not_le] at hroom
          rw [after_accept, List.length_append, List.length_singleton]
          omega
        · simp only [Bool.or_eq_true, decide_eq_true_eq, List.isEmpty_iff, not_or, Config.passBytes] at hrange
          intro e he
          rcases List.mem_append.1 he with he | he
          · exact hp e he
          · rw [List.mem_singleton.1 he]
            obtain ⟨⟨hlink, hempty⟩, hbytes⟩ := hrange
            exact ⟨Nat.lt_succ_of_le (not_lt.1 hlink), List.length_pos_iff.2 hempty,
              not_lt.1 fun h => hbytes (decide_eq_true h)⟩

theorem keepsReturns_startReturn : KeepsReturns s (startReturn s) := by
  unfold startReturn
  have hnext : (s.ret.sendNumber + 1) % 256 < 256 := Nat.mod_lt _ (by omega)
  split
  · exact .of_entries rfl rfl
  · split
    · exact .of_less rfl List.filter_sublist (.refl _) (.refl _) fun _ => hnext
    · split
      · exact .of_less rfl (.refl _) List.filter_sublist (.refl _) fun _ => hnext
      · split
        · exact .of_entries rfl rfl
        · next e rest hq =>
          refine .of_less rfl (.refl _) (.refl _) ?_ fun _ => hnext
          rw [hq]
          exact List.sublist_cons_self _ _

theorem keepsReturns_takeDone (n : Nat) : KeepsReturns s (takeDone n s) := by
  unfold takeDone
  split
  · split
    · exact .of_less rfl (.refl _) (.refl _) (.refl _) id
    · exact .of_entries rfl rfl
  · exact .of_entries rfl rfl

theorem keepsReturns_requeue (m : FlyingMessage) : KeepsReturns s (requeue m s) := by
  unfold requeue
  split
  · split
    · next h => exact .setTunePending h
    · exact .of_entries rfl rfl
  · split
    · next h =>
      refine .setCuePending ?_
      rw [cueDelivered, Bool.and_eq_true] at h
      exact h.1
    · exact .of_entries rfl rfl
  · exact .of_entries rfl rfl

end

end Sys2Proof.Machine
end

section
/-! SUPPORT. Every command keeps the searches, the host check slots and the return scheduler in order (R23, R26, R99,
R104, R105, R161 to R164). -/

namespace Sys2Proof.Machine

section
variable {s t u : State} {l m : Nat} {e : EnrolledLink}

/-- What O56 and O57 state of a step. -/
structure KeepsOrder (s t : State) : Prop where
  searches : KeepsSearches s t
  slots : (hosting s).Law → (hosting t).Law
  returns : KeepsReturns s t

theorem KeepsOrder.trans (h : KeepsOrder s t) (h' : KeepsOrder t u) : KeepsOrder s u :=
  ⟨h.searches.trans h'.searches, h'.slots ∘ h.slots, h.returns.trans h'.returns⟩

theorem KeepsOrder.of_core (h : core t = core s) : KeepsOrder s t :=
  ⟨.of_eq (searching_of_core h), fun hs => hosting_of_core h ▸ hs, .of_entries (ret_of_core h) (entry_of_core h)⟩

theorem KeepsOrder.after (h : KeepsOrder t u) (hc : core t = core s) : KeepsOrder s u := (of_core hc).trans h

/-- Entries and return scheduler alone are written, and each link's search place stays. -/
theorem KeepsOrder.of_returns (hc : core t = { core s with entries := t.dir.entries, ret := t.ret })
    (hp : ∀ j, (entry t j).place = (entry s j).place) (h : KeepsReturns s t) : KeepsOrder s t where
  searches := by
    refine .of_eq ((searching_of_core (s := { s with dir := t.dir, ret := t.ret }) hc).trans ?_)
    exact congrArg (fun p => { searching s with places := p }) (funext hp)
  slots hs := by
    rw [hosting_of_core (s := { s with dir := t.dir, ret := t.ret }) hc]
    exact hs
  returns := h

theorem KeepsOrder.foldl {α : Type} {f : State → α → State} (hf : ∀ s a, KeepsOrder s (f s a)) (as : List α) :
    KeepsOrder s (as.foldl f s) := by
  induction as generalizing s with
  | nil => exact .of_core rfl
  | cons a as ih => exact (hf s a).trans ih

/-- A request keeps the order that its rule keeps. -/
theorem keepsOrder_takeRequest {p : Port} {c : RequestCode} {rule : State → Verdict}
    (h : ∀ u, KeepsOrder u ((rule u).after u)) (s : State) : KeepsOrder s (takeRequest p c rule s) := by
  have hframe : KeepsOrder s (completeFrame p s) := .of_core (core_completeFrame s p)
  obtain ⟨r, ht | ht⟩ := takeRequest_after s p c rule
  · rw [ht]
    exact (hframe.trans (h _)).trans (.of_core (core_respond _ p r))
  · rw [ht]
    exact hframe.trans (.of_core (core_respond _ p r))

/-! ## Entries and pending sets -/

/-- A link is written without a change of its phase or its return audio output. -/
theorem keepsOrder_updateLink {f : EnrolledLink → EnrolledLink} (hphase : ∀ e, (f e).phase = e.phase)
    (hrole : ∀ e, roleOutput (f e).role = roleOutput e.role) : KeepsOrder s (updateLink l f s) where
  searches := .of_eq (searching_updateLink_same fun e => by rw [hphase])
  slots hs := by rwa [hosting_updateLink]
  returns := keepsReturns_updateLink hrole fun e => by rw [hphase]

theorem place_of_not_enrolled (h : (entry s l).isEnrolled = false) : (entry s l).place = none := by
  cases he : entry s l with
  | enrolled e => rw [he] at h; cases h
  | _ => rfl

/-- An entry that is not ENROLLED is replaced by one that is not in SEEKING. -/
theorem keepsOrder_setEntry {x : LinkEntry} (h : (entry s l).isEnrolled = false) (hx : x.place = none) :
    KeepsOrder s (setEntry l x s) where
  searches := .of_eq (searching_setEntry (hx.trans (place_of_not_enrolled h).symm))
  slots hs := hs
  returns := keepsReturns_setEntry_free h

theorem keepsOrder_setCuePending (h : isCamera s l = true) : KeepsOrder s (setCuePending l s) :=
  .of_returns rfl (fun _ => rfl) (.setCuePending h)

theorem isCamera_of_cueDelivered (h : cueDelivered s l = true) : isCamera s l = true := by
  rw [cueDelivered, Bool.and_eq_true] at h
  exact h.1

/-! ## Tallies and keys -/

theorem keepsOrder_recomputeCue (s : State) (l : Nat) : KeepsOrder s (recomputeCue l s) := by
  unfold recomputeCue
  dsimp only
  split
  · exact .of_core rfl
  · split
    · next h => exact (keepsOrder_setCuePending (isCamera_of_cueDelivered h)).after rfl
    · exact .of_core rfl

theorem keepsOrder_recomputeCues (ls : List Nat) (s : State) : KeepsOrder s (recomputeCues ls s) :=
  .foldl (fun s l => keepsOrder_recomputeCue s l) ls

theorem keepsOrder_takeTally (a : Nat) (f : SourceFlags) : KeepsOrder s (takeTally a f s) := by
  unfold takeTally
  split
  · exact .of_core rfl
  · dsimp only
    split
    · exact (keepsOrder_recomputeCue _ _).after rfl
    · exact .of_core rfl

theorem keepsOrder_tallyMapRule (a l : Nat) (s : State) : KeepsOrder s ((tallyMapRule a l s).after s) := by
  unfold tallyMapRule
  dsimp only
  split
  · exact .of_core rfl
  · exact (keepsOrder_recomputeCues _ _ : KeepsOrder { s with tally.map := _ } _).after rfl

theorem keepsOrder_tallyOverrideRule (l o : Nat) (s : State) : KeepsOrder s ((tallyOverrideRule l o s).after s) := by
  unfold tallyOverrideRule
  split
  · exact .of_core rfl
  · split
    · exact .of_core rfl
    · next o' _ =>
      split
      · next e he =>
        have hset : KeepsOrder s (setEntry l (.enrolled { e with tally := o' }) s) := by
          rw [← updateLink_enrolled s (fun e => { e with tally := o' }) he]
          exact keepsOrder_updateLink (fun _ => rfl) fun _ => rfl
        exact hset.trans (keepsOrder_recomputeCue _ _)
      · exact .of_core rfl

theorem keepsOrder_activateKey (k : Nat) (s : State) : KeepsOrder s (activateKey k s) := by
  unfold activateKey
  dsimp only
  refine (KeepsOrder.trans ?_ (keepsOrder_recomputeCues _ _)).trans (.of_core (core_refreshStatuses _))
  exact (KeepsOrder.of_core (core_setKey ..)).trans (.of_core (core_foldl _ (fun s l => core_requestFeed s k l) _))

theorem keepsOrder_deactivateKey (k : Nat) (s : State) : KeepsOrder s (deactivateKey k s) := by
  unfold deactivateKey
  dsimp only
  refine (KeepsOrder.trans ?_ (keepsOrder_recomputeCues _ _)).trans (.of_core (core_refreshStatuses _))
  exact (KeepsOrder.of_core (core_setKey ..)).trans (.of_core (core_foldl _ (fun s l => core_withdrawFeed s k l) _))

theorem keepsOrder_pressKey (k : Nat) (s : State) : KeepsOrder s (pressKey k s) := by
  unfold pressKey
  dsimp only
  split
  · exact keepsOrder_activateKey k s
  · exact keepsOrder_deactivateKey k s
  · exact .of_core rfl

theorem keepsOrder_liftKey (k : Nat) (s : State) : KeepsOrder s (liftKey k s) := by
  unfold liftKey
  dsimp only
  split
  · exact keepsOrder_deactivateKey k s
  · exact .of_core rfl

/-! ## The engine -/

theorem keepsOrder_startHead (s : State) : KeepsOrder s (startHead s) :=
  ⟨keepsSearches_startHead s, hostingLaw_startHead, keepsReturns_startHead⟩

theorem keepsOrder_evaluateRunning (s : State) : KeepsOrder s (evaluateRunning s) :=
  ⟨keepsSearches_evaluateRunning s, hostingLaw_evaluateRunning, keepsReturns_evaluateRunning s⟩

theorem keepsOrder_abortRetune (s : State) (result : RetuneResult) (l : Nat) :
    KeepsOrder s (abortRetune result l s) :=
  ⟨keepsSearches_abortRetune s result l, hostingLaw_abortRetune result, keepsReturns_abortRetune s result l⟩

theorem keepsOrder_startSeeking (o : Origin) (k : Bool) (he : entry s l = .enrolled e) (hp : e.phase = .none) :
    KeepsOrder s (startSeeking o k l s) where
  searches := keepsSearches_startSeeking o k he (by rw [hp]; rfl)
  slots h := by rwa [hosting_startSeeking]
  returns := keepsReturns_startSeeking o k (by rw [newCarrierOf_enrolled he, hp]; rfl)

theorem keepsOrder_enterOrdered (r : RetuneRecord) (n : Nat) (he : entry s l = .enrolled e) (hp : e.phase = .none) :
    KeepsOrder s (enterOrdered r n l s) where
  searches := .leave (by rw [place_of_entry he, hp]; exact nofun) (searching_enterOrdered r n)
  slots h := by rwa [hosting_enterOrdered]
  returns := keepsReturns_enterOrdered r n he

theorem keepsOrder_completeRetune (r : RetuneRecord) {n : Nat} (h : newCarrierOf s l = some n) :
    KeepsOrder s (completeRetune r n l s) := by
  have horder : ∃ e r', entry s l = .enrolled e ∧ e.phase = .ordered r' n := by
    unfold newCarrierOf at h
    split at h
    · next e he =>
      split at h
      · next r' n' hp =>
        cases h
        exact ⟨e, r', enrolledLink_eq_some.1 he, hp⟩
      · cases h
    · cases h
  obtain ⟨e, r', he, hp⟩ := horder
  exact ⟨keepsSearches_completeRetune he hp, fun h => by rwa [hosting_completeRetune], keepsReturns_completeRetune r n⟩

/-! ## Presence -/

theorem keepsOrder_setCueOfCamera (b : Bool) (l : Nat) (s : State) :
    KeepsOrder s (if b && isCamera s l then setCuePending l s else s) := by
  split
  · next h => exact keepsOrder_setCuePending (Bool.and_eq_true_iff.1 h).2
  · exact .of_core rfl

theorem keepsOrder_setPresence (l : Nat) (p : Presence) (s : State) : KeepsOrder s (setPresence l p s) := by
  unfold setPresence
  split
  · exact .of_core rfl
  · next e _ =>
    split
    · exact .of_core rfl
    · dsimp only
      have hupdate : KeepsOrder s (markChanged l (updateLink l (fun e => { e with presence := p }) s)) :=
        KeepsOrder.trans (keepsOrder_updateLink (f := fun e => { e with presence := p }) (fun _ => rfl) fun _ => rfl)
          (.of_core (core_markChanged _ l))
      refine KeepsOrder.trans ?_ (keepsOrder_setCueOfCamera _ l _)
      split
      · exact hupdate.trans (.of_core rfl)
      · exact hupdate

theorem keepsOrder_stopDelay (l : Nat) (s : State) : KeepsOrder s (stopDelay l s) :=
  keepsOrder_updateLink (fun _ => rfl) fun _ => rfl

theorem keepsOrder_noteReport (l r m : Nat) (s : State) : KeepsOrder s (noteReport l r m s) :=
  keepsOrder_updateLink (fun _ => rfl) fun _ => rfl

theorem keepsOrder_applyPresence (l : Nat) (e : EnrolledLink) (r : HeardReport) (s : State) :
    KeepsOrder s (applyPresence l e r s) := by
  unfold applyPresence goodReport weakReport
  dsimp only
  split
  · refine (KeepsOrder.trans ?_ (keepsOrder_stopDelay l _)).trans (keepsOrder_setPresence ..)
    exact (keepsOrder_noteReport ..).trans (keepsOrder_updateLink (fun _ => rfl) fun _ => rfl)
  · split
    · exact (keepsOrder_noteReport ..).trans (keepsOrder_setPresence ..)
    · exact keepsOrder_noteReport ..

theorem keepsOrder_setMismatch (l n : Nat) (s : State) : KeepsOrder s (setMismatch l n s) :=
  keepsOrder_updateLink (fun _ => rfl) fun e => by dsimp only; cases e.role <;> rfl

theorem keepsOrder_compareEcho (l : Nat) (echo : Option Cue) (s : State) : KeepsOrder s (compareEcho l echo s) := by
  unfold compareEcho
  split
  · next e c he =>
    split
    · exact .of_core rfl
    · next o count hr =>
      split
      · exact keepsOrder_setMismatch ..
      · split
        · exact .of_core rfl
        · dsimp only
          have hl := entry_updateLink_self (fun e => { e with role := match e.role with
            | .camera o _ => .camera o (min Config.countStop (count + 1))
            | .mic => .mic }) (enrolledLink_eq_some.1 he)
          have hcam : isCamera (setMismatch l (min Config.countStop (count + 1)) s) l = true := by
            refine (isCamera_enrolled hl).trans ?_
            rw [hr]
            rfl
          have hcue := (keepsOrder_setMismatch l _ s).trans (keepsOrder_setCuePending hcam)
          split
          · exact hcue.trans (.of_core rfl)
          · exact hcue
  · exact .of_core rfl

theorem keepsOrder_startDelay {e' : EnrolledLink} (he : entry s l = .enrolled e') (hphase : e'.phase = e.phase) :
    KeepsOrder s (startDelay l e s) := by
  unfold startDelay
  split
  · next h =>
    rw [Bool.and_eq_true, beq_iff_eq] at h
    split
    · exact keepsOrder_startSeeking _ _ he (hphase.trans h.2)
    · exact keepsOrder_updateLink (fun _ => rfl) fun _ => rfl
  · exact .of_core rfl

end

end Sys2Proof.Machine
end

section
/-! SUPPORT. Reports, expiries, retunes and the directory's requests keep the order; so does every command and every
step (R23, R26, R99, R104, R105, R161 to R164). -/

namespace Sys2Proof.Machine

/-! ## No request, no seeking link -/

theorem Searching.law_empty : Searching.Law ⟨[], fun _ => none, [], []⟩ where
  finds := nofun
  linksOnce := .nil
  waitOnce := .nil
  inEngine _ := ⟨nofun, nofun⟩
  waiting _ := ⟨nofun, nofun⟩
  within := Nat.zero_le 2
  served _ := rfl

theorem Searching.inOrder_empty : Searching.InOrder ⟨[], fun _ => none, [], []⟩ := ⟨.nil, fun _ => ⟨nofun, nofun⟩, .nil⟩

theorem Hosting.law_empty : Hosting.Law ⟨[], none, Vector.replicate 4 .empty⟩ where
  queued k job := ⟨fun h => (by cases (look_replicate_default rfl k).symm.trans h), nofun⟩
  running k job := ⟨fun h => (by cases (look_replicate_default rfl k).symm.trans h), nofun⟩
  once := .nil

section
variable {s t u : State} {l m : Nat} {e : EnrolledLink}

/-- A state whose engine is as after reset and whose links do not seek. -/
theorem keepsOrder_of_idle (he : t.engine = .reset) (hw : t.retune.waitList = []) (hs : t.retune.seekOrder = [])
    (hp : ∀ j, (entry t j).place = none) (h : KeepsReturns s t) : KeepsOrder s t := by
  have hsearch : searching t = ⟨[], fun _ => none, [], []⟩ := by
    rw [searching, engineRequests_eq, he, hw, hs, funext hp]
    rfl
  have hhost : hosting t = ⟨[], none, Vector.replicate 4 .empty⟩ := by
    rw [hosting, he]
    rfl
  exact ⟨⟨fun _ => hsearch ▸ Searching.law_empty, fun _ _ => hsearch ▸ Searching.inOrder_empty⟩,
    fun _ => hhost ▸ Hosting.law_empty, h⟩

theorem keepsOrder_warmRestart (s : State) : KeepsOrder s (warmRestart s) := by
  have hret : (warmRestart s).ret = { s.ret with tunePending := [], cuePending := [], passQueue := [] } := by
    rw [warmRestart_eq]
  refine keepsOrder_of_idle (by rw [warmRestart_eq]) (by rw [warmRestart_eq]) (by rw [warmRestart_eq]) (fun j => ?_)
    ⟨fun ⟨_, _, _, hn, _⟩ => ?_, fun _ => ?_⟩
  · rw [entry_warmRestart]
    cases entry s j <;> rfl
  · rw [ReturnInOrder, hret]
    exact ⟨⟨.nil, nofun⟩, ⟨.nil, nofun⟩, Nat.zero_le 16, hn, nofun⟩
  · rw [PendingLinksFit, hret]
    exact ⟨nofun, nofun⟩

theorem keepsOrder_hardwareReset (s : State) :
    KeepsOrder s { State.reset with pending := s.pending, arriving := s.arriving } :=
  keepsOrder_of_idle rfl rfl rfl
    (fun j => congrArg LinkEntry.place (entry_reset j))
    ⟨fun _ => ⟨⟨.nil, nofun⟩, ⟨.nil, nofun⟩, Nat.zero_le 16, Nat.zero_lt_succ 255, nofun⟩, fun _ => ⟨nofun, nofun⟩⟩

/-! ## Expiries and retunes -/

theorem keepsOrder_fade (he : entry s l = .enrolled e) : KeepsOrder s (fade l e s) := by
  unfold fade
  split
  · exact keepsOrder_setPresence ..
  · exact (keepsOrder_setPresence l .fading s).trans (keepsOrder_startDelay (entry_setPresence_self .fading he) rfl)

theorem keepsOrder_automaticRetune (he : entry s l = .enrolled e) (hp : e.phase = .none) :
    KeepsOrder s (startSeeking .automatic false l (stopDelay l s)) :=
  (keepsOrder_stopDelay l s).trans
    (keepsOrder_startSeeking _ _ (entry_updateLink_self (fun e => { e with delayTimer := none }) he) hp)

theorem keepsOrder_linkRetuneRule (l n k : Nat) (s : State) : KeepsOrder s ((linkRetuneRule l n k s).after s) := by
  unfold linkRetuneRule
  dsimp only
  split
  · exact .of_core rfl
  · split
    · exact .of_core rfl
    · split
      · next e he =>
        split
        · next hp =>
          have hstop : KeepsOrder s (updateLink l (fun e => { e with delayTimer := none }) s) :=
            keepsOrder_stopDelay l s
          have hl := entry_updateLink_self (fun e => { e with delayTimer := none }) he
          split
          · exact hstop.trans (keepsOrder_startSeeking _ _ hl hp)
          · split
            · exact .of_core rfl
            · next v hopen =>
              obtain ⟨c, -, rfl⟩ := openOnTarget_eq_some.1 hopen
              refine hstop.trans (KeepsOrder.after (keepsOrder_enterOrdered _ _ hl hp) ?_)
              simp
        · exact .of_core rfl
      · exact .of_core rfl

theorem keepsOrder_linkHaltRule (l : Nat) (s : State) : KeepsOrder s ((linkHaltRule l s).after s) := by
  unfold linkHaltRule
  split
  · exact .of_core rfl
  · split
    · split
      · exact .of_core rfl
      · exact keepsOrder_abortRetune s .halted l
    · exact .of_core rfl

/-! ## Reports -/

theorem newCarrierOf_of_whereLies {f n : Nat} {r : RetuneRecord} (he : entry s l = .enrolled e)
    (h : whereLies s e f = .onNewCarrier r n) : newCarrierOf s l = some n := by
  rw [newCarrierOf_enrolled he]
  unfold whereLies at h
  dsimp only at h
  split at h
  · next r' n' hp =>
    split at h
    · cases h; rw [hp]; rfl
    · split at h <;> cases h
  · split at h <;> cases h

theorem keepsOrder_reportEnrolled (r : HeardReport) (he : entry s l = .enrolled e) :
    KeepsOrder s (reportEnrolled l e r s) := by
  unfold reportEnrolled
  split
  · exact .of_core (core_capture ..)
  · exact (keepsOrder_applyPresence ..).trans (keepsOrder_compareEcho ..)
  · next rec_ n hlies =>
    dsimp only
    refine KeepsOrder.trans ?_ (keepsOrder_compareEcho ..)
    have hnew : newCarrierOf (applyPresence l e r s) l = some n :=
      (newCarrierOf_standing (standing_applyPresence s l e r) l).trans (newCarrierOf_of_whereLies he hlies)
    split
    · exact (keepsOrder_applyPresence ..).trans (keepsOrder_completeRetune rec_ hnew)
    · exact keepsOrder_applyPresence ..

theorem keepsOrder_admitStranger (r : HeardReport) (s : State) : KeepsOrder s (admitStranger r s) := by
  unfold admitStranger
  split
  · next i hi =>
    have hfree : (entry s i).isEnrolled = false := by simpa using List.find?_some hi
    exact (keepsOrder_setEntry hfree rfl).trans (.of_core rfl)
  · exact .of_core rfl

theorem keepsOrder_handleReport (r : HeardReport) (s : State) : KeepsOrder s (handleReport r s) := by
  unfold handleReport
  split
  · split
    · next he => exact keepsOrder_reportEnrolled r he
    · next hn => exact keepsOrder_setEntry (by rw [hn]; rfl) rfl
    · exact .of_core rfl
  · dsimp only
    have hcapture : KeepsOrder s (capture .unknown r s) := .of_core (core_capture ..)
    split
    · exact hcapture.trans (keepsOrder_admitStranger r _)
    · exact hcapture

/-! ## The directory's requests -/

theorem keepsOrder_linkNoteRule (l x k : Nat) (s : State) : KeepsOrder s ((linkNoteRule l x k s).after s) := by
  unfold linkNoteRule
  split
  · exact .of_core rfl
  · split
    · exact .of_core rfl
    · next k' _ =>
      dsimp only
      split
      · exact .of_core rfl
      · next hfree =>
        split
        · exact .of_core rfl
        · have hnoted : (notedEntry (entry s l) x k').place = none := by
            unfold notedEntry
            split
            · split <;> rfl
            · rfl
          have hset : KeepsOrder s (setEntry l (notedEntry (entry s l) x k') s) :=
            keepsOrder_setEntry (by simpa using hfree) hnoted
          rw [after_accept]
          split
          · exact hset
          · exact hset.trans (.of_core rfl)

theorem keepsOrder_linkEnrollRule (l x k i : Nat) (q : LinkParams) (o : Nat) (s : State) :
    KeepsOrder s ((linkEnrollRule l x k i q o s).after s) := by
  unfold linkEnrollRule
  split
  · exact .of_core rfl
  · split
    · next role settings _ _ =>
      split
      · exact .of_core rfl
      · next hfree =>
        split
        · exact .of_core rfl
        · split
          · exact .of_core rfl
          · split
            · exact .of_core rfl
            · next v hbind =>
              obtain ⟨c, -, rfl⟩ := bindRecord_eq_some.1 hbind
              have hset := keepsOrder_setEntry (s := markStale (setRecord i (.active c l) s)) (l := l)
                (x := .enrolled (enrolledEntry x role i settings)) (by simpa using hfree) rfl
              refine KeepsOrder.after (t := markStale (setRecord i (.active c l) s)) ?_ (by simp)
              refine hset.trans ((KeepsOrder.after (keepsOrder_recomputeCue _ l) ?_).trans
                (.of_core (core_statusesAfter ..)))
              rw [core_becomeDestination, core_markChanged]
    · exact .of_core rfl

theorem keepsOrder_linkSetRule (l : Nat) (q : LinkParams) (s : State) :
    KeepsOrder s ((linkSetRule l q s).after s) := by
  unfold linkSetRule
  split
  · exact .of_core rfl
  · split
    · next e he =>
      split
      · next settings _ =>
        rw [after_accept, ← updateLink_enrolled s (withSettings settings) he]
        exact keepsOrder_updateLink (fun _ => rfl) fun _ => rfl
      · exact .of_core rfl
    · exact .of_core rfl

/-- A link's entry is written and the link leaves the CUE set and the PASS queue, when it has no new carrier (R75). -/
theorem keepsReturns_removeLink (hne : ∀ j ≠ l, entry t j = entry s j)
    (hret : t.ret = { s.ret with
      cuePending := setRemove l s.ret.cuePending
      passQueue := s.ret.passQueue.filter fun e => e.link != l }) (hnew : newCarrierOf s l = none) :
    KeepsReturns s t where
  order := by
    rintro ⟨htune, ⟨hc, hcb⟩, hlen, hn, hp⟩
    rw [ReturnInOrder, hret]
    exact ⟨htune, ⟨hc.sublist List.filter_sublist, fun x hx => hcb x (List.mem_filter.1 hx).1⟩,
      (List.length_filter_le ..).trans hlen, hn, fun e he => hp e (List.mem_filter.1 he).1⟩
  pending h := by
    rw [PendingLinksFit, hret]
    refine ⟨fun m hm => ?_, fun m hm => ?_⟩
    · have hml : m ≠ l := fun hml => not_mem_tunePending h hnew (hml ▸ hm)
      exact (tuneWanted_of_entry (hne m hml)).trans (h.1 m hm)
    · obtain ⟨hm, hml⟩ := (mem_setRemove ..).1 hm
      exact (isCamera_of_entry (hne m hml)).trans (h.2 m hm)

theorem core_unbind (l : Nat) (s : State) :
    core (unbind l s) = { core s with entries := (unbind l s).dir.entries } := by
  unfold unbind
  split
  · next e _ =>
    exact congrArg (fun c => { c with entries := put (releaseRecord e.carrier s).dir.entries l (retiredEntry e) })
      (core_releaseRecord s e.carrier)
  · rfl

theorem entry_unbind_ne {j : Nat} (hj : j ≠ l) : entry (unbind l s) j = entry s j := by
  unfold unbind
  split
  · next e _ =>
    rw [entry_setEntry, if_neg fun h => hj h.1.symm, entry_of_core (core_releaseRecord s e.carrier)]
  · rfl

/-- What follows the abort in a retirement (R75, R149, R161). -/
theorem keepsOrder_unbind (o : Option Nat) (hp : (entry s l).place = none) (hnew : newCarrierOf s l = none) :
    KeepsOrder s (removePasses l (removeCuePending l (leaveDestination l o (darken l (unbind l s))))) := by
  generalize hw : leaveDestination l o (darken l (unbind l s)) = w
  have hunbind : core w = core (unbind l s) := by rw [← hw, core_leaveDestination, core_darken]
  have hentries : w.dir.entries = (unbind l s).dir.entries := congrArg Core.entries hunbind
  have hcore : core w = { core s with entries := w.dir.entries } := by rw [hunbind, hentries, ← core_unbind]
  have hret : w.ret = s.ret := congrArg Core.ret hcore
  have hentry (j : Nat) : entry w j = entry (unbind l s) j := congrFun (entry_of_core hunbind) j
  refine .of_returns (congrArg (fun c : Core => { c with ret := (removePasses l (removeCuePending l w)).ret }) hcore)
    (fun j => ?_) (keepsReturns_removeLink (fun j hj => (hentry j).trans (entry_unbind_ne hj)) ?_ hnew)
  · refine (congrArg LinkEntry.place (hentry j)).trans ?_
    by_cases hj : j = l
    · rw [hj, hp, place_of_not_enrolled (isEnrolled_unbind s l)]
    · rw [entry_unbind_ne hj]
  · rw [← hret]
    rfl

theorem keepsOrder_retire (l : Nat) (s : State) : KeepsOrder s (retire l s) := by
  unfold retire
  dsimp only
  have habort := keepsOrder_abortRetune s .retired l
  have hunbind := keepsOrder_unbind (s := abortRetune .retired l s) (l := l) (cameraOutput s l)
    (place_abortRetune ..) (newCarrierOf_abortRetune ..)
  exact (habort.trans hunbind).trans (.of_core (by rw [core_markChanged, core_statusesAfter]))

theorem keepsOrder_vacate (h : (entry s l).isEnrolled = false) : KeepsOrder s (vacate l s) :=
  (keepsOrder_setEntry h rfl).trans (.of_core (core_markChanged ..))

theorem keepsOrder_linkRetireRule (l : Nat) (s : State) : KeepsOrder s ((linkRetireRule l s).after s) := by
  unfold linkRetireRule
  split_ifs
  · exact .of_core rfl
  · exact keepsOrder_retire l s
  · exact .of_core rfl

theorem keepsOrder_linkEraseRule (l : Nat) (s : State) : KeepsOrder s ((linkEraseRule l s).after s) := by
  unfold linkEraseRule
  split
  · exact .of_core rfl
  · split
    · exact .of_core rfl
    · next hn => exact keepsOrder_vacate (by rw [hn]; rfl)
    · exact (keepsOrder_retire l s).trans (keepsOrder_vacate (isEnrolled_retire s l))

end

/-! ## The host check slots and the return port -/

section
variable {s : State} {k : Nat} {job : Job}

/-- Host requests of the engine alone change; the links and their searches do not. -/
theorem KeepsOrder.of_host {t : State} (hs : searching t = searching s) (h : (hosting s).Law → (hosting t).Law)
    (he : entry t = entry s) (hr : t.ret = s.ret) : KeepsOrder s t :=
  ⟨.of_eq hs, h, .of_entries hr he⟩

theorem keepsOrder_queueHost (hk : freeSlot s = some k) : KeepsOrder s (queueHost k job s) := by
  refine .of_host ?_ (hostingLaw_queueHost hk) rfl rfl
  simp only [searching, engineRequests_eq, queueHost, enqueue, setSlot, ← List.append_assoc, List.filterMap_append]
  exact congrArg (fun x => { searching s with searches := x }) (List.append_nil _)

theorem keepsOrder_emptyDone {r : EngineResult} (hslot : slotAt s k = .done job r) :
    KeepsOrder s (setSlot k .empty s) :=
  .of_host rfl (hostingLaw_empty hslot) rfl rfl

/-- Requests without a search leave the engine. -/
theorem filterMap_requestSearch_filter (rs : List EngineRequest) (k : Nat) :
    (rs.filter fun r => r.client != .host k).filterMap requestSearch = rs.filterMap requestSearch := by
  rw [List.filterMap_filter]
  refine List.filterMap_congr fun r _ => ?_
  rcases r with ⟨_ | _, _⟩
  · simp
  · rfl

theorem keepsOrder_withdrawHost (hslot : slotAt s k = .queued job) : KeepsOrder s (setSlot k .empty { s with
    engine.queue := s.engine.queue.filter fun r => r.client != .host k }) := by
  refine .of_host ?_ (hostingLaw_withdrawHost hslot) rfl rfl
  simp only [searching, engineRequests_eq, setSlot, List.filterMap_append, filterMap_requestSearch_filter]
  rfl

theorem keepsOrder_abandonHost (hslot : slotAt s k = .running job) : KeepsOrder s (setSlot k .empty { s with
    engine.running := s.engine.running.filter fun r => r.request.client != .host k }) := by
  refine .of_host ?_ (hostingLaw_abandonHost hslot) rfl rfl
  have hrun : (((s.engine.running.filter fun r => r.request.client != .host k).map Running.request).toList).filterMap
      requestSearch = ((s.engine.running.map Running.request).toList).filterMap requestSearch := by
    rw [← filterMap_requestSearch_filter _ k]
    cases s.engine.running with
    | none => rfl
    | some r =>
      cases hr : r.request.client != .host k with
      | true => simp [Option.filter, hr]
      | false => simp [Option.filter, requestSearch, bne_eq_false_iff_eq.1 hr]
  simp only [searching, engineRequests_eq, setSlot, List.filterMap_append, hrun]
  rfl

theorem keepsOrder_checkStartRule (target : CheckTarget) (s : State) :
    KeepsOrder s ((checkStartRule target s).after s) := by
  unfold checkStartRule
  dsimp only
  split
  · split
    · exact .of_core rfl
    · split
      · exact .of_core rfl
      · next hk => exact keepsOrder_queueHost hk
  · split
    · exact .of_core rfl
    · split
      · exact .of_core rfl
      · split
        · exact .of_core rfl
        · next hk => exact keepsOrder_queueHost hk

theorem keepsOrder_findStartRule (g lo up st w lim : Nat) (s : State) :
    KeepsOrder s ((findStartRule g lo up st w lim s).after s) := by
  unfold findStartRule
  split
  · exact .of_core rfl
  · split
    · exact .of_core rfl
    · next hk => exact keepsOrder_queueHost hk

theorem keepsOrder_checkReadRule (k : Nat) (s : State) : KeepsOrder s ((checkReadRule k s).after s) := by
  unfold checkReadRule
  split
  · exact .of_core rfl
  · dsimp only [after_accept]
    split
    · next hslot => exact keepsOrder_emptyDone hslot
    · exact .of_core rfl

theorem keepsOrder_checkCancelRule (k : Nat) (s : State) : KeepsOrder s ((checkCancelRule k s).after s) := by
  unfold checkCancelRule
  split
  · exact .of_core rfl
  · split
    · exact .of_core rfl
    · next hslot => exact keepsOrder_withdrawHost hslot
    · next hslot => exact (keepsOrder_abandonHost hslot).trans (keepsOrder_startHead _)
    · next hslot => exact keepsOrder_emptyDone hslot

end

theorem keepsOrder_keyPressRule (k : Nat) (s : State) : KeepsOrder s ((keyPressRule k s).after s) := by
  unfold keyPressRule
  split
  · exact .of_core rfl
  · exact keepsOrder_pressKey k s

theorem keepsOrder_keyLiftRule (k : Nat) (s : State) : KeepsOrder s ((keyLiftRule k s).after s) := by
  unfold keyLiftRule
  split
  · exact .of_core rfl
  · exact keepsOrder_liftKey k s

/-- The return scheduler alone is written. -/
theorem KeepsOrder.of_ret {s t : State} (hc : core t = { core s with ret := t.ret }) (h : KeepsReturns s t) :
    KeepsOrder s t := by
  have he : t.dir.entries = s.dir.entries := congrArg Core.entries hc
  have hentry (j : Nat) : entry t j = entry s j := by rw [entry, entry, he]
  refine .of_returns (hc.trans ?_) (fun j => congrArg _ (hentry j)) h
  rw [he]
  rfl

theorem keepsOrder_returnPassRule (l : Nat) (payload : List Byte) (s : State) :
    KeepsOrder s ((returnPassRule l payload s).after s) := by
  refine .of_ret ?_ (keepsReturns_returnPassRule payload)
  unfold returnPassRule
  split_ifs <;> rfl

theorem keepsOrder_startReturn (s : State) : KeepsOrder s (startReturn s) := by
  refine .of_ret ?_ keepsReturns_startReturn
  unfold startReturn
  repeat' split
  all_goals rfl

theorem keepsOrder_takeDone (n : Nat) (s : State) : KeepsOrder s (takeDone n s) := by
  refine .of_ret ?_ (keepsReturns_takeDone n)
  unfold takeDone
  repeat' split
  all_goals rfl

theorem keepsOrder_requeue (m : FlyingMessage) (s : State) : KeepsOrder s (requeue m s) := by
  refine .of_ret ?_ (keepsReturns_requeue m)
  unfold requeue
  repeat' split
  all_goals rfl

/-- RETURN_TIMEOUT takes the message out of flight before it is set pending again (R170). -/
theorem keepsOrder_dropFlight (s : State) : KeepsOrder s (raise .returnFault { s with ret.inFlight := none }) :=
  .of_ret rfl (.of_less rfl (.refl _) (.refl _) (.refl _) id)

/-! ## Every command and every step -/

theorem exec_touching_keepsOrder {c : Instr} {s t : State} (htouch : touchesCore c = true) (h : exec c s = .next t) :
    KeepsOrder s t := by
  cases c <;> cases htouch <;> cases h
  case hardwareReset => exact keepsOrder_hardwareReset s
  case runRestart p => exact keepsOrder_takeRequest (rule := runRestartRule) keepsOrder_warmRestart s
  case checkStart p target => exact keepsOrder_takeRequest (keepsOrder_checkStartRule target) s
  case findStart p g lo up st w lim => exact keepsOrder_takeRequest (keepsOrder_findStartRule g lo up st w lim) s
  case checkRead p k => exact keepsOrder_takeRequest (keepsOrder_checkReadRule k) s
  case checkCancel p k => exact keepsOrder_takeRequest (keepsOrder_checkCancelRule k) s
  case engineStart => exact keepsOrder_startHead s
  case candidateEvaluation => exact keepsOrder_evaluateRunning s
  case linkNote p l x k => exact keepsOrder_takeRequest (keepsOrder_linkNoteRule l x k) s
  case linkEnroll p l x k i q o => exact keepsOrder_takeRequest (keepsOrder_linkEnrollRule l x k i q o) s
  case linkSet p l q => exact keepsOrder_takeRequest (keepsOrder_linkSetRule l q) s
  case linkRetire p l => exact keepsOrder_takeRequest (keepsOrder_linkRetireRule l) s
  case linkErase p l => exact keepsOrder_takeRequest (keepsOrder_linkEraseRule l) s
  case heard r =>
    split
    · exact .of_core (core_discardMalformed s _)
    · exact ((keepsOrder_handleReport r _).after (core_completeMessage s .receiver)).trans
        (.of_core (core_moveRover _))
  case fadeExpiry l =>
    split
    · next e he =>
      split
      · exact keepsOrder_fade (enrolledLink_eq_some.1 he)
      · exact .of_core rfl
    · exact .of_core rfl
  case lossExpiry l =>
    split
    · split
      · exact (keepsOrder_stopDelay l s).trans (keepsOrder_setPresence ..)
      · exact .of_core rfl
    · exact .of_core rfl
  case retuneDelayExpiry l =>
    split
    · next e he =>
      split
      · dsimp only
        split
        · next hp => exact keepsOrder_automaticRetune (enrolledLink_eq_some.1 he) hp
        · exact keepsOrder_stopDelay l s
      · exact .of_core rfl
    · exact .of_core rfl
  case linkRetune p l n k => exact keepsOrder_takeRequest (keepsOrder_linkRetuneRule l n k) s
  case linkHalt p l => exact keepsOrder_takeRequest (keepsOrder_linkHaltRule l) s
  case retuneLimitExpiry l =>
    split
    · split
      · split
        · exact keepsOrder_abortRetune s .timeout l
        · exact .of_core rfl
      · exact .of_core rfl
    · exact .of_core rfl
  case mixerTallyMessage a f =>
    split
    · exact .of_core (core_discardMalformed s _)
    · exact (keepsOrder_takeTally _ _).after (core_completeMessage s .mixer)
  case tallyMap p a l => exact keepsOrder_takeRequest (keepsOrder_tallyMapRule a l) s
  case tallyOverride p l o => exact keepsOrder_takeRequest (keepsOrder_tallyOverrideRule l o) s
  case keyDown k =>
    split
    · exact .of_core (core_discardMalformed s _)
    · exact (keepsOrder_pressKey k _).after (core_completeMessage s .keypanel)
  case keyPress p k => exact keepsOrder_takeRequest (keepsOrder_keyPressRule k) s
  case keyUp k =>
    split
    · exact .of_core (core_discardMalformed s _)
    · exact (keepsOrder_liftKey k _).after (core_completeMessage s .keypanel)
  case keyLift p k => exact keepsOrder_takeRequest (keepsOrder_keyLiftRule k) s
  case returnPass p l b => exact keepsOrder_takeRequest (keepsOrder_returnPassRule l b) s
  case returnSendStart => exact keepsOrder_startReturn s
  case doneMessage n => exact (keepsOrder_takeDone n _).after (core_completeMessage s .ret)
  case returnTimeout =>
    split
    · split
      · exact (keepsOrder_dropFlight s).trans (keepsOrder_requeue ..)
      · exact .of_core rfl
    · exact .of_core rfl

theorem exec_keepsOrder {c : Instr} {s t : State} (h : exec c s = .next t) : KeepsOrder s t := by
  cases htouch : touchesCore c with
  | false => exact .of_core (exec_core s htouch h)
  | true => exact exec_touching_keepsOrder htouch h

theorem step_keepsOrder {P : State → Prop} (hP : ∀ {s t}, KeepsOrder s t → P s → P t) {s t : State}
    (h : step s = .next t) (hs : P s) : P t :=
  step_keeps (P := P) (fun _ _ => hP (.of_core rfl)) (fun _ _ _ he => hP (exec_keepsOrder he))
    (fun s => hP (.of_core (core_idle s))) h hs

end Sys2Proof.Machine
end

section
namespace Sys2Proof.Proofs
open Sys2Proof.Machine

/-- Settles O57: both laws speak of the searches of the engine, the seeking links and the wait list alone, and each move
of one of these keeps them, so every step does. -/
theorem stepsKeepSearches : Obligations.StepsKeepSearches := by
  unfold Obligations.StepsKeepSearches
  refine ⟨fun s t hs h => ?_, fun s t hs ho h => ?_⟩
  · exact step_keepsOrder (P := SearchLaw)
      (fun hk hs => searchLaw_iff.2 (hk.searches.law (searchLaw_iff.1 hs))) h hs
  · have hboth := step_keepsOrder (P := fun s => SearchLaw s ∧ SeekingInOrder s) (fun hk hs =>
      ⟨searchLaw_iff.2 (hk.searches.law (searchLaw_iff.1 hs.1)),
        seekingInOrder_iff.2 (hk.searches.order (searchLaw_iff.1 hs.1) (seekingInOrder_iff.1 hs.2))⟩) h ⟨hs, ho⟩
    exact hboth.2

/-- Settles O56: the slots agree with the host requests of the engine through every command, and no link that leaves
ORDERED or the CAMERAs stays pending. -/
theorem stepsKeepSlotsAndReturns : Obligations.StepsKeepSlotsAndReturns := by
  unfold Obligations.StepsKeepSlotsAndReturns
  refine ⟨fun s t hs h => ?_, fun s t h => ⟨?_, ?_⟩⟩
  · exact step_keepsOrder (P := SlotsMatchEngine)
      (fun hk hs => slotsMatchEngine_iff.2 (hk.slots (slotsMatchEngine_iff.1 hs))) h hs
  · exact step_keepsOrder (P := ReturnInOrder) (fun hk => hk.returns.order) h
  · exact step_keepsOrder (P := PendingLinksFit) (fun hk => hk.returns.pending) h

end Sys2Proof.Proofs
end

section
/-! SUPPORT. What the starts of the engine's heads leave alone (R27, R29, R43), and which searches try a candidate. -/

namespace Sys2Proof.Machine

section
variable {s t u : State} {l k : Nat} {r : EngineRequest} {rest : List EngineRequest}

/-! ## The frame of a start -/

/-- The link has no search in the queue and none on the seek wait list. -/
def SearchFree (s : State) (l : Nat) : Prop :=
  (∀ r ∈ s.engine.queue, r.client ≠ .internal l) ∧ l ∉ s.retune.waitList

/-- The slot has no request in the queue. -/
def RequestFree (s : State) (k : Nat) : Prop := ∀ r ∈ s.engine.queue, r.client ≠ .host k

/-- From `s` to `t` tallies, feeds and the capture slot stay, and of the links and slots those for which nothing waits;
nothing waits for them then either. -/
structure StartFrame (s t : State) : Prop where
  tally : t.tally = s.tally
  talk : t.talk = s.talk
  capture : t.dir.capture = s.dir.capture
  entries : ∀ l, SearchFree s l → SearchFree t l ∧ entry t l = entry s l
  slots : ∀ k, RequestFree s k → RequestFree t k ∧ slotAt t k = slotAt s k

theorem StartFrame.refl (s : State) : StartFrame s s := ⟨rfl, rfl, rfl, fun _ h => ⟨h, rfl⟩, fun _ h => ⟨h, rfl⟩⟩

theorem StartFrame.trans (h : StartFrame s t) (h' : StartFrame t u) : StartFrame s u where
  tally := h'.tally.trans h.tally
  talk := h'.talk.trans h.talk
  capture := h'.capture.trans h.capture
  entries l hl := ⟨(h'.entries l (h.entries l hl).1).1, (h'.entries l (h.entries l hl).1).2.trans (h.entries l hl).2⟩
  slots k hk := ⟨(h'.slots k (h.slots k hk).1).1, (h'.slots k (h.slots k hk).1).2.trans (h.slots k hk).2⟩

@[simp] theorem capture_updateLink (f : EnrolledLink → EnrolledLink) :
    (updateLink l f s).dir.capture = s.dir.capture := by unfold updateLink; split <;> rfl

theorem SearchFree.ne_head {job : Job} (h : SearchFree s k) (hq : s.engine.queue = ⟨.internal l, job⟩ :: rest) :
    k ≠ l := fun hkl => h.1 _ (by rw [hq]; exact List.mem_cons_self) (by rw [hkl])

theorem startFrame_serveWaitList (s : State) : StartFrame s (serveWaitList s) := by
  unfold serveWaitList
  split
  · exact .refl s
  · next m rest hw =>
    split
    · unfold queueSearch
      split
      · next e _ =>
        refine ⟨by rw [setPlace_frame]; rfl, by rw [setPlace_frame]; rfl, capture_updateLink _, fun j hj => ?_,
          fun j hj => ?_⟩
        · rw [SearchFree, hw, List.mem_cons, not_or] at hj
          obtain ⟨hqueue, hjm, hwait⟩ := hj
          refine ⟨⟨fun r hr => ?_, by rwa [setPlace_retune]⟩, entry_setPlace_ne _ hjm⟩
          rw [setPlace_engine] at hr
          rcases List.mem_append.1 hr with hr | hr
          · exact hqueue r hr
          · rw [List.mem_singleton.1 hr]
            exact fun h => hjm (Client.internal.inj h).symm
        · refine ⟨fun r hr => ?_, by rw [slotAt, setPlace_engine]; rfl⟩
          rw [setPlace_engine] at hr
          rcases List.mem_append.1 hr with hr | hr
          · exact hj r hr
          · rw [List.mem_singleton.1 hr]
            exact nofun
      · refine ⟨rfl, rfl, rfl, fun j hj => ⟨⟨hj.1, fun h => hj.2 ?_⟩, rfl⟩, fun j hj => ⟨hj, rfl⟩⟩
        rw [hw]
        exact List.mem_cons_of_mem m h
    · exact .refl s

/-- A result NONE that is not stale ends the retune of a seeking link (R107). -/
theorem applySearchResult_none (l tried : Nat) (w : Option Conflict) (s : State) :
    applySearchResult l ⟨none, tried, w, false⟩ s = endRetune .noCarrier l s ∨
      applySearchResult l ⟨none, tried, w, false⟩ s = s := by
  unfold applySearchResult
  split
  · split
    · exact .inl rfl
    · exact .inr rfl
  · exact .inr rfl

/-- A head that tries no candidate is taken from the queue and its result NONE delivered (R43). -/
theorem startFrame_deliverNone (hq : s.engine.queue = r :: rest) :
    StartFrame s (deliverResult r (.find ⟨none, 0, none, false⟩) (beginRequest r rest s)) := by
  have hmem {c : Client} (h : ∀ q ∈ s.engine.queue, q.client ≠ c) : ∀ q ∈ rest, q.client ≠ c :=
    fun q hqr => h q (by rw [hq]; exact List.mem_cons_of_mem r hqr)
  obtain ⟨client, job⟩ := r
  cases client with
  | host k =>
    refine ⟨rfl, rfl, rfl, fun j hj => ⟨⟨hmem hj.1, hj.2⟩, rfl⟩, fun j hj => ⟨hmem hj, ?_⟩⟩
    have hjk : k ≠ j := fun hkj => hj _ (by rw [hq]; exact List.mem_cons_self) (by rw [hkj])
    refine (slotAt_setSlot _ k j _).trans ((if_neg fun h => hjk h.1).trans ?_)
    exact (slotAt_setSlot _ k j _).trans (if_neg fun h => hjk h.1)
  | internal l =>
    refine StartFrame.trans ?_ (startFrame_serveWaitList _)
    have hfree (j : Nat) (hj : SearchFree s j) : SearchFree { s with engine.queue := rest, engine.running := none } j :=
      ⟨hmem hj.1, hj.2⟩
    change StartFrame s (applySearchResult l ⟨none, 0, none, false⟩ { s with
      engine.queue := rest, engine.running := none })
    obtain h | h := applySearchResult_none l 0 none { s with engine.queue := rest, engine.running := none }
    · rw [h]
      refine ⟨by rw [endRetune_eq], by rw [endRetune_eq], by rw [endRetune_eq]; exact capture_updateLink _,
        fun j hj => ⟨⟨?_, ?_⟩, entry_endRetune_ne _ (hj.ne_head hq)⟩, fun j hj => ⟨?_, ?_⟩⟩
      · rw [endRetune_eq]; exact (hfree j hj).1
      · rw [endRetune_eq]; exact fun hm => hj.2 ((mem_setRemove ..).1 hm).1
      · unfold RequestFree; rw [endRetune_eq]; exact hmem hj
      · rw [slotAt, endRetune_eq]; rfl
    · rw [h]
      exact ⟨rfl, rfl, rfl, fun j hj => ⟨hfree j hj, rfl⟩, fun j hj => ⟨hmem hj, rfl⟩⟩

theorem startFrame_beginRequest (hq : s.engine.queue = r :: rest) : StartFrame s (beginRequest r rest s) := by
  have hmem {c : Client} (h : ∀ q ∈ s.engine.queue, q.client ≠ c) : ∀ q ∈ rest, q.client ≠ c :=
    fun q hqr => h q (by rw [hq]; exact List.mem_cons_of_mem r hqr)
  obtain ⟨client, job⟩ := r
  cases client with
  | host k =>
    refine ⟨rfl, rfl, rfl, fun j hj => ⟨⟨hmem hj.1, hj.2⟩, rfl⟩, fun j hj => ⟨hmem hj, ?_⟩⟩
    refine (slotAt_setSlot _ k j _).trans (if_neg fun h => ?_)
    exact hj _ (by rw [hq]; exact List.mem_cons_self) (by rw [h.1])
  | internal l => exact ⟨rfl, rfl, rfl, fun j hj => ⟨⟨hmem hj.1, hj.2⟩, rfl⟩, fun j hj => ⟨hmem hj, rfl⟩⟩

theorem startFrame_startHeads (n : Nat) (s : State) : StartFrame s (startHeads n s) := by
  induction n generalizing s with
  | zero => exact .refl s
  | succ n ih =>
    unfold startHeads
    split
    · next hq =>
      dsimp only
      split
      · exact (startFrame_deliverNone hq).trans (ih _)
      · exact startFrame_beginRequest hq
    · exact .refl s

theorem startFrame_startHead (s : State) : StartFrame s (startHead s) := startFrame_startHeads _ s

/-! ## Where a search stops -/

theorem searchStops_iff {q : Search} {i : Nat} :
    searchStops q i = true ↔ q.upper < q.lower + q.halfWidth + i * q.step + q.halfWidth ∨ q.limit ≤ i := by
  simp [searchStops]

theorem triesNone_find {q : Search} :
    triesNone (.find q) = true ↔ q.upper < q.lower + q.halfWidth + q.halfWidth ∨ q.limit = 0 := by
  simp [triesNone, searchStops]

/-- A search goes on after candidate `i` exactly when the next one stays in the window and below the limit (R43). -/
theorem searchStops_succ {q : Search} {i : Nat} : searchStops q (i + 1) = true ↔
    q.upper < q.lower + q.halfWidth + i * q.step + q.step + q.halfWidth ∨ q.limit ≤ i + 1 := by
  rw [searchStops_iff, Nat.succ_mul, ← Nat.add_assoc]

/-! ## Evaluations of the running request -/

section
variable {run : Running} {q : Search}

theorem evaluateRunning_check {named : Option Nat} {c : Carrier} (hr : s.engine.running = some run)
    (hj : run.request.job = .check named c) : evaluateRunning s =
      completeRequest run.request (.check (checkResult (conflicts s named c) run.stale)) s := by
  simp only [evaluateRunning, hr, hj]

theorem evaluateRunning_clear (hr : s.engine.running = some run) (hj : run.request.job = .find q)
    (hc : conflicts s none (searchCandidate q run.evaluated) = []) : evaluateRunning s = completeRequest run.request
      (.find ⟨some (searchCandidate q run.evaluated).centre, run.evaluated + 1, none, run.stale⟩) s := by
  simp only [evaluateRunning, hr, hj, hc, List.isEmpty_nil, if_true]

theorem evaluateRunning_stops (hr : s.engine.running = some run) (hj : run.request.job = .find q)
    (hc : conflicts s none (searchCandidate q run.evaluated) ≠ []) (hs : searchStops q (run.evaluated + 1) = true) :
    evaluateRunning s = completeRequest run.request (.find ⟨none, run.evaluated + 1,
      (worstOf (conflicts s none (searchCandidate q run.evaluated))).map recorded, run.stale⟩) s := by
  have hne : (conflicts s none (searchCandidate q run.evaluated)).isEmpty = false := by simpa using hc
  simp only [evaluateRunning, hr, hj, hne, hs, Bool.false_eq_true, if_false, if_true]

theorem evaluateRunning_goesOn (hr : s.engine.running = some run) (hj : run.request.job = .find q)
    (hc : conflicts s none (searchCandidate q run.evaluated) ≠ []) (hs : searchStops q (run.evaluated + 1) = false) :
    evaluateRunning s = { s with engine.running := some { run with evaluated := run.evaluated + 1 } } := by
  have hne : (conflicts s none (searchCandidate q run.evaluated)).isEmpty = false := by simpa using hc
  simp only [evaluateRunning, hr, hj, hne, hs, Bool.false_eq_true, if_false]

/-- A host request completes: its slot is DONE with the result, CHECK_END is raised and the engine starts its head
(R29). -/
theorem completeRequest_host {req : EngineRequest} (hk : req.client = .host k) (result : EngineResult) :
    completeRequest req result s = startHead { s with
      engine.running := none
      engine.slots := put s.engine.slots k (.done req.job result)
      ctl.causes := s.ctl.causes ||| causeOnly .checkEnd } := by
  rw [completeRequest, deliverResult, hk]
  rfl

end

end

end Sys2Proof.Machine
end

section
namespace Sys2Proof.Proofs
open Sys2Proof.Machine

/-- Settles O14: a head that tries a candidate begins, one that tries none is delivered NONE and gives way to the next,
and an evaluation is one of the four branches of `evaluateRunning`. -/
theorem engineStartsAndEvaluations : Obligations.EngineStartsAndEvaluations := by
  unfold Obligations.EngineStartsAndEvaluations
  refine ⟨fun s r rest hr hq => ⟨fun htries => ?begins, fun k q hk hj hnone => ?triesNone⟩, fun s hs => ?kept,
    fun s => ⟨startHead s, rfl, ?settled, plan_of_standing (standing_startHead s),
      congrArg Settings.survey (settings_of_standing (standing_startHead s)), (startFrame_startHead s).tally,
      (startFrame_startHead s).talk, startHead_ret s, (startFrame_startHead s).capture,
      fun l hq hw => ((startFrame_startHead s).entries l ⟨hq, hw⟩).2,
      fun k hk => ((startFrame_startHead s).slots k hk).2⟩,
    fun s r k hr hk => ⟨fun named c hj => ?check, fun q hj => ⟨fun hc => ?clear, fun hc hup hlim => ?goesOn,
      fun hc hend => ?stops⟩⟩, fun s r l q hr hq hc hup hlim => ?internal⟩
  case begins =>
    have htry : triesNone r.job = false := by
      cases hj : r.job with
      | check named c => rfl
      | find q =>
        obtain ⟨hup, hlim⟩ := htries q hj
        rw [← Bool.not_eq_true, triesNone_find]
        omega
    refine congrArg Host.Outcome.next ((startHead_tries s hr hq htry).trans ?_)
    obtain ⟨client, job⟩ := r
    cases client <;> rfl
  case triesNone =>
    have htry : triesNone r.job = true := by rw [hj]; exact triesNone_find.2 (.inl hnone)
    refine congrArg Host.Outcome.next ((startHead_triesNone s hr hq htry).trans (congrArg startHead ?_))
    rw [deliverResult, beginRequest, hk]
    simp only [setSlot, raise, put_put, ← hr]
  case kept =>
    refine congrArg Host.Outcome.next ?_
    rcases hs with hs | hs
    · obtain ⟨r, hr⟩ := Option.ne_none_iff_exists'.1 hs
      exact startHead_running s hr
    · exact startHead_empty s hs
  case settled => exact fun hr => (startHead_settled s).resolve_left (not_not.2 hr)
  case check =>
    exact congrArg Host.Outcome.next ((evaluateRunning_check hr hj).trans (completeRequest_host hk _))
  case clear =>
    exact congrArg Host.Outcome.next ((evaluateRunning_clear hr hj hc).trans (completeRequest_host hk _))
  case goesOn =>
    have hgo : searchStops q (r.evaluated + 1) = false := by
      rw [← Bool.not_eq_true, searchStops_succ]
      exact not_or.2 ⟨not_lt.2 hup, not_le.2 hlim⟩
    exact congrArg Host.Outcome.next (evaluateRunning_goesOn hr hj hc hgo)
  case stops =>
    exact congrArg Host.Outcome.next
      ((evaluateRunning_stops hr hj hc (searchStops_succ.2 hend)).trans (completeRequest_host hk _))
  case internal =>
    have hgo : searchStops q (r.evaluated + 1) = false := by
      rw [← Bool.not_eq_true, searchStops_succ]
      exact not_or.2 ⟨not_lt.2 hup, not_le.2 hlim⟩
    exact congrArg Host.Outcome.next (evaluateRunning_goesOn hr (by rw [hq]) hc hgo)

end Sys2Proof.Proofs
end

section
/-! SUPPORT. An internal search that ends without a new carrier: the retune that ends, and the link that waits again
(R29, R105 to R108). -/

namespace Sys2Proof.Machine

section
variable {s : State} {l : Nat} {e : EnrolledLink} {r : RetuneRecord}

/-! ## The results of a search -/

/-- Where no record is EMPTY nothing opens (R11). -/
theorem openFromSearch_tableFull {c : Carrier} (h : ∀ n ≤ 95, planRecord s n ≠ .empty) :
    openFromSearch c l s = .tableFull := by
  have hnone : indicesWhere s.plan.records (· == .empty) = [] := by
    refine List.eq_nil_iff_forall_not_mem.2 fun n hn => ?_
    obtain ⟨hlt, hempty⟩ := (mem_indicesWhere ..).1 hn
    exact h n (Nat.le_of_lt_succ hlt) (beq_iff_eq.1 hempty)
  rw [openFromSearch, hnone]
  rfl

/-- Where a record is EMPTY and the group has no room nothing opens (R11). -/
theorem openFromSearch_groupFull {c : Carrier} (h : ∃ n ≤ 95, planRecord s n = .empty)
    (hroom : 24 ≤ memberCount s c.group) : openFromSearch c l s = .groupFull := by
  obtain ⟨n, hn, hempty⟩ := h
  have hmem : n ∈ indicesWhere s.plan.records (· == .empty) :=
    (mem_indicesWhere ..).2 ⟨Nat.lt_succ_of_le hn, beq_iff_eq.2 hempty⟩
  obtain ⟨i, hi⟩ : ∃ i, (indicesWhere s.plan.records (· == .empty)).head? = some i :=
    ⟨_, List.head?_eq_some_head (List.ne_nil_of_mem hmem)⟩
  rw [openFromSearch, hi]
  exact if_pos hroom

section
variable {place : SearchPlace} {tried : Nat} {w : Option Conflict}

/-- R106. -/
theorem applySearchResult_stale {x : Option Nat} (he : entry s l = .enrolled e) (hp : e.phase = .seeking r place) :
    applySearchResult l ⟨x, tried, w, true⟩ s = joinWaitList l s := by
  simp only [applySearchResult, he, hp, if_true]

/-- R107. -/
theorem applySearchResult_noCarrier (he : entry s l = .enrolled e) (hp : e.phase = .seeking r place) :
    applySearchResult l ⟨none, tried, w, false⟩ s = endRetune .noCarrier l s := by
  simp only [applySearchResult, he, hp, Bool.false_eq_true, if_false]

/-- R108. -/
theorem applySearchResult_tableFull {x : Nat} (he : entry s l = .enrolled e) (hp : e.phase = .seeking r place)
    (h : ∀ n ≤ 95, planRecord s n ≠ .empty) :
    applySearchResult l ⟨some x, tried, w, false⟩ s = endRetune .tableFull l s := by
  simp only [applySearchResult, he, hp, Bool.false_eq_true, if_false, openFromSearch_tableFull h]

/-- R108. -/
theorem applySearchResult_groupFull {x : Nat} {c : Carrier} (he : entry s l = .enrolled e)
    (hp : e.phase = .seeking r place) (h : ∃ n ≤ 95, planRecord s n = .empty)
    (hc : (planRecord s e.carrier).carrier = some c) (hroom : 24 ≤ memberCount s c.group) :
    applySearchResult l ⟨some x, tried, w, false⟩ s = endRetune .groupFull l s := by
  have hfull : openFromSearch ⟨x, (linkCarrier s e).halfWidth, (linkCarrier s e).group⟩ l s = .groupFull := by
    refine openFromSearch_groupFull h ?_
    rw [linkCarrier, hc]
    exact hroom
  simp only [applySearchResult, he, hp, Bool.false_eq_true, if_false, hfull]

end

/-! ## The states that a search leaves -/

/-- The state `s` once its engine runs nothing and holds the requests `queue`. -/
def withQueue (queue : List EngineRequest) (s : State) : State :=
  { s with engine.queue := queue, engine.running := none }

/-- From `s` to `u` nothing changes but the queue, the entries of link `l` and of waiting links, and retune and control
state; no request runs. -/
structure SearchLeft (s : State) (l : Nat) (u : State) : Prop where
  idle : u.engine.running = none
  plan : u.plan = s.plan
  ret : u.ret = s.ret
  tally : u.tally = s.tally
  talk : u.talk = s.talk
  survey : u.survey = s.survey
  slots : u.engine.slots = s.engine.slots
  others : ∀ j, j ≠ l → j ∉ s.retune.waitList → entry u j = entry s j

/-- From `s` to `u` a search has left the engine, whose queue is then `queue`, and its link's retune has ended. -/
structure SearchEnded (queue : List EngineRequest) (s : State) (l : Nat) (e : EnrolledLink) (result : RetuneResult)
    (u : State) : Prop extends SearchLeft s l u where
  entry : entry u l = .enrolled { e with phase := .none, lastResult := result }
  causes : u.ctl.causes = s.ctl.causes ||| causeOnly .retuneEnd
  changed : u.ctl.changed = setAdd l s.ctl.changed
  order : l ∉ u.retune.seekOrder
  served : ListServed queue s.retune.waitList s u

theorem serveWaitList_seekOrder (s : State) : (serveWaitList s).retune.seekOrder = s.retune.seekOrder := by
  rw [serveWaitList_frame]

/-- The end of a retune and the service of the wait list (R105, R107). -/
theorem searchEnded_endRetune (queue : List EngineRequest) (result : RetuneResult) (he : entry s l = .enrolled e)
    (hw : l ∉ s.retune.waitList) :
    SearchEnded queue s l e result (serveWaitList (endRetune result l (withQueue queue s))) := by
  generalize hx : endRetune result l (withQueue queue s) = x
  have hframe := endRetune_eq result l (withQueue queue s)
  rw [hx] at hframe
  have hwait : x.retune.waitList = s.retune.waitList := by
    rw [hframe]
    exact setRemove_of_not_mem hw
  have hself : entry x l = .enrolled { e with phase := .none, lastResult := result } := by
    rw [← hx]
    exact entry_endRetune_self (s := withQueue queue s) result he
  have hothers (j : Nat) (hj : j ≠ l) : entry x j = entry s j := by
    rw [← hx]
    exact entry_endRetune_ne (s := withQueue queue s) result hj
  have hplan : x.plan = s.plan := by rw [hframe]; rfl
  have hserved : ListServed queue s.retune.waitList s (serveWaitList x) := by
    have h := listServed_serveWaitList (s := x) (u := s) (by rw [hframe]; rfl)
      (fun m hm => hothers m fun hml => hw (hml ▸ hwait ▸ hm)) (fun i c hc => by rw [planRecord, hplan]; exact hc)
      (by rw [hplan])
    rwa [hwait, show x.engine.queue = queue by rw [hframe]; rfl] at h
  refine ⟨⟨?_, ?_, ?_, ?_, ?_, ?_, ?_, fun j hj hjw => ?_⟩, ?_, ?_, ?_, ?_, hserved⟩
  · rw [serveWaitList_running, hframe]; rfl
  · rw [serveWaitList_plan, hplan]
  · rw [serveWaitList_ret, hframe]; rfl
  · rw [serveWaitList_tally, hframe]; rfl
  · rw [serveWaitList_talk, hframe]; rfl
  · rw [serveWaitList_survey, hframe]; rfl
  · rw [serveWaitList_slots, hframe]; rfl
  · rw [entry_serveWaitList_ne (hwait ▸ hjw), hothers j hj]
  · rw [entry_serveWaitList_ne (hwait ▸ hw), hself]
  · rw [serveWaitList_ctl, hframe]; rfl
  · rw [serveWaitList_ctl, hframe]; rfl
  · rw [serveWaitList_seekOrder, hframe]
    exact fun h => ((mem_setRemove ..).1 h).2 rfl

/-! ## A stale result -/

/-- The link joins the wait list between those that entered SEEKING before it and those that did not (R105, R106). -/
theorem waitList_joinWaitList {earlier later : List Nat} (hw : s.retune.waitList = earlier ++ later)
    (hearlier : ∀ m ∈ earlier, s.retune.seekOrder.idxOf m < s.retune.seekOrder.idxOf l)
    (hlater : ∀ m ∈ later, s.retune.seekOrder.idxOf l ≤ s.retune.seekOrder.idxOf m) :
    (joinWaitList l s).retune.waitList = earlier ++ l :: later := by
  have hbefore (m) (hm : m ∈ earlier) : seeksBefore s m l = true := decide_eq_true (hearlier m hm)
  have hafter (m) (hm : m ∈ later) : seeksBefore s m l = false := decide_eq_false (not_lt.2 (hlater m hm))
  have htake : later.takeWhile (fun m => seeksBefore s m l) = [] := by
    cases later with
    | nil => rfl
    | cons m _ => exact List.takeWhile_cons_of_neg (by rw [hafter m List.mem_cons_self]; exact nofun)
  have hdrop : later.dropWhile (fun m => seeksBefore s m l) = later := by
    cases later with
    | nil => rfl
    | cons m _ => exact List.dropWhile_cons_of_neg (by rw [hafter m List.mem_cons_self]; exact nofun)
  unfold joinWaitList
  dsimp only
  rw [setPlace_retune, hw, List.takeWhile_append_of_pos hbefore, List.dropWhile_append_of_pos hbefore, htake, hdrop,
    List.append_nil]

/-- A link that waits is queued where it stands first and there is room, and waits on otherwise (R105). -/
theorem entry_serveWaitList_waiting {earlier later : List Nat} (he : entry s l = .enrolled e)
    (hp : e.phase = .seeking r .waiting) (hw : s.retune.waitList = earlier ++ l :: later) (hearlier : l ∉ earlier)
    (hlater : l ∉ later) : ∃ place, entry (serveWaitList s) l = .enrolled { e with phase := .seeking r place } ∧
      (place = .waiting ↔ l ∈ (serveWaitList s).retune.waitList) := by
  have hstays : e = { e with phase := .seeking r .waiting } := by cases e; cases hp; rfl
  have hmem : l ∈ s.retune.waitList := by simp [hw]
  have hkept : ∃ place, entry s l = .enrolled { e with phase := .seeking r place } ∧
      (place = .waiting ↔ l ∈ s.retune.waitList) := ⟨.waiting, by rw [he, ← hstays], iff_of_true rfl hmem⟩
  cases earlier with
  | nil =>
    rw [List.nil_append] at hw
    simp only [serveWaitList, hw]
    split
    · refine ⟨.inEngine, ?_, iff_of_false nofun ?_⟩
      · rw [queueSearch_enrolled (s := { s with retune.waitList := later }) he]
        exact entry_setPlace_self (s := enqueue _ { s with retune.waitList := later }) .inEngine he hp
      · rw [queueSearch_frame]
        exact hlater
    · exact hw ▸ hkept
  | cons m earlier =>
    rw [List.cons_append] at hw
    simp only [serveWaitList, hw]
    split
    · refine ⟨.waiting, ?_, iff_of_true rfl ?_⟩
      · rw [entry_queueSearch_ne fun hlm : l = m => hearlier (by rw [hlm]; exact List.mem_cons_self), ← hstays]
        exact he
      · rw [queueSearch_frame]
        exact List.mem_append_right _ List.mem_cons_self
    · exact hw ▸ hkept

/-- What a service makes of the list is read from the plan and from what the entries were before a link joined it. -/
theorem ListServed.of_joined {queue : List EngineRequest} {waiting : List Nat} {x u : State}
    {place place' : SearchPlace}
    (h : ListServed queue waiting x u) (hplan : x.plan = s.plan) (hothers : ∀ j ≠ l, entry x j = entry s j)
    (he : entry s l = .enrolled e) (hp : e.phase = .seeking r place)
    (hx : entry x l = .enrolled { e with phase := .seeking r place' }) : ListServed queue waiting s u := by
  have hsearch (c : Carrier) : planSearch x c = planSearch s c := by rw [planSearch, planSearch, hplan]
  have hrecord (i : Nat) : planRecord x i = planRecord s i := by rw [planRecord, planRecord, hplan]
  refine ⟨h.1, fun m rest e' c hw hc he' hcar => ?_⟩
  by_cases hml : m = l
  · subst hml
    cases he.symm.trans he'
    obtain ⟨hqueue, hwait, hentry⟩ := h.2 m rest _ c hw hc hx (by rw [hrecord]; exact hcar)
    refine ⟨hsearch c ▸ hqueue, hwait, fun r' p' hp' => hentry r' place' ?_⟩
    cases hp.symm.trans hp'
    rfl
  · obtain ⟨hqueue, hwait, hentry⟩ := h.2 m rest e' c hw hc ((hothers m hml).trans he') (by rw [hrecord]; exact hcar)
    exact ⟨hsearch c ▸ hqueue, hwait, hentry⟩

/-- From `s` to `u` a search has left the engine, whose queue is then `queue`, and its link waits for another (R106). -/
structure SearchWaits (queue : List EngineRequest) (waiting : List Nat) (s : State) (l : Nat) (e : EnrolledLink)
    (r : RetuneRecord) (u : State) : Prop extends SearchLeft s l u where
  entry : ∃ place, entry u l = .enrolled { e with phase := .seeking r place } ∧
    (place = .waiting ↔ l ∈ u.retune.waitList)
  ctl : u.ctl = s.ctl
  order : u.retune.seekOrder = s.retune.seekOrder
  served : ListServed queue waiting s u

/-- A link whose search is stale joins the list, which is then served (R105, R106). -/
theorem searchWaits_joinWaitList {earlier later : List Nat} {place : SearchPlace} (queue : List EngineRequest)
    (he : entry s l = .enrolled e) (hp : e.phase = .seeking r place) (hw : s.retune.waitList = earlier ++ later)
    (hl : l ∉ s.retune.waitList) (hearlier : ∀ m ∈ earlier, s.retune.seekOrder.idxOf m < s.retune.seekOrder.idxOf l)
    (hlater : ∀ m ∈ later, s.retune.seekOrder.idxOf l ≤ s.retune.seekOrder.idxOf m) :
    SearchWaits queue (earlier ++ l :: later) s l e r (serveWaitList (joinWaitList l (withQueue queue s))) := by
  generalize hx : joinWaitList l (withQueue queue s) = x
  have hframe := joinWaitList_frame l (withQueue queue s)
  rw [hx] at hframe
  have hwait : x.retune.waitList = earlier ++ l :: later := by
    rw [← hx]
    exact waitList_joinWaitList (s := withQueue queue s) hw hearlier hlater
  have hself : entry x l = .enrolled { e with phase := .seeking r .waiting } := by
    rw [← hx]
    exact entry_setPlace_self (s := { withQueue queue s with retune.waitList := _ }) .waiting he hp
  have hothers (j : Nat) (hj : j ≠ l) : entry x j = entry s j := by
    rw [← hx]
    exact entry_setPlace_ne (s := { withQueue queue s with retune.waitList := _ }) .waiting hj
  have hplan : x.plan = s.plan := by rw [hframe]; rfl
  rw [hw, List.mem_append, not_or] at hl
  have hserved : ListServed queue (earlier ++ l :: later) x (serveWaitList x) := by
    have h := listServed_serveWaitList (s := x) (u := x) (by rw [hframe]; rfl) (fun _ _ => rfl) (fun _ _ hc => hc) rfl
    rwa [hwait, show x.engine.queue = queue by rw [hframe]; rfl] at h
  refine ⟨⟨?_, ?_, ?_, ?_, ?_, ?_, ?_, fun j hj hjw => ?_⟩,
    entry_serveWaitList_waiting (e := { e with phase := .seeking r .waiting }) hself rfl hwait hl.1 hl.2, ?_, ?_,
    hserved.of_joined hplan hothers he hp hself⟩
  · rw [serveWaitList_running, hframe]; rfl
  · rw [serveWaitList_plan, hplan]
  · rw [serveWaitList_ret, hframe]; rfl
  · rw [serveWaitList_tally, hframe]; rfl
  · rw [serveWaitList_talk, hframe]; rfl
  · rw [serveWaitList_survey, hframe]; rfl
  · rw [serveWaitList_slots, hframe]; rfl
  · have hjx : j ∉ x.retune.waitList := by
      rw [hw, List.mem_append, not_or] at hjw
      simp [hwait, hj, hjw]
    rw [entry_serveWaitList_ne hjx, hothers j hj]
  · rw [serveWaitList_ctl, hframe]; rfl
  · rw [serveWaitList_seekOrder, hframe]; rfl

end

end Sys2Proof.Machine
end

section
namespace Sys2Proof.Proofs
open Sys2Proof.Machine

/-- Settles O60: the evaluation that completes the search delivers its result to the retune controller, which makes the
link wait again or ends its retune; `u` is that state with the wait list served. -/
theorem internalSearchesEnd : Obligations.InternalSearchesEnd := by
  unfold Obligations.InternalSearchesEnd
  refine ⟨fun s r l q e rec_ hrun hreq he hp hl => ?_, fun s l q rest e rec_ hrun hq he hp hl hnone => ?_⟩
  · intro centre clear stops kept ended
    have hjob : r.request.job = .find q := by rw [hreq]
    have hdelivered {f : FindResult} {x : State} (heval : evaluateRunning s = completeRequest r.request (.find f) s)
        (hx : applySearchResult l f (withQueue s.engine.queue s) = x) :
        exec .candidateEvaluation s = exec .engineStart (serveWaitList x) := by
      rw [hreq] at heval
      exact congrArg Host.Outcome.next (heval.trans (congrArg (fun u => startHead (serveWaitList u)) hx))
    have hkept {u : State} (h : SearchLeft s l u) : kept u :=
      ⟨h.idle, h.plan, h.ret, h.tally, h.talk, h.survey, h.slots, h.others⟩
    have hended {result : RetuneResult} (heval : exec .candidateEvaluation s =
        exec .engineStart (serveWaitList (endRetune result l (withQueue s.engine.queue s)))) : ended result :=
      have h := searchEnded_endRetune s.engine.queue result he hl
      ⟨_, heval, hkept h.toSearchLeft, h.entry, h.causes, h.changed, h.order, h.served⟩
    refine ⟨fun hstale hend earlier later hw hearlier hlater => ?stale, fun hstale hc hs => hended ?noCarrier,
      fun hstale hc hfull => hended ?tableFull, fun c hstale hc hempty hcar hroom => hended ?groupFull⟩
    case stale =>
      have heval : exec .candidateEvaluation s =
          exec .engineStart (serveWaitList (joinWaitList l (withQueue s.engine.queue s))) := by
        by_cases hc : clear
        · exact hdelivered (evaluateRunning_clear hrun hjob hc) (by rw [hstale]; exact applySearchResult_stale he hp)
        · exact hdelivered (evaluateRunning_stops hrun hjob hc (searchStops_succ.2 (hend.resolve_left hc)))
            (by rw [hstale]; exact applySearchResult_stale he hp)
      have h := searchWaits_joinWaitList s.engine.queue he hp hw hl hearlier hlater
      obtain ⟨place, hentry, hplace⟩ := h.entry
      exact ⟨_, place, heval, hkept h.toSearchLeft, hentry, hplace, h.ctl, h.order, h.served⟩
    case noCarrier =>
      exact hdelivered (evaluateRunning_stops hrun hjob hc (searchStops_succ.2 hs))
        (by rw [hstale]; exact applySearchResult_noCarrier he hp)
    case tableFull =>
      exact hdelivered (evaluateRunning_clear hrun hjob hc)
        (by rw [hstale]; exact applySearchResult_tableFull he hp hfull)
    case groupFull =>
      exact hdelivered (evaluateRunning_clear hrun hjob hc)
        (by rw [hstale]; exact applySearchResult_groupFull he hp hempty hcar hroom)
  · have h := searchEnded_endRetune rest .noCarrier he hl
    refine ⟨_, ?_, h.idle, h.plan, h.ret, h.slots, h.entry, h.causes, h.changed, h.others, h.served⟩
    have htry : triesNone (.find q) = true := triesNone_find.2 (.inl hnone)
    refine congrArg Host.Outcome.next ((startHead_triesNone s hrun hq htry).trans (congrArg startHead ?_))
    exact congrArg serveWaitList (applySearchResult_noCarrier (s := withQueue rest s) he hp)

end Sys2Proof.Proofs
end

section
/-! SUPPORT. The conflicts of an evaluation, kind by kind, in terms of the carriers of the candidate's group (R34 to
R40), and the order among conflicts (R42). -/

namespace Sys2Proof.Machine

/-! ## Members of the group -/

/-- A carrier as a party under its number. -/
def Carrier.party (n : Nat) (c : Carrier) : Party := ⟨n, c.centre, c.halfWidth⟩

/-- The carrier that a number stands for in an evaluation: 96 for the candidate, a record index for a member (R34,
R39). -/
def groupCarrier (s : State) (named : Option Nat) (c : Carrier) (n : Nat) : Option Carrier :=
  if n = 96 then some c
  else if named = some n then none
  else (planRecord s n).carrier.filter fun m => m.group == c.group

/-- The candidate and the members of its group, each under its number. -/
def parties (s : State) (named : Option Nat) (c : Carrier) : List Party :=
  candidateParty c :: members s c.group named

section
variable {s : State} {named : Option Nat} {c : Carrier} {p : Party} {ms : List Party} {z : Conflict}

theorem lt_of_carrier {n : Nat} {x : Carrier} (h : (planRecord s n).carrier = some x) : n < 96 := by
  refine lt_of_planRecord_ne (s := s) fun he => ?_
  rw [he] at h
  cases h

theorem mem_members {group : Nat} : p ∈ members s group named ↔ ∃ n x, named ≠ some n ∧
    (planRecord s n).carrier = some x ∧ x.group = group ∧ p = x.party n := by
  simp only [members, List.mem_filterMap, List.mem_range]
  constructor
  · rintro ⟨n, hn, hp⟩
    split at hp
    · cases hp
    · next hnamed =>
      split at hp
      · next x hx =>
        split at hp
        · next hg => exact ⟨n, x, hnamed, hx, hg, (Option.some.inj hp).symm⟩
        · cases hp
      · cases hp
  · rintro ⟨n, x, hnamed, hx, hg, rfl⟩
    refine ⟨n, lt_of_carrier hx, ?_⟩
    rw [if_neg hnamed, hx]
    exact if_pos hg

theorem number_lt_of_mem_members {group : Nat} (h : p ∈ members s group named) : p.number < 96 := by
  obtain ⟨n, x, -, hx, -, rfl⟩ := mem_members.1 h
  exact lt_of_carrier hx

/-- The parties are the carriers of the numbers. -/
theorem mem_parties : p ∈ parties s named c ↔ ∃ x, groupCarrier s named c p.number = some x ∧ p = x.party p.number := by
  rw [parties, List.mem_cons]
  constructor
  · rintro (rfl | hp)
    · exact ⟨c, rfl, rfl⟩
    · have hlt := number_lt_of_mem_members hp
      obtain ⟨n, x, hnamed, hx, hg, rfl⟩ := mem_members.1 hp
      refine ⟨x, (if_neg (Nat.ne_of_lt hlt)).trans ((if_neg hnamed).trans ?_), rfl⟩
      exact Option.filter_eq_some_iff.2 ⟨hx, beq_iff_eq.2 hg⟩
  · rintro ⟨x, hx, hp⟩
    by_cases hn : p.number = 96
    · rw [hn, groupCarrier, if_pos rfl] at hx
      cases hx
      exact .inl (by rw [hp, hn]; rfl)
    · rw [groupCarrier, if_neg hn] at hx
      split at hx
      · cases hx
      · next hnamed =>
        obtain ⟨hcar, hg⟩ := Option.filter_eq_some_iff.1 hx
        exact .inr (mem_members.2 ⟨_, x, hnamed, hcar, beq_iff_eq.1 hg, hp⟩)

/-- A party is the candidate, or a member under a number below 96. -/
theorem mem_members_iff {group : Nat} (hg : group = c.group) :
    p ∈ members s group named ↔ p ∈ parties s named c ∧ p.number ≠ 96 := by
  subst hg
  rw [parties, List.mem_cons]
  constructor
  · exact fun h => ⟨.inr h, Nat.ne_of_lt (number_lt_of_mem_members h)⟩
  · rintro ⟨rfl | h, hn⟩
    · exact absurd rfl hn
    · exact h

theorem eq_candidateParty (hp : p ∈ parties s named c) (hn : p.number = 96) : p = candidateParty c := by
  rcases List.mem_cons.1 hp with rfl | h
  · rfl
  · exact absurd hn (Nat.ne_of_lt (number_lt_of_mem_members h))

theorem number_le_of_mem_parties (hp : p ∈ parties s named c) : p.number ≤ 96 := by
  rcases List.mem_cons.1 hp with rfl | h
  · exact le_rfl
  · exact (number_lt_of_mem_members h).le

/-! ## The lists of comparisons -/

theorem mem_conflictOf {kind : ConflictKind} {x : Int} : z ∈ conflictOf kind x ↔ 0 < x ∧ z = ⟨kind, x⟩ := by
  unfold conflictOf
  split <;> simp_all

theorem mem_without {out : List Nat} : p ∈ without ms out ↔ p ∈ ms ∧ p.number ∉ out := by
  simp [without]

theorem mem_pairs {a b : Party} : (a, b) ∈ pairs ms ↔ a ∈ ms ∧ b ∈ ms ∧ a.number < b.number := by
  simp [pairs]

variable {g : BandGroup} {q : Party}

theorem mem_edgeConflicts : z ∈ edgeConflicts g q ↔ 0 < edgeOverlap g q ∧ z = ⟨.edge, edgeOverlap g q⟩ := mem_conflictOf

theorem mem_spacingConflicts : z ∈ spacingConflicts g q ms ↔
    ∃ v ∈ ms, 0 < spacingOverlap g q v ∧ z = ⟨.spacing v.number, spacingOverlap g q v⟩ := by
  simp only [spacingConflicts, List.mem_flatMap, mem_conflictOf]

theorem lt_of_isHot {b : Nat} (h : isHot s b = true) : b < 256 := by
  by_contra hb
  rw [isHot, look_out _ _ (not_lt.1 hb)] at h
  cases h

theorem mem_occupiedConflicts : z ∈ occupiedConflicts s g q ↔ ∃ b, isHot s b = true ∧
    0 < occupiedOverlap g s.survey.window q b ∧ z = ⟨.occupied b, occupiedOverlap g s.survey.window q b⟩ := by
  simp only [occupiedConflicts, List.mem_flatMap, mem_conflictOf, List.mem_filter, List.mem_range, and_assoc]
  exact ⟨fun ⟨b, _, hb⟩ => ⟨b, hb⟩, fun ⟨b, hb⟩ => ⟨b, lt_of_isHot hb.1, hb⟩⟩

/-- The family of a product's conflict, by whether the candidate is the victim (R38, R39). -/
def familyOf (victim : Nat) : Family := if victim = 96 then .membersOnCandidate else .candidateOnMember

theorem familyOf_member {n : Nat} (h : n ≠ 96) : familyOf n = .candidateOnMember := if_neg h

theorem candidateParty_mem : candidateParty c ∈ parties s named c := List.mem_cons_self

/-- R38's conflicts: three different parties, the candidate among them. -/
theorem mem_im2Conflicts : z ∈ im2Conflicts g (candidateParty c) (members s c.group named) ↔ g.twoTone = true ∧
    ∃ a ∈ parties s named c, ∃ b ∈ parties s named c, ∃ v ∈ parties s named c,
      (a.number ≠ b.number ∧ a.number ≠ v.number ∧ b.number ≠ v.number) ∧
      (a.number = 96 ∨ b.number = 96 ∨ v.number = 96) ∧ 0 < im2Overlap g a b v ∧
      z = ⟨.im2 (familyOf v.number) a.number b.number v.number, im2Overlap g a b v⟩ := by
  unfold im2Conflicts
  split
  · next hon =>
    simp only [hon, true_and, List.mem_append, List.mem_flatMap, mem_without, mem_conflictOf,
      mem_members_iff (c := c) rfl, List.mem_singleton]
    constructor
    · rintro (⟨a, ⟨ha, ha96⟩, b, ⟨⟨hb, hb96⟩, hba⟩, hpos, rfl⟩ |
        ⟨m, ⟨hm, hm96⟩, v, ⟨⟨hv, hv96⟩, hvm⟩, ⟨hpos, rfl⟩ | ⟨hpos, rfl⟩⟩)
      · exact ⟨a, ha, b, hb, _, candidateParty_mem, ⟨Ne.symm hba, ha96, hb96⟩, .inr (.inr rfl), hpos, rfl⟩
      · exact ⟨_, candidateParty_mem, m, hm, v, hv, ⟨Ne.symm hm96, Ne.symm hv96, Ne.symm hvm⟩, .inl rfl, hpos,
          by rw [familyOf_member hv96]⟩
      · exact ⟨m, hm, _, candidateParty_mem, v, hv, ⟨hm96, Ne.symm hvm, Ne.symm hv96⟩, .inr (.inl rfl), hpos,
          by rw [familyOf_member hv96]⟩
    · rintro ⟨a, ha, b, hb, v, hv, ⟨hab, hav, hbv⟩, h96, hpos, rfl⟩
      rcases h96 with h | h | h
      · rw [h] at hab hav
        cases eq_candidateParty ha h
        exact .inr ⟨b, ⟨hb, hab.symm⟩, v, ⟨⟨hv, hav.symm⟩, hbv.symm⟩, .inl ⟨hpos, by rw [familyOf_member hav.symm]⟩⟩
      · rw [h] at hab hbv
        cases eq_candidateParty hb h
        exact .inr ⟨a, ⟨ha, hab⟩, v, ⟨⟨hv, hbv.symm⟩, hav.symm⟩, .inr ⟨hpos, by rw [familyOf_member hbv.symm]⟩⟩
      · rw [h] at hav hbv
        cases eq_candidateParty hv h
        exact .inl ⟨a, ⟨ha, hav⟩, b, ⟨⟨hb, hbv⟩, hab.symm⟩, hpos, rfl⟩
  · next hoff => exact ⟨nofun, fun h => absurd h.1 hoff⟩

/-- R39's conflicts: four different parties, the candidate among them, the pair in ascending order. -/
theorem mem_im3Conflicts : z ∈ im3Conflicts g (candidateParty c) (members s c.group named) ↔ g.threeTone = true ∧
    ∃ a ∈ parties s named c, ∃ b ∈ parties s named c, ∃ d ∈ parties s named c, ∃ v ∈ parties s named c,
      (a.number < b.number ∧ d.number ≠ a.number ∧ d.number ≠ b.number) ∧
      (v.number ≠ a.number ∧ v.number ≠ b.number ∧ v.number ≠ d.number) ∧
      (b.number = 96 ∨ d.number = 96 ∨ v.number = 96) ∧ 0 < im3Overlap g a b d v ∧
      z = ⟨.im3 (familyOf v.number) a.number b.number d.number v.number, im3Overlap g a b d v⟩ := by
  unfold im3Conflicts
  split
  · next hon =>
    simp only [hon, true_and, List.mem_append, List.mem_flatMap, Prod.exists, mem_pairs, mem_without, mem_conflictOf,
      mem_members_iff (c := c) rfl, List.mem_cons, List.not_mem_nil, or_false, not_or]
    constructor
    · rintro ((⟨a, b, ⟨⟨ha, ha96⟩, ⟨hb, hb96⟩, hab⟩, d, ⟨⟨hd, hd96⟩, hda, hdb⟩, hpos, rfl⟩ |
        ⟨a, ⟨ha, ha96⟩, d, ⟨⟨hd, hd96⟩, hda⟩, v, ⟨⟨hv, hv96⟩, hva, hvd⟩, hpos, rfl⟩) |
        ⟨a, b, ⟨⟨ha, ha96⟩, ⟨hb, hb96⟩, hab⟩, v, ⟨⟨hv, hv96⟩, hva, hvb⟩, hpos, rfl⟩)
      · exact ⟨a, ha, b, hb, d, hd, _, candidateParty_mem, ⟨hab, hda, hdb⟩,
          ⟨Ne.symm ha96, Ne.symm hb96, Ne.symm hd96⟩, .inr (.inr rfl), hpos, rfl⟩
      · exact ⟨a, ha, _, candidateParty_mem, d, hd, v, hv, ⟨(number_le_of_mem_parties ha).lt_of_ne ha96, hda, hd96⟩,
          ⟨hva, hv96, hvd⟩, .inl rfl, hpos, by rw [familyOf_member hv96]⟩
      · exact ⟨a, ha, b, hb, _, candidateParty_mem, v, hv, ⟨hab, Ne.symm ha96, Ne.symm hb96⟩, ⟨hva, hvb, hv96⟩,
          .inr (.inl rfl), hpos, by rw [familyOf_member hv96]⟩
    · rintro ⟨a, ha, b, hb, d, hd, v, hv, ⟨hab, hda, hdb⟩, ⟨hva, hvb, hvd⟩, h96, hpos, rfl⟩
      have ha96 : a.number ≠ 96 := (hab.trans_le (number_le_of_mem_parties hb)).ne
      rcases h96 with h | h | h
      · rw [h] at hdb hvb
        cases eq_candidateParty hb h
        exact .inl (.inr ⟨a, ⟨ha, ha96⟩, d, ⟨⟨hd, hdb⟩, hda⟩, v, ⟨⟨hv, hvb⟩, hva, hvd⟩, hpos,
          by rw [familyOf_member hvb]⟩)
      · rw [h] at hdb hvd
        cases eq_candidateParty hd h
        exact .inr ⟨a, b, ⟨⟨ha, ha96⟩, ⟨hb, hdb.symm⟩, hab⟩, v, ⟨⟨hv, hvd⟩, hva, hvb⟩, hpos,
          by rw [familyOf_member hvd]⟩
      · rw [h] at hvb hvd
        cases eq_candidateParty hv h
        exact .inl (.inl ⟨a, b, ⟨⟨ha, ha96⟩, ⟨hb, hvb.symm⟩, hab⟩, d, ⟨⟨hd, hvd.symm⟩, hda, hdb⟩, hpos, rfl⟩)
  · next hoff => exact ⟨nofun, fun h => absurd h.1 hoff⟩

theorem mem_conflicts : z ∈ conflicts s named c ↔
    z ∈ edgeConflicts (look s.plan.groups c.group) (candidateParty c) ∨
    z ∈ spacingConflicts (look s.plan.groups c.group) (candidateParty c) (members s c.group named) ∨
    z ∈ occupiedConflicts s (look s.plan.groups c.group) (candidateParty c) ∨
    z ∈ im2Conflicts (look s.plan.groups c.group) (candidateParty c) (members s c.group named) ∨
    z ∈ im3Conflicts (look s.plan.groups c.group) (candidateParty c) (members s c.group named) := by
  simp only [conflicts, List.mem_append, or_assoc]

/-- Every conflict has an overlap above 0 (R34). -/
theorem overlap_pos (h : z ∈ conflicts s named c) : 0 < z.overlap := by
  rcases mem_conflicts.1 h with h | h | h | h | h
  · obtain ⟨hpos, rfl⟩ := mem_edgeConflicts.1 h
    exact hpos
  · obtain ⟨v, -, hpos, rfl⟩ := mem_spacingConflicts.1 h
    exact hpos
  · obtain ⟨b, -, hpos, rfl⟩ := mem_occupiedConflicts.1 h
    exact hpos
  · obtain ⟨-, a, -, b, -, v, -, -, -, hpos, rfl⟩ := mem_im2Conflicts.1 h
    exact hpos
  · obtain ⟨-, a, -, b, -, d, -, v, -, -, -, -, hpos, rfl⟩ := mem_im3Conflicts.1 h
    exact hpos

/-! ## Conflicts of one kind -/

theorem edge_mem_conflicts {x : Int} : ⟨.edge, x⟩ ∈ conflicts s named c ↔
    x = edgeOverlap (look s.plan.groups c.group) (candidateParty c) ∧
      0 < edgeOverlap (look s.plan.groups c.group) (candidateParty c) := by
  simp only [mem_conflicts, mem_edgeConflicts, mem_spacingConflicts, mem_occupiedConflicts, mem_im2Conflicts,
    mem_im3Conflicts, Conflict.mk.injEq, reduceCtorEq, false_and, and_false, exists_false, or_false, true_and]
  exact and_comm

theorem spacing_mem_conflicts {v : Nat} {x : Int} : ⟨.spacing v, x⟩ ∈ conflicts s named c ↔
    ∃ p ∈ members s c.group named, p.number = v ∧ 0 < x ∧
      x = spacingOverlap (look s.plan.groups c.group) (candidateParty c) p := by
  simp only [mem_conflicts, mem_edgeConflicts, mem_spacingConflicts, mem_occupiedConflicts, mem_im2Conflicts,
    mem_im3Conflicts, Conflict.mk.injEq, ConflictKind.spacing.injEq, reduceCtorEq, false_and, and_false, exists_false,
    or_false, false_or]
  exact exists_congr fun p => and_congr_right fun _ =>
    ⟨fun ⟨hpos, hv, hx⟩ => ⟨hv.symm, hx ▸ hpos, hx⟩, fun ⟨hv, hpos, hx⟩ => ⟨hx ▸ hpos, hv.symm, hx⟩⟩

theorem occupied_mem_conflicts {b : Nat} {x : Int} : ⟨.occupied b, x⟩ ∈ conflicts s named c ↔
    isHot s b = true ∧ 0 < x ∧
      x = occupiedOverlap (look s.plan.groups c.group) s.survey.window (candidateParty c) b := by
  simp only [mem_conflicts, mem_edgeConflicts, mem_spacingConflicts, mem_occupiedConflicts, mem_im2Conflicts,
    mem_im3Conflicts, Conflict.mk.injEq, ConflictKind.occupied.injEq, reduceCtorEq, false_and, and_false, exists_false,
    or_false, false_or]
  constructor
  · rintro ⟨b', hhot, hpos, rfl, rfl⟩
    exact ⟨hhot, hpos, rfl⟩
  · rintro ⟨hhot, hpos, rfl⟩
    exact ⟨b, hhot, hpos, rfl, rfl⟩

end

end Sys2Proof.Machine
end

section
/-! SUPPORT. Product conflicts by their carriers, bounds of the recorded overlaps, counts, and the worst conflict (R38
to R42). -/

namespace Sys2Proof.Machine

section
variable {s : State} {named : Option Nat} {c : Carrier} {z : Conflict}

/-! ## Products -/

theorem party_mem {n : Nat} {x : Carrier} (h : groupCarrier s named c n = some x) : x.party n ∈ parties s named c :=
  mem_parties.2 ⟨x, h, rfl⟩

/-- R38. -/
theorem im2_mem_conflicts {f : Family} {a b v : Nat} {x : Int} : ⟨.im2 f a b v, x⟩ ∈ conflicts s named c ↔
    (look s.plan.groups c.group).twoTone = true ∧ (a ≠ b ∧ a ≠ v ∧ b ≠ v) ∧ (a = 96 ∨ b = 96 ∨ v = 96) ∧
      f = familyOf v ∧ 0 < x ∧ ∃ ca cb cv, groupCarrier s named c a = some ca ∧ groupCarrier s named c b = some cb ∧
        groupCarrier s named c v = some cv ∧
        x = im2Overlap (look s.plan.groups c.group) (ca.party a) (cb.party b) (cv.party v) := by
  simp only [mem_conflicts, mem_edgeConflicts, mem_spacingConflicts, mem_occupiedConflicts, mem_im2Conflicts,
    mem_im3Conflicts, Conflict.mk.injEq, ConflictKind.im2.injEq, reduceCtorEq, false_and, and_false, exists_false,
    or_false, false_or]
  refine and_congr_right fun _ => ⟨?_, ?_⟩
  · rintro ⟨pa, ha, pb, hb, pv, hv, hne, h96, hpos, ⟨rfl, rfl, rfl, rfl⟩, rfl⟩
    obtain ⟨ca, hca, hpa⟩ := mem_parties.1 ha
    obtain ⟨cb, hcb, hpb⟩ := mem_parties.1 hb
    obtain ⟨cv, hcv, hpv⟩ := mem_parties.1 hv
    exact ⟨hne, h96, rfl, hpos, ca, cb, cv, hca, hcb, hcv, by rw [← hpa, ← hpb, ← hpv]⟩
  · rintro ⟨hne, h96, rfl, hpos, ca, cb, cv, hca, hcb, hcv, rfl⟩
    exact ⟨_, party_mem hca, _, party_mem hcb, _, party_mem hcv, hne, h96, hpos, ⟨rfl, rfl, rfl, rfl⟩, rfl⟩

/-- R39. -/
theorem im3_mem_conflicts {f : Family} {a b d v : Nat} {x : Int} : ⟨.im3 f a b d v, x⟩ ∈ conflicts s named c ↔
    (look s.plan.groups c.group).threeTone = true ∧ (a < b ∧ d ≠ a ∧ d ≠ b) ∧ (v ≠ a ∧ v ≠ b ∧ v ≠ d) ∧
      (b = 96 ∨ d = 96 ∨ v = 96) ∧ f = familyOf v ∧ 0 < x ∧ ∃ ca cb cd cv, groupCarrier s named c a = some ca ∧
        groupCarrier s named c b = some cb ∧ groupCarrier s named c d = some cd ∧ groupCarrier s named c v = some cv ∧
        x = im3Overlap (look s.plan.groups c.group) (ca.party a) (cb.party b) (cd.party d) (cv.party v) := by
  simp only [mem_conflicts, mem_edgeConflicts, mem_spacingConflicts, mem_occupiedConflicts, mem_im2Conflicts,
    mem_im3Conflicts, Conflict.mk.injEq, ConflictKind.im3.injEq, reduceCtorEq, false_and, and_false, exists_false,
    false_or]
  refine and_congr_right fun _ => ⟨?_, ?_⟩
  · rintro ⟨pa, ha, pb, hb, pd, hd, pv, hv, hne, hnv, h96, hpos, ⟨rfl, rfl, rfl, rfl, rfl⟩, rfl⟩
    obtain ⟨ca, hca, hpa⟩ := mem_parties.1 ha
    obtain ⟨cb, hcb, hpb⟩ := mem_parties.1 hb
    obtain ⟨cd, hcd, hpd⟩ := mem_parties.1 hd
    obtain ⟨cv, hcv, hpv⟩ := mem_parties.1 hv
    exact ⟨hne, hnv, h96, rfl, hpos, ca, cb, cd, cv, hca, hcb, hcd, hcv, by rw [← hpa, ← hpb, ← hpd, ← hpv]⟩
  · rintro ⟨hne, hnv, h96, rfl, hpos, ca, cb, cd, cv, hca, hcb, hcd, hcv, rfl⟩
    exact ⟨_, party_mem hca, _, party_mem hcb, _, party_mem hcd, _, party_mem hcv, hne, hnv, h96, hpos,
      ⟨rfl, rfl, rfl, rfl, rfl⟩, rfl⟩

theorem nodup_three {a b v : Nat} : [a, b, v].Nodup ↔ a ≠ b ∧ a ≠ v ∧ b ≠ v := by
  simp [and_assoc]

theorem nodup_four {a b d v : Nat} (hab : a < b) :
    [a, b, d, v].Nodup ↔ (d ≠ a ∧ d ≠ b) ∧ v ≠ a ∧ v ≠ b ∧ v ≠ d := by
  simp only [List.nodup_cons, List.mem_cons, List.not_mem_nil, or_false, not_or, not_false_eq_true, List.nodup_nil,
    and_true]
  omega

/-- No number above 96 stands for a carrier. -/
theorem le_of_groupCarrier {n : Nat} {x : Carrier} (h : groupCarrier s named c n = some x) : n ≤ 96 :=
  number_le_of_mem_parties (party_mem h)

/-! ## Overlaps -/

/-- R35: what reaches below the lower edge and above the upper one. -/
theorem edgeOverlap_eq (g : BandGroup) (p : Party) : edgeOverlap g p =
    (if 0 < g.lower - (p.centre - p.half) then g.lower - (p.centre - p.half) else 0) +
      (if 0 < p.centre + p.half - g.upper then p.centre + p.half - g.upper else 0) := by
  unfold edgeOverlap
  split <;> split <;> omega

/-- Half widths of the parties where the plan's and the candidate's are in range (R4). -/
theorem half_of_mem_parties {p : Party} (hs : CarriersInRange s) (hc : c.halfWidth ≤ 4095)
    (hp : p ∈ parties s named c) : 0 ≤ p.half ∧ p.half ≤ 4095 := by
  rcases List.mem_cons.1 hp with rfl | hp
  · exact ⟨Int.natCast_nonneg _, Int.ofNat_le.2 hc⟩
  · obtain ⟨n, x, -, hx, -, rfl⟩ := mem_members.1 hp
    exact ⟨Int.natCast_nonneg _, Int.ofNat_le.2 (hs n x hx).2.2⟩

theorem recorded_of_ne_edge {k : ConflictKind} {x : Int} (h : k ≠ .edge) : recorded ⟨k, x⟩ = ⟨k, x⟩ := by
  cases k with
  | edge => exact absurd rfl h
  | _ => rfl

/-- With half widths up to 4,095 and guards up to 255 a recorded overlap is at most 4·4,095 + 255 (R41). -/
theorem recorded_overlap_le (hs : CarriersInRange s) (hc : c.halfWidth ≤ 4095)
    (hspacing : (look s.plan.groups c.group).spacingGuard ≤ 255)
    (hproduct : (look s.plan.groups c.group).productGuard ≤ 255) (hz : z ∈ conflicts s named c) :
    (recorded z).overlap ≤ 16635 := by
  have hhalf {p : Party} (hp : p ∈ parties s named c) := half_of_mem_parties hs hc hp
  rcases mem_conflicts.1 hz with h | h | h | h | h
  · obtain ⟨-, rfl⟩ := mem_edgeConflicts.1 h
    exact min_le_right _ _
  · obtain ⟨p, hp, -, rfl⟩ := mem_spacingConflicts.1 h
    have h1 := (hhalf candidateParty_mem).2
    have h2 := (hhalf ((mem_members_iff rfl).1 hp).1).2
    have habs := abs_nonneg ((candidateParty c).centre - p.centre)
    change spacingOverlap _ _ _ ≤ 16635
    rw [spacingOverlap]
    omega
  · obtain ⟨b, -, -, rfl⟩ := mem_occupiedConflicts.1 h
    have h1 := (hhalf candidateParty_mem).2
    change occupiedOverlap _ _ _ _ ≤ 16635
    rw [occupiedOverlap]
    omega
  · obtain ⟨-, a, ha, b, hb, v, hv, -, -, -, rfl⟩ := mem_im2Conflicts.1 h
    have h1 := (hhalf ha).2
    have h2 := (hhalf hb).2
    have h3 := (hhalf hv).2
    have habs := abs_nonneg (2 * a.centre - b.centre - v.centre)
    change im2Overlap _ _ _ _ ≤ 16635
    rw [im2Overlap]
    omega
  · obtain ⟨-, a, ha, b, hb, d, hd, v, hv, -, -, -, -, rfl⟩ := mem_im3Conflicts.1 h
    have h1 := (hhalf ha).2
    have h2 := (hhalf hb).2
    have h3 := (hhalf hd).2
    have h4 := (hhalf hv).2
    have habs := abs_nonneg (a.centre + b.centre - d.centre - v.centre)
    change im3Overlap _ _ _ _ _ ≤ 16635
    rw [im3Overlap]
    omega

theorem recorded_overlap_pos (h : 0 < z.overlap) : 1 ≤ (recorded z).overlap := by
  obtain ⟨kind, x⟩ := z
  cases kind with
  | edge => exact le_min h (by decide)
  | _ => exact h

/-! ## Hot bins -/

/-- R57, R58. -/
theorem intersects_eq_false {lo hi lo' hi' : Int} : intersects lo hi lo' hi' = false ↔ hi' < lo ∨ hi < lo' := by
  rw [← Bool.not_eq_true, intersects, Bool.and_eq_true, decide_eq_true_iff, decide_eq_true_iff]
  omega

theorem shielded_eq_false {b : Nat} : shielded s b = false ↔
    ∀ r m o, planRecord s r = .active m o ∨ planRecord s r = .handover m o →
      bandHigh m < binLow s.survey.window b ∨ binHigh s.survey.window b < bandLow m := by
  simp only [shielded, List.any_eq_false, List.mem_range, Bool.not_eq_true, Bool.and_eq_false_iff]
  constructor
  · rintro h r m o (hr | hr)
    all_goals
      have hlt : r < 96 := lt_of_planRecord_ne (s := s) (by rw [hr]; exact nofun)
      have := (h r hlt).resolve_left (by rw [hr]; exact nofun)
      rw [hr] at this
      exact intersects_eq_false.1 this
  · intro h r _
    cases hr : planRecord s r with
    | active m o => exact .inr (intersects_eq_false.2 (h r m o (.inl hr)))
    | handover m o => exact .inr (intersects_eq_false.2 (h r m o (.inr hr)))
    | _ => exact .inl rfl

theorem isHot_iff {b : Nat} : isHot s b = true ↔ ∃ bin, look s.survey.bins b = some bin ∧ 1 ≤ bin.count ∧
    s.survey.window.hot ≤ bin.peak ∧ shielded s b = false := by
  unfold isHot
  split
  · next h => simp [h]
  · next bin h => simp [h, and_assoc]

/-! ## Counts -/

/-- One EDGE comparison is made, whatever the group (R35). -/
theorem edge_countsOf_conflicts : (countsOf (conflicts s named c)).edge ≤ 1 := by
  have hedge (g : BandGroup) (p : Party) : (edgeConflicts g p).length ≤ 1 := by
    unfold edgeConflicts conflictOf
    split
    · exact le_rfl
    · exact Nat.zero_le 1
  have hzero {zs : List Conflict} (h : ∀ z ∈ zs, z.kind ≠ .edge) :
      zs.countP (fun z => conflictKindNumber z.kind == 0) = 0 := by
    refine List.countP_eq_zero.2 fun z hz hk => h z hz ?_
    revert hk
    cases z.kind <;> simp [conflictKindNumber]
  refine (min_le_right _ _).trans ?_
  simp only [conflicts, List.countP_append]
  rw [hzero (zs := spacingConflicts ..), hzero (zs := occupiedConflicts ..), hzero (zs := im2Conflicts ..),
    hzero (zs := im3Conflicts ..)]
  · exact List.countP_le_length.trans (hedge _ _)
  · intro z hz
    obtain ⟨-, a, -, b, -, d, -, v, -, -, -, -, -, rfl⟩ := mem_im3Conflicts.1 hz
    exact ConflictKind.noConfusion
  · intro z hz
    obtain ⟨-, a, -, b, -, v, -, -, -, -, rfl⟩ := mem_im2Conflicts.1 hz
    exact ConflictKind.noConfusion
  · intro z hz
    obtain ⟨b, -, -, rfl⟩ := mem_occupiedConflicts.1 hz
    exact ConflictKind.noConfusion
  · intro z hz
    obtain ⟨v, -, -, rfl⟩ := mem_spacingConflicts.1 hz
    exact ConflictKind.noConfusion

/-! ## The worst conflict -/

theorem length_tieKey (k : ConflictKind) : (tieKey k).length = 6 := by cases k <;> rfl

/-- Keys of one length in lexicographic order (R42). -/
theorem keyBefore_iff_lt {xs ys : List Nat} (h : xs.length = ys.length) : keyBefore xs ys = true ↔ xs < ys := by
  induction xs generalizing ys with
  | nil =>
    cases ys with
    | nil => simp [keyBefore]
    | cons y ys => cases h
  | cons x xs ih =>
    cases ys with
    | nil => cases h
    | cons y ys =>
      rw [List.cons_lt_cons_iff, ← ih (Nat.succ.inj h)]
      simp [keyBefore]

/-- The order of the conflicts from the worst on: by overlap, the larger first, then by key (R42). -/
def Conflict.rank (z : Conflict) : Int ×ₗ List Nat := toLex (-z.overlap, tieKey z.kind)

theorem worse_iff_rank_lt {x y : Conflict} : worse x y = true ↔ x.rank < y.rank := by
  rw [Conflict.rank, Conflict.rank, Prod.Lex.toLex_lt_toLex,
    ← keyBefore_iff_lt ((length_tieKey _).trans (length_tieKey _).symm)]
  simp [worse]

theorem worstOf_eq_none {cs : List Conflict} : worstOf cs = none ↔ cs = [] := by
  cases cs with
  | nil => exact iff_of_true rfl rfl
  | cons c cs =>
    refine iff_of_false (fun h => ?_) nofun
    unfold worstOf at h
    split at h <;> cases h

/-- The worst conflict is the first by rank. -/
theorem worstOf_least {cs : List Conflict} {w : Conflict} (h : worstOf cs = some w) :
    w ∈ cs ∧ ∀ c ∈ cs, w.rank ≤ c.rank := by
  induction cs generalizing w with
  | nil => cases h
  | cons c cs ih =>
    unfold worstOf at h
    split at h
    · next hnone =>
      cases h
      rw [worstOf_eq_none] at hnone
      subst hnone
      exact ⟨List.mem_cons_self, fun x hx => by rw [List.mem_singleton.1 hx]⟩
    · next d hd =>
      obtain ⟨hmem, hleast⟩ := ih hd
      split at h
      · next hworse =>
        cases h
        refine ⟨List.mem_cons_of_mem c hmem, List.forall_mem_cons.2 ⟨(worse_iff_rank_lt.1 hworse).le, hleast⟩⟩
      · next hworse =>
        cases h
        have hle : c.rank ≤ d.rank := not_lt.1 fun hlt => hworse (worse_iff_rank_lt.2 hlt)
        exact ⟨List.mem_cons_self, List.forall_mem_cons.2 ⟨le_rfl, fun x hx => hle.trans (hleast x hx)⟩⟩

/-- What the order of ranks says of overlaps and keys (R42). -/
theorem Conflict.of_rank_le {w : Conflict} (h : w.rank ≤ z.rank) :
    z.overlap ≤ w.overlap ∧ (z.overlap = w.overlap → keyBefore (tieKey z.kind) (tieKey w.kind) = false) := by
  rw [Conflict.rank, Conflict.rank, Prod.Lex.toLex_le_toLex] at h
  dsimp only at h
  refine ⟨by omega, fun heq => ?_⟩
  rw [← Bool.not_eq_true, keyBefore_iff_lt ((length_tieKey _).trans (length_tieKey _).symm), not_lt]
  exact (h.resolve_left (by omega)).2

end

end Sys2Proof.Machine
end

section
namespace Sys2Proof.Proofs
open Sys2Proof.Machine

/-- Settles O15: the comparisons are one list each in `conflicts`, told apart by their kinds. -/
theorem edgeAndSpacingComparisons : Obligations.EdgeAndSpacingComparisons := by
  unfold Obligations.EdgeAndSpacingComparisons
  refine ⟨fun s named c => ?edge, fun s named c v x => ?spacing, fun g n m f hg => ?apart,
    fun g n m f h k hg hh hk => ?meet⟩
  case edge =>
    intro g below above overlap
    have hoverlap : edgeOverlap g (candidateParty c) = overlap := edgeOverlap_eq g (candidateParty c)
    refine ⟨hoverlap, fun x => hoverlap ▸ edge_mem_conflicts, fun hb ha => ?_, fun hg hh => ?_, edge_countsOf_conflicts⟩
    · exact (congrArg₂ (· + ·) (if_neg (not_lt.2 hb)) (if_neg (not_lt.2 ha))).trans (add_zero 0)
    · have hsum : below + above = 2 * c.halfWidth := by
        simp only [below, above, hg]
        omega
      refine ⟨hsum, ?_⟩
      simp only [overlap]
      split <;> split <;> omega
  case spacing =>
    rw [spacing_mem_conflicts]
    constructor
    · rintro ⟨p, hp, rfl, hpos, rfl⟩
      obtain ⟨n, m, hnamed, hm, hgroup, rfl⟩ := mem_members.1 hp
      exact ⟨m, hm, hgroup, hnamed, rfl, hpos⟩
    · rintro ⟨m, hm, hgroup, hnamed, rfl, hpos⟩
      exact ⟨m.party v, mem_members.2 ⟨v, m, hnamed, hm, hgroup, rfl⟩, rfl, hpos, rfl⟩
  case apart =>
    have habs : |f - (f + 45)| = 45 := by rw [sub_add_cancel_left]; rfl
    simp only [spacingOverlap, hg, habs]
    rfl
  case meet =>
    have habs : |f - (f + h + k)| = h + k := by
      rw [add_assoc, sub_add_cancel_left, abs_neg, abs_of_nonneg (add_nonneg hh hk)]
    simp only [spacingOverlap, hg, habs]
    omega

/-- Settles O16: each product is a triple or quadruple of parties of the group, and the worst conflict is the least by
overlap and key. -/
theorem productsAndTheWorstConflict : Obligations.ProductsAndTheWorstConflict := by
  unfold Obligations.ProductsAndTheWorstConflict
  refine ⟨fun s named c => ?_, fun cs => ?counts, fun z => ⟨fun hz => ?recordedEdge, fun hz => ?recorded⟩, fun cs =>
    ⟨worstOf_eq_none, fun w hw => ?worst⟩⟩
  · intro g w low high carrier family
    refine ⟨fun b => ?hot, fun b x => ?occupied, fun f a b v x => ?im2, fun f a b d v x => ?im3,
      fun z hz => overlap_pos hz,
      fun hs hc hspacing hproduct z hz =>
        ⟨recorded_overlap_pos (overlap_pos hz), recorded_overlap_le hs hc hspacing hproduct hz⟩⟩
    case hot =>
      rw [isHot_iff]
      simp only [shielded_eq_false]
      refine exists_congr fun bin => and_congr_right fun _ => and_congr_right fun _ => and_congr_right fun _ => ?_
      exact forall_congr' fun r => forall_congr' fun m => forall_congr' fun o => imp_congr_right fun _ =>
        ⟨fun h => h, fun h => h⟩
    case occupied =>
      rw [occupied_mem_conflicts]
      refine and_congr_right fun _ => and_congr_right fun hpos => ?_
      have hshared (y : Int) : x = max 0 y ↔ x = y := by omega
      exact hshared _
    case im2 =>
      rw [im2_mem_conflicts, nodup_three, List.mem_cons, List.mem_cons, List.mem_singleton, eq_comm (a := 96),
        eq_comm (a := 96), eq_comm (a := 96)]
      exact Iff.rfl
    case im3 =>
      rw [im3_mem_conflicts]
      constructor
      · rintro ⟨hon, ⟨hab, hd⟩, hv, h96, hf, hpos, hcarriers⟩
        refine ⟨hon, (nodup_four hab).2 ⟨hd, hv⟩, hab, List.mem_cons_of_mem a ?_, hf, hpos, hcarriers⟩
        simpa [eq_comm] using h96
      · rintro ⟨hon, hnodup, hab, h96, hf, hpos, ca, cb, cd, cv, hca, hcb, hcarriers⟩
        obtain ⟨hd, hv⟩ := (nodup_four hab).1 hnodup
        have ha : 96 ≠ a := (hab.trans_le (le_of_groupCarrier hcb)).ne'
        have hrest : 96 ∈ [b, d, v] := (List.mem_cons.1 h96).resolve_left ha
        refine ⟨hon, ⟨hab, hd⟩, hv, ?_, hf, hpos, ca, cb, cd, cv, hca, hcb, hcarriers⟩
        simpa [eq_comm] using hrest
  case counts =>
    intro count
    rw [countsOf, Counts.mk.injEq]
    refine ⟨?_, ?_, ?_, ?_, ?_⟩
    all_goals
      refine congrArg (min 255) (List.countP_congr fun z _ => ?_)
      obtain ⟨k, x⟩ := z
      cases k <;> exact Iff.rfl
  case recordedEdge =>
    obtain ⟨k, x⟩ := z
    cases hz
    refine congrArg (Conflict.mk .edge) ?_
    change min x 16635 = if 16635 < x then 16635 else x
    split <;> omega
  case recorded =>
    obtain ⟨k, x⟩ := z
    exact recorded_of_ne_edge hz
  case worst =>
    obtain ⟨hmem, hleast⟩ := worstOf_least hw
    exact ⟨hmem, fun c hc => Conflict.of_rank_le (hleast c hc)⟩

end Sys2Proof.Proofs
end

section
/-! SUPPORT. The host check requests: the free slot, the slots' requests, and what a slot is answered with (R23 to R25,
R30, R31, R41, R44). -/

namespace Sys2Proof.Machine

section
variable {s : State} {p : Port} {k : Nat} {job : Job}

/-! ## Slots and queue -/

/-- The lowest-numbered EMPTY slot (R24, R25). -/
theorem freeSlot_eq_some (hk : k ≤ 3) (hempty : slotAt s k = .empty) (hlow : ∀ j < k, slotAt s j ≠ .empty) :
    freeSlot s = some k := by
  refine head_of_least _ k (indicesWhere_sorted ..)
    ((mem_indicesWhere ..).2 ⟨Nat.lt_succ_of_le hk, beq_iff_eq.2 hempty⟩) fun j hj => ?_
  by_contra hlt
  exact hlow j (not_le.1 hlt) (beq_iff_eq.1 ((mem_indicesWhere ..).1 hj).2)

theorem freeSlot_eq_none (h : ∀ j ≤ 3, slotAt s j ≠ .empty) : freeSlot s = none := by
  refine List.head?_eq_none_iff.2 (List.eq_nil_iff_forall_not_mem.2 fun j hj => ?_)
  obtain ⟨hlt, hempty⟩ := (mem_indicesWhere ..).1 hj
  exact h j (Nat.le_of_lt_succ hlt) (beq_iff_eq.1 hempty)

@[simp] theorem freeSlot_completeFrame : freeSlot (completeFrame p s) = freeSlot s := by
  rw [freeSlot, completeFrame_engine]; rfl

@[simp] theorem slotAt_completeFrame : slotAt (completeFrame p s) k = slotAt s k := by
  rw [slotAt, completeFrame_engine]; rfl

@[simp] theorem aheadOf_completeFrame : aheadOf k (completeFrame p s) = aheadOf k s := by
  rw [aheadOf, completeFrame_engine]; rfl

@[simp] theorem runningProgress_completeFrame : runningProgress (completeFrame p s) = runningProgress s := by
  rw [runningProgress, completeFrame_engine]; rfl

/-- The requests before a slot's own (R30). -/
theorem aheadOf_eq {earlier later : List EngineRequest} (hq : s.engine.queue = earlier ++ ⟨.host k, job⟩ :: later)
    (h : ∀ r ∈ earlier, r.client ≠ .host k) : aheadOf k s = earlier.length := by
  have hbefore (r) (hr : r ∈ earlier) : (r.client != .host k) = true := bne_iff_ne.2 (h r hr)
  rw [aheadOf, hq, List.takeWhile_append_of_pos hbefore, List.takeWhile_cons_of_neg (by simp), List.append_nil]

theorem runningProgress_eq {q : Running} (h : s.engine.running = some q) :
    runningProgress s = (q.evaluated, q.stale) := by
  rw [runningProgress, h]

/-- The state that an accepted CHECK.START or FIND.START leaves before its answer. -/
theorem queueHost_completeFrame : queueHost k job (completeFrame p s) = { completeFrame p s with
    engine.slots := put s.engine.slots k (.queued job)
    engine.queue := s.engine.queue ++ [⟨.host k, job⟩] } := by
  simp only [queueHost, enqueue, setSlot, completeFrame_engine]

/-- The state that emptying a slot leaves before its answer. -/
theorem setSlot_empty_completeFrame : setSlot k .empty (completeFrame p s) =
    { completeFrame p s with engine.slots := put s.engine.slots k .empty } := by
  simp only [setSlot, completeFrame_engine]

/-! ## Answers -/

section
variable {t : State} {code : RequestCode} {rule : State → Verdict}

theorem next_answered {items : List Item} (hc : mutating code = false)
    (hr : rule (completeFrame p s) = .accept items t) :
    (.next (takeRequest p code rule s) : Answer) = .next (answered p code items t) :=
  congrArg Host.Outcome.next (takeRequest_answered (maySend_read hc) hr)

theorem next_refused {st : Status} (hc : mutating code = false) (hr : rule (completeFrame p s) = .refuse st) :
    (.next (takeRequest p code rule s) : Answer) = .next (refusedWith p code st s) :=
  congrArg Host.Outcome.next (takeRequest_refused (maySend_read hc) hr)

end

/-! ## The rules -/

section
variable {c h g : Nat}

theorem checkStartRule_explicit (hg : g ≤ 7) (hk : freeSlot s = some k) :
    checkStartRule (.explicit c h g) s = .accept
      (.one (.index k) :: candidateItems none ⟨clampStep c, clampWidth h, g⟩)
      (queueHost k (.check none ⟨clampStep c, clampWidth h, g⟩) s) := by
  simp only [checkStartRule, hk, if_neg (not_lt.2 hg)]

theorem checkStartRule_explicit_busy (hg : g ≤ 7) (hk : freeSlot s = none) :
    checkStartRule (.explicit c h g) s = .refuse .busy := by
  simp only [checkStartRule, hk, if_neg (not_lt.2 hg)]

theorem checkStartRule_explicit_badField (hg : 7 < g) : checkStartRule (.explicit c h g) s = .refuse .badField := by
  simp only [checkStartRule, if_pos hg]

variable {i : Nat} {x : Carrier}

theorem checkStartRule_record (hi : i ≤ 95) (hx : (planRecord s i).carrier = some x) (hk : freeSlot s = some k) :
    checkStartRule (.record i) s =
      .accept (.one (.index k) :: candidateItems (some i) x) (queueHost k (.check (some i) x) s) := by
  simp only [checkStartRule, hx, hk, if_neg (not_lt.2 hi)]

theorem checkStartRule_record_busy (hi : i ≤ 95) (hx : (planRecord s i).carrier = some x) (hk : freeSlot s = none) :
    checkStartRule (.record i) s = .refuse .busy := by
  simp only [checkStartRule, hx, hk, if_neg (not_lt.2 hi)]

theorem checkStartRule_record_badField (hi : 95 < i) : checkStartRule (.record i) s = .refuse .badField := by
  simp only [checkStartRule, if_pos hi]

theorem checkStartRule_record_badState (hi : i ≤ 95) (hx : planRecord s i = .empty) :
    checkStartRule (.record i) s = .refuse .badState := by
  simp only [checkStartRule, hx, PlanRecord.carrier, if_neg (not_lt.2 hi)]

variable {lo up st lim : Nat}

theorem findStartRule_free (hg : g ≤ 7) (hk : freeSlot s = some k) : findStartRule g lo up st h lim s = .accept
    (.one (.index k) ::
      searchItems ⟨g, clampStep lo, clampStep up, clampWidth st, clampWidth h, clampLimit lim⟩)
    (queueHost k (.find ⟨g, clampStep lo, clampStep up, clampWidth st, clampWidth h, clampLimit lim⟩) s) := by
  simp only [findStartRule, hk, if_neg (not_lt.2 hg)]

theorem findStartRule_busy (hg : g ≤ 7) (hk : freeSlot s = none) :
    findStartRule g lo up st h lim s = .refuse .busy := by
  simp only [findStartRule, hk, if_neg (not_lt.2 hg)]

theorem findStartRule_badField (hg : 7 < g) : findStartRule g lo up st h lim s = .refuse .badField := by
  simp only [findStartRule, if_pos hg]

end

theorem checkReadRule_badField (hk : 3 < k) : checkReadRule k s = .refuse .badField := by
  simp only [checkReadRule, if_pos hk]

theorem checkReadRule_kept (hk : k ≤ 3) (h : ∀ job r, slotAt s k ≠ .done job r) :
    checkReadRule k s = .accept (slotItems (slotAt s k) (aheadOf k s) (runningProgress s)) s := by
  rw [checkReadRule, if_neg (not_lt.2 hk)]
  refine congrArg (Verdict.accept _) ?_
  split
  · next job r hslot => exact absurd hslot (h job r)
  · rfl

theorem checkReadRule_done {r : EngineResult} (hk : k ≤ 3) (h : slotAt s k = .done job r) :
    checkReadRule k s = .accept (slotItems (.done job r) 0 (0, false)) (setSlot k .empty s) := by
  simp only [checkReadRule, h, if_neg (not_lt.2 hk)]
  rfl

theorem checkCancelRule_badField (hk : 3 < k) : checkCancelRule k s = .refuse .badField := by
  simp only [checkCancelRule, if_pos hk]

theorem checkCancelRule_empty (hk : k ≤ 3) (h : slotAt s k = .empty) : checkCancelRule k s = .refuse .badState := by
  simp only [checkCancelRule, h, if_neg (not_lt.2 hk)]

theorem checkCancelRule_queued (hk : k ≤ 3) (h : slotAt s k = .queued job) : checkCancelRule k s = .accept []
    (setSlot k .empty { s with engine.queue := s.engine.queue.filter fun r => r.client != .host k }) := by
  simp only [checkCancelRule, h, if_neg (not_lt.2 hk)]

theorem checkCancelRule_running {q : Running} (hk : k ≤ 3) (h : slotAt s k = .running job)
    (hq : s.engine.running = some q) (hc : q.request.client = .host k) :
    checkCancelRule k s = .accept [] (startHead (setSlot k .empty { s with engine.running := none })) := by
  have hnone : (s.engine.running.filter fun r => r.request.client != .host k) = none := by
    rw [hq, Option.filter_some, if_neg (by simp [hc])]
  simp only [checkCancelRule, h, hnone, if_neg (not_lt.2 hk)]

theorem checkCancelRule_done {r : EngineResult} (hk : k ≤ 3) (h : slotAt s k = .done job r) :
    checkCancelRule k s = .accept [] (setSlot k .empty s) := by
  simp only [checkCancelRule, h, if_neg (not_lt.2 hk)]

end

end Sys2Proof.Machine
end

section
namespace Sys2Proof.Proofs
open Sys2Proof.Machine

/-- Settles O13: each request is one branch of its rule, and a slot's response one case of its record. -/
theorem hostCheckRequests : Obligations.HostCheckRequests := by
  unfold Obligations.HostCheckRequests
  refine ⟨fun p s k => ?starts, fun p s => ?refusals, fun p k s hk => ?slot, fun ahead evaluated stale => ?items⟩
  case starts =>
    intro queued
    have hqueued (job : Job) : queueHost k job (completeFrame p s) = queued job := queueHost_completeFrame
    refine ⟨fun hk hempty hlow => ?_, fun hfull => ?_⟩
    · have hfree : freeSlot (completeFrame p s) = some k :=
        freeSlot_completeFrame.trans (freeSlot_eq_some hk hempty hlow)
      refine ⟨fun c h g hg => next_answered rfl ?_, fun i cand hi hx => next_answered rfl ?_,
        fun g lo up st h lim hg => next_answered rfl ?_⟩
      · exact (checkStartRule_explicit hg hfree).trans (congrArg _ (hqueued _))
      · exact (checkStartRule_record hi ((congrArg _ (planRecord_completeFrame ..)).trans hx) hfree).trans
          (congrArg _ (hqueued _))
      · exact (findStartRule_free hg hfree).trans (congrArg _ (hqueued _))
    · have hnone : freeSlot (completeFrame p s) = none := freeSlot_completeFrame.trans (freeSlot_eq_none hfull)
      exact ⟨fun c h g hg => next_refused rfl (checkStartRule_explicit_busy hg hnone),
        fun i cand hi hx => next_refused rfl
          (checkStartRule_record_busy hi ((congrArg _ (planRecord_completeFrame ..)).trans hx) hnone),
        fun g lo up st h lim hg => next_refused rfl (findStartRule_busy hg hnone)⟩
  case refusals =>
    exact ⟨fun c h g hg => next_refused rfl (checkStartRule_explicit_badField hg),
      fun i hi => next_refused rfl (checkStartRule_record_badField hi),
      fun i hi hx => next_refused rfl
        (checkStartRule_record_badState hi ((planRecord_completeFrame ..).trans hx)),
      fun g lo up st h lim hg => next_refused rfl (findStartRule_badField hg),
      fun k hk => ⟨next_refused rfl (checkReadRule_badField hk), next_refused rfl (checkCancelRule_badField hk)⟩⟩
  case slot =>
    have hslot {v : Slot} (h : slotAt s k = v) : slotAt (completeFrame p s) k = v := slotAt_completeFrame.trans h
    have hkept (h : ∀ job r, slotAt s k ≠ .done job r) : exec (.checkRead p k) s = .next (answered p .checkRead
        (slotItems (slotAt s k) (aheadOf k s) (runningProgress s)) (completeFrame p s)) := by
      refine next_answered rfl ((checkReadRule_kept hk fun job r => by
        rw [slotAt_completeFrame]; exact h job r).trans ?_)
      rw [slotAt_completeFrame, aheadOf_completeFrame, runningProgress_completeFrame]
    refine ⟨hkept, fun job earlier later h hq hearlier => ?_, fun job q h hq => ?_, fun job r h => next_answered rfl ?_,
      fun h => next_refused rfl (checkCancelRule_empty hk (hslot h)), fun job h => next_answered rfl ?_,
      fun job q h hq hc => ⟨_, rfl, next_answered rfl ?_⟩, fun job r h => next_answered rfl ?_⟩
    · refine (hkept fun job r => by rw [h]; exact nofun).trans ?_
      rw [h, aheadOf_eq hq hearlier]
      rfl
    · refine (hkept fun job r => by rw [h]; exact nofun).trans ?_
      rw [h, runningProgress_eq hq]
      rfl
    · exact (checkReadRule_done hk (hslot h)).trans (congrArg _ setSlot_empty_completeFrame)
    · refine (checkCancelRule_queued hk (hslot h)).trans (congrArg _ ?_)
      simp only [setSlot, completeFrame_engine]
    · have hq' : (completeFrame p s).engine.running = some q := by rw [completeFrame_engine, hq]
      refine (checkCancelRule_running hk (hslot h) hq' hc).trans
        (congrArg (fun u => Verdict.accept [] (startHead u)) ?_)
      simp only [setSlot, completeFrame_engine]
    · exact (checkCancelRule_done hk (hslot h)).trans (congrArg _ setSlot_empty_completeFrame)
  case items =>
    intro items absent request family worst
    have hrequest (j : Job) : jobFields j = request j := by cases j <;> rfl
    have hworst (w : Option Conflict) : conflictFields w = worst w := by
      match w with
      | none | some ⟨.edge, _⟩ | some ⟨.spacing _, _⟩ | some ⟨.occupied _, _⟩ => rfl
      | some ⟨.im2 f _ _ _, _⟩ | some ⟨.im3 f _ _ _ _, _⟩ => cases f <;> rfl
    have hverdict (w : Option Conflict) : (if w.isSome then 1 else 0) = if w = none then 0 else 1 := by
      cases w <;> rfl
    have houtcome (x : Option Nat) : (if x.isSome then 0 else 1) = if x = none then 1 else 0 := by
      cases x <;> rfl
    refine ⟨rfl, fun j => ?_, fun j => ?_, fun j r => ?_, fun j r => ?_⟩
    · rw [slotItems, hrequest]
      rfl
    · rw [slotItems, hrequest]
      rfl
    · rw [slotItems, resultFields, hrequest, hworst, hverdict]
      simp only [items, absent, List.append_assoc]
      rfl
    · rw [slotItems, resultFields, hrequest, hworst, houtcome]
      simp only [items, absent, List.append_assoc]
      rfl

end Sys2Proof.Proofs
end

section
/-! SUPPORT. The survey jobs that run, a SAMPLE filed by a job (R47, R54 to R56), and the rules of the survey's requests
(R46, R48, R49, R51 to R53). -/

namespace Sys2Proof.Machine

section
variable {s : State} {v : SurveyJob} {j receiver : Nat} {r : JobRun} {x : Int}

/-! ## Jobs that run -/

theorem isRunning_iff : v.isRunning = true ↔ ∃ r, v = .running r := by
  cases v <;> simp [SurveyJob.isRunning]

theorem runsOn_iff : v.runsOn receiver = true ↔ ∃ r, v = .running r ∧ r.receiver = receiver := by
  cases v <;> simp [SurveyJob.runsOn]

/-- The jobs of the table are all the jobs that can run. -/
theorem any_isRunning_iff : ((List.range 4).any fun j => (jobAt s j).isRunning) = true ↔
    ∃ j r, jobAt s j = .running r := by
  simp only [List.any_eq_true, List.mem_range, isRunning_iff]
  exact ⟨fun ⟨j, _, hj⟩ => ⟨j, hj⟩, fun ⟨j, r, hj⟩ => ⟨j, running_lt hj, r, hj⟩⟩

theorem any_runsOn_iff : ((List.range 4).any fun j => (jobAt s j).runsOn receiver) = true ↔
    ∃ j r, jobAt s j = .running r ∧ r.receiver = receiver := by
  simp only [List.any_eq_true, List.mem_range, runsOn_iff]
  exact ⟨fun ⟨j, _, hj⟩ => ⟨j, hj⟩, fun ⟨j, r, hj, hr⟩ => ⟨j, running_lt hj, r, hj, hr⟩⟩

/-- The job that a receiver's samples go to: no other job runs on the receiver (R50). -/
theorem find_runsOn (h : JobsInOrder s) (hj : jobAt s j = .running r) :
    ((List.range 4).find? fun i => (jobAt s i).runsOn r.receiver) = some j := by
  cases hf : (List.range 4).find? fun i => (jobAt s i).runsOn r.receiver with
  | none =>
    exact absurd (runsOn_iff.2 ⟨r, hj, rfl⟩) (List.find?_eq_none.1 hf j (List.mem_range.2 (running_lt hj)))
  | some i =>
    have hruns : (jobAt s i).runsOn r.receiver = true := by simpa using List.find?_some hf
    obtain ⟨q, hi, hq⟩ := runsOn_iff.1 hruns
    rw [h.2 i j q r hi hj hq]

/-! ## A SAMPLE -/

/-- A run that has filed a sample: the pointer on the next bin, from 255 to 0, and one sample less to come (R54). -/
def JobRun.filed (r : JobRun) : JobRun := { r with pointer := (r.pointer + 1) % 256, remaining := r.remaining - 1 }

/-- What filing a sample writes: the job's bin, the job, and SURVEY_END where the job ends (R54, R55). -/
theorem fileSample_eq (hp : r.pointer ≤ 255) : fileSample j r x s = { s with
    survey.bins := put s.survey.bins r.pointer (some (fileInBin x (look s.survey.bins r.pointer)))
    survey.jobs := put s.survey.jobs j (afterFiling r.filed r.pointer x)
    ctl.causes := if (afterFiling r.filed r.pointer x).isRunning then s.ctl.causes
      else s.ctl.causes ||| causeOnly .surveyEnd } := by
  have hnext : (if r.pointer = 255 then 0 else r.pointer + 1) = (r.pointer + 1) % 256 := by split <;> omega
  rw [JobRun.filed, ← hnext, fileSample]
  generalize afterFiling _ r.pointer x = v
  cases v <;> rfl

theorem takeSample_filed (h : JobsInOrder s) (hj : jobAt s j = .running r) :
    takeSample r.receiver x s = fileSample j r x s := by
  simp only [takeSample, find_runsOn h hj, hj]

theorem takeSample_discarded (h : ∀ j r, jobAt s j = .running r → r.receiver ≠ receiver) :
    takeSample receiver x s = s := by
  have hnone : ((List.range 4).find? fun i => (jobAt s i).runsOn receiver) = none :=
    List.find?_eq_none.2 fun i _ hi => by
      obtain ⟨r, hr, hrec⟩ := runsOn_iff.1 hi
      exact h i r hr hrec
  simp only [takeSample, hnone]

theorem exec_sample (h : receiver ≤ 15) : exec (.sample receiver x) s =
    .next (takeSample receiver (clampLevel x) (completeMessage .receiver s)) :=
  congrArg Host.Outcome.next (if_neg (by simpa [contentMalformed] using h))

theorem exec_sample_malformed (h : 15 < receiver) :
    exec (.sample receiver x) s = .next (discardMalformed .receiver s) :=
  congrArg Host.Outcome.next (if_pos (by simpa [contentMalformed] using h))

theorem jobAt_completeMessage (line : InPort) : jobAt (completeMessage line s) = jobAt s :=
  jobAt_of_standing (standing_completeMessage s line)

end

/-! ## The rules of the survey's requests -/

section
variable {s : State} {p : Port} {j receiver a b n mode w : Nat} {r : JobRun} {x hot : Int}

@[simp] theorem jobAt_completeFrame : jobAt (completeFrame p s) = jobAt s :=
  jobAt_of_standing (standing_completeFrame s p)

/-- The state that a job written by a request leaves before its answer. -/
theorem setJob_completeFrame {v : SurveyJob} : setJob j v (completeFrame p s) =
    { completeFrame p s with survey.jobs := put s.survey.jobs j v } := by
  simp only [setJob, completeFrame_survey]

theorem surveySetupRule_idle (h : ∀ j r, jobAt s j ≠ .running r) : surveySetupRule a w hot s =
    .accept (windowItems ⟨clampStep a, clampWidth w, clampLevel hot⟩) { s with
      survey.window := ⟨clampStep a, clampWidth w, clampLevel hot⟩
      survey.bins := Vector.replicate 256 none } :=
  if_neg (any_isRunning_iff.not.2 fun ⟨j, r, hj⟩ => h j r hj)

theorem surveySetupRule_busy (h : ∃ j r, jobAt s j = .running r) : surveySetupRule a w hot s = .refuse .busy :=
  if_pos (any_isRunning_iff.2 h)

theorem surveyModeChoice_of_le (h : mode ≤ 1) :
    surveyModeChoice x mode = some (if mode = 0 then .sweep else .watch x) := by
  match mode, h with
  | 0, _ => rfl
  | 1, _ => rfl

theorem surveyModeChoice_of_lt (h : 1 < mode) : surveyModeChoice x mode = none := by
  match mode, h with
  | _ + 2, _ => rfl

/-- The job that SURVEY.START makes of its fields (R51). -/
def startedJob (receiver b n mode : Nat) (x : Int) : SurveyJob :=
  .running ⟨receiver, b, if n = 0 ∨ 256 < n then 256 else n, if mode = 0 then .sweep else .watch (clampLevel x)⟩

theorem jobCount_eq (n : Nat) : jobCount n = if n = 0 ∨ 256 < n then 256 else n := by
  unfold jobCount
  split <;> split <;> omega

theorem surveyStartRule_badField (h : 3 < j ∨ 15 < receiver ∨ 255 < b ∨ 1 < mode) :
    surveyStartRule j receiver b n mode x s = .refuse .badField := by
  unfold surveyStartRule
  split
  · rfl
  · next hrange =>
    have hmode : 1 < mode := by simp at hrange; omega
    rw [surveyModeChoice_of_lt hmode]

/-- SURVEY.START with its fields in range (R51). -/
theorem surveyStartRule_eq (hj : j ≤ 3) (hr : receiver ≤ 15) (hb : b ≤ 255) (hm : mode ≤ 1) :
    surveyStartRule j receiver b n mode x s =
      if (jobAt s j).isRunning then .refuse .busy
      else if (List.range 4).any fun i => (jobAt s i).runsOn receiver then .refuse .inUse
      else .accept (jobItems (startedJob receiver b n mode x)) (setJob j (startedJob receiver b n mode x) s) := by
  rw [surveyStartRule, if_neg (by simp; omega), surveyModeChoice_of_le hm, jobCount_eq]
  rfl

theorem surveyStopRule_badField (h : 3 < j) : surveyStopRule j s = .refuse .badField := if_pos h

theorem surveyStopRule_badState (hj : j ≤ 3) (h : ∀ r, jobAt s j ≠ .running r) :
    surveyStopRule j s = .refuse .badState := by
  rw [surveyStopRule, if_neg (not_lt.2 hj)]
  split
  · next r hr => exact absurd hr (h r)
  · rfl

theorem surveyStopRule_running (h : jobAt s j = .running r) :
    surveyStopRule j s = .accept [] (setJob j (.ended r .stopped) s) := by
  have hj : ¬ 3 < j := not_lt.2 (Nat.le_of_lt_succ (running_lt h))
  simp only [surveyStopRule, if_neg hj, h]

theorem surveyReadRule_badField (h : 3 < j) : surveyReadRule j s = .refuse .badField := if_pos h

theorem surveyReadRule_eq (h : j ≤ 3) : surveyReadRule j s = .accept (jobItems (jobAt s j)) s := if_neg (not_lt.2 h)

theorem binsReadRule_badField (h : 255 < a ∨ 255 < b ∨ b < a ∨ 63 < b - a) :
    binsReadRule a b s = .refuse .badField := by
  unfold binsReadRule
  split
  · rfl
  · next hrange =>
    split
    · rfl
    · next horder =>
      refine if_pos ?_
      simp at hrange
      show 64 < b + 1 - a
      omega

theorem indexRun_eq_range' (a b : Nat) : indexRun a b = List.range' a (b + 1 - a) :=
  (List.range'_eq_map_range ..).symm

theorem binsReadRule_eq (hab : a ≤ b) (hb : b ≤ 255) (hlen : b - a ≤ 63) : binsReadRule a b s =
    .accept (windowItems s.survey.window ++
      (List.range' a (b + 1 - a)).map fun i => .one (.bin (look s.survey.bins i))) s := by
  have hlen' : ¬ Config.binsPerRead < b + 1 - a := by
    show ¬ 64 < b + 1 - a
    omega
  rw [binsReadRule, if_neg (by simp; omega), if_neg (not_lt.2 hab), if_neg hlen', indexRun_eq_range']

theorem binsClearRule_badField (h : 255 < a ∨ 255 < b ∨ b < a) : binsClearRule a b s = .refuse .badField :=
  if_pos (by simpa [or_assoc] using h)

/-- The bins with a run of them emptied (R49). -/
def clearedBins (a b : Nat) (bins : Vector (Option Samples) 256) : Vector (Option Samples) 256 :=
  rewrite (fun i v => if a ≤ i && i ≤ b then none else v) bins

theorem look_clearedBins (a b i : Nat) (bins : Vector (Option Samples) 256) :
    look (clearedBins a b bins) i = if a ≤ i ∧ i ≤ b then none else look bins i := by
  rw [clearedBins, look_rewrite]
  by_cases hi : i < 256
  · simp [hi]
  · have hout : look bins i = none := look_out bins i (not_lt.1 hi)
    rw [if_neg hi, hout, ite_self]
    rfl

theorem binsClearRule_eq (hab : a ≤ b) (hb : b ≤ 255) :
    binsClearRule a b s = .accept [] { s with survey.bins := clearedBins a b s.survey.bins } :=
  if_neg (by simp; omega)

end

end Sys2Proof.Machine
end

section
namespace Sys2Proof.Proofs
open Sys2Proof.Machine

/-- Settles O19: the receiver's job is the one that `find_runsOn` names, and `fileSample_eq` says what it writes. -/
theorem sampleFiling : Obligations.SampleFiling := by
  unfold Obligations.SampleFiling
  intro receiver x s level
  refine ⟨fun j r hrec hj hr hs => ?filed, fun hrec hidle => ?discarded, fun hrec => exec_sample_malformed hrec⟩
  case filed =>
    subst hr
    intro run job
    obtain ⟨_, _, hpointer⟩ := hs.1 j r hj
    have hbin : r.pointer < 256 := Nat.lt_succ_of_le hpointer
    have hjobs := jobAt_completeMessage (s := s) .receiver
    refine ⟨_, (exec_sample hrec).trans (congrArg _ ((takeSample_filed (jobsInOrder_congr hs hjobs)
      ((congrFun hjobs j).trans hj)).trans (fileSample_eq hpointer))), ?_, fun i hi => ?_, ?_, fun b hb => ?_, rfl,
      rfl, rfl, rfl, rfl, rfl, rfl⟩
    · exact look_put_self _ _ _ (running_lt hj)
    · exact look_put_ne _ _ _ _ hi
    · exact (look_put_self _ _ _ hbin).trans rfl
    · exact look_put_ne _ _ _ _ hb
  case discarded =>
    refine (exec_sample hrec).trans (congrArg _ (takeSample_discarded fun j r hj => ?_))
    rw [jobAt_completeMessage] at hj
    exact hidle j r hj

/-- Settles O18: each request is one branch of its rule, and a job's record one case of its state. -/
theorem surveyRequests : Obligations.SurveyRequests := by
  unfold Obligations.SurveyRequests
  refine ⟨fun p st w hot s hm hidle => ?setup, fun p st w hot s hm hbusy => ?setupBusy, fun p s => ?refusals,
    fun p j receiver b n mode x s hm hj hr hb hmode => ?start, fun p j r s hm hj => ?stop, fun p j s hj => ?read,
    fun p a b s hab hb hlen => ?binsRead, fun p a b s hm hab hb => ?binsClear, fun _ => rfl,
    fun receiver pointer remaining m => ?items⟩
  case setup =>
    exact congrArg _ (takeRequest_answered hm (surveySetupRule_idle (by rwa [jobAt_completeFrame])))
  case setupBusy =>
    exact congrArg _ (takeRequest_refused hm (surveySetupRule_busy (by rwa [jobAt_completeFrame])))
  case refusals =>
    exact ⟨fun j receiver b n mode x hm h => congrArg _ (takeRequest_refused hm (surveyStartRule_badField h)),
      fun j hm h => congrArg _ (takeRequest_refused hm (surveyStopRule_badField h)),
      fun j hm hj h => congrArg _ (takeRequest_refused hm
        (surveyStopRule_badState hj (by rwa [jobAt_completeFrame]))),
      fun j h => next_refused rfl (surveyReadRule_badField h),
      fun a b h => next_refused rfl (binsReadRule_badField h),
      fun a b hm h => congrArg _ (takeRequest_refused hm (binsClearRule_badField h))⟩
  case start =>
    have hrule := surveyStartRule_eq (s := completeFrame p s) (n := n) (x := x) hj hr hb hmode
    rw [jobAt_completeFrame] at hrule
    refine ⟨fun hidle hfree => congrArg _ (takeRequest_answered hm (hrule.trans ?_)),
      fun r hrun => congrArg _ (takeRequest_refused hm (hrule.trans ?_)),
      fun i r hidle hrun hrec => congrArg _ (takeRequest_refused hm (hrule.trans ?_))⟩
    · rw [if_neg (isRunning_iff.not.2 fun ⟨r, h⟩ => hidle r h),
        if_neg (any_runsOn_iff.not.2 fun ⟨i, r, hi, h⟩ => hfree i r hi h), setJob_completeFrame]
      rfl
    · rw [if_pos (isRunning_iff.2 ⟨r, hrun⟩)]
    · rw [if_neg (isRunning_iff.not.2 fun ⟨r, h⟩ => hidle r h), if_pos (any_runsOn_iff.2 ⟨i, r, hrun, hrec⟩)]
  case stop =>
    refine congrArg _ (takeRequest_answered hm ((surveyStopRule_running ?_).trans (congrArg _ setJob_completeFrame)))
    rwa [jobAt_completeFrame]
  case read =>
    refine next_answered rfl ((surveyReadRule_eq hj).trans ?_)
    rw [jobAt_completeFrame]
  case binsRead =>
    refine next_answered rfl ((binsReadRule_eq hab hb hlen).trans ?_)
    rw [completeFrame_survey]
  case binsClear =>
    refine ⟨clearedBins a b s.survey.bins, congrArg _ (takeRequest_answered hm ((binsClearRule_eq hab hb).trans ?_)),
      fun i => look_clearedBins a b i s.survey.bins⟩
    simp only [completeFrame_survey]
  case items =>
    cases m <;> exact ⟨rfl, rfl, rfl, fun _ => rfl, rfl, rfl⟩

end Sys2Proof.Proofs
end

section
/-! SUPPORT. The link directory's requests that touch no other block: LINK.NOTE, LINK.SET, LINK.PROBE, and the reads and
settings (R62 to R64, R66, R68, R71, R74, R77). -/

namespace Sys2Proof.Machine

section
variable {s : State} {p : Port} {i x k : Nat} {e : EnrolledLink} {n : NotedLink} {q : LinkParams}

/-! ## What the directory's rules see through a frame -/

@[simp] theorem probe_completeFrame : probe (completeFrame p s) x = probe s x := by
  simp only [probe, entry_completeFrame]

@[simp] theorem heldElsewhere_completeFrame : heldElsewhere (completeFrame p s) i x = heldElsewhere s i x := by
  simp only [heldElsewhere, entry_completeFrame]

theorem heldElsewhere_eq_false : heldElsewhere s i x = false ↔ ∀ j, j ≠ i → entryIdent (entry s j) ≠ some x := by
  rw [← Bool.not_eq_true, heldElsewhere_iff]
  exact ⟨fun h j hj hx => h ⟨j, hj, hx⟩, fun h ⟨j, hj, hx⟩ => h j hj hx⟩

/-! ## LINK.PROBE (R66) -/

theorem linkProbeRule_found (h : probe s x = some i) : linkProbeRule x s =
    .accept [.one (.index i), .one (.choice (lifecycleNumber (entry s i)))] s := by
  rw [linkProbeRule, h]

theorem linkProbeRule_notFound (h : probe s x = none) : linkProbeRule x s = .refuse .notFound := by
  rw [linkProbeRule, h]

/-! ## LINK.NOTE (R62, R71) -/

theorem kindChoice_of_le (h : k ≤ 1) : kindChoice k = some (if k = 0 then .camera else .mic) := by
  match k, h with
  | 0, _ => rfl
  | 1, _ => rfl

theorem kindChoice_of_lt (h : 1 < k) : kindChoice k = none := by
  match k, h with
  | _ + 2, _ => rfl

theorem linkNoteRule_badField (h : 63 < i ∨ 1 < k) : linkNoteRule i x k s = .refuse .badField := by
  unfold linkNoteRule
  split
  · rfl
  · next hi => rw [kindChoice_of_lt (h.resolve_left hi)]

/-- LINK.NOTE with its fields in range (R71). -/
theorem linkNoteRule_eq (hi : i ≤ 63) (hk : k ≤ 1) : linkNoteRule i x k s =
    if (entry s i).isEnrolled then .refuse .inUse
    else if heldElsewhere s i x then .refuse .duplicate
    else
      let e := notedEntry (entry s i) x (if k = 0 then .camera else .mic)
      .accept (entryItems e)
        (if notedAs (entry s i) x then setEntry i e s else markChanged i (setEntry i e s)) := by
  rw [linkNoteRule, if_neg (not_lt.2 hi), kindChoice_of_le hk]

theorem notedEntry_same (kind : Kind) : notedEntry (.noted n) n.ident kind =
    .noted ⟨n.ident, kind, n.lastHeard, n.lastResult⟩ := if_pos rfl

/-- An entry that does not hold the ID keeps nothing (R71). -/
theorem notedEntry_other {y : LinkEntry} (kind : Kind) (h : entryIdent y ≠ some x) :
    notedEntry y x kind = .noted ⟨x, kind, none, none⟩ := by
  cases y with
  | noted n => exact if_neg fun hn => h (congrArg some hn)
  | _ => rfl

theorem notedAs_other {y : LinkEntry} (h : entryIdent y ≠ some x) : notedAs y x = false := by
  cases y with
  | noted n => exact beq_eq_false_iff_ne.2 fun hn => h (congrArg some hn)
  | _ => rfl

/-! ## LINK.SET (R74) -/

/-- The settings that parameters given make of those held, where auto-retune is on or off (R74). -/
theorem applyParams_eq (held : LinkSettings) (h : ∀ a, q.autoRetune = some a → a ≤ 1) :
    applyParams held q = some
      { floor := (q.floor.map (min 63)).getD held.floor
        fadeTime := (q.fadeTime.map (clamp 10 10000)).getD held.fadeTime
        lossTime := max ((q.lossTime.map (clamp 100 60000)).getD held.lossTime)
          ((q.fadeTime.map (clamp 10 10000)).getD held.fadeTime)
        autoRetune := (q.autoRetune.map (· == 0)).getD held.autoRetune
        retuneDelay := (q.retuneDelay.map (min 10000)).getD held.retuneDelay } := by
  unfold applyParams
  cases ha : q.autoRetune with
  | none => rfl
  | some a =>
    dsimp only
    rw [onOffChoice_of_le (h a ha)]
    rfl

theorem linkSetRule_badField (h : 63 < i ∨ ∃ a, q.autoRetune = some a ∧ 1 < a) :
    linkSetRule i q s = .refuse .badField := by
  refine if_pos ?_
  rw [Bool.or_eq_true, decide_eq_true_eq]
  refine h.imp_right fun ⟨a, ha, hlt⟩ => ?_
  rw [ha, Option.any_some, onOffChoice_of_lt hlt]
  rfl

/-- LINK.SET with its fields in range passes the test for BAD_FIELD (R74). -/
theorem linkSet_inRange (hi : i ≤ 63) (h : ∀ a, q.autoRetune = some a → a ≤ 1) :
    ¬ (decide (63 < i) || q.autoRetune.any fun n => (onOffChoice n).isNone) = true := by
  rw [Bool.or_eq_true, decide_eq_true_eq]
  rintro (hi' | hany)
  · omega
  · obtain ⟨a, ha, hnone⟩ := (Option.any_eq_true ..).1 hany
    rw [onOffChoice_of_le (h a ha)] at hnone
    cases hnone

theorem linkSetRule_enrolled {settings : LinkSettings} (he : entry s i = .enrolled e)
    (h : ∀ a, q.autoRetune = some a → a ≤ 1) (hs : applyParams e.settings q = some settings) : linkSetRule i q s =
      .accept (entryItems (.enrolled (withSettings settings e)))
        (setEntry i (.enrolled (withSettings settings e)) s) := by
  rw [linkSetRule, if_neg (linkSet_inRange (le_of_enrolled he) h), he]
  dsimp only
  rw [hs]

theorem linkSetRule_badState (hi : i ≤ 63) (h : ∀ a, q.autoRetune = some a → a ≤ 1)
    (he : (entry s i).isEnrolled = false) : linkSetRule i q s = .refuse .badState := by
  rw [linkSetRule, if_neg (linkSet_inRange hi h)]
  split
  · next e hx => rw [hx] at he; cases he
  · rfl

/-! ## The reads and settings (R62 to R64, R68, R77) -/

theorem linkGetRule_badField (h : 63 < i) : linkGetRule i s = .refuse .badField := if_pos h

theorem linkGetRule_eq (h : i ≤ 63) : linkGetRule i s = .accept (entryItems (entry s i)) s := if_neg (not_lt.2 h)

theorem directoryPinRule_badField (h : 48 < x) : directoryPinRule x s = .refuse .badField := if_pos h

theorem directoryPinRule_eq (h : x ≤ 48) :
    directoryPinRule x s = .accept [] { s with dir.pinBound := x, dir.rover := 63 } := if_neg (not_lt.2 h)

theorem directoryAdmitRule_badField (h : 1 < x) : directoryAdmitRule x s = .refuse .badField := by
  rw [directoryAdmitRule, onOffChoice_of_lt h]

theorem directoryAdmitRule_eq (h : x ≤ 1) :
    directoryAdmitRule x s = .accept [] { s with dir.autoAdmit := x == 0 } := by
  rw [directoryAdmitRule, onOffChoice_of_le h]

end

end Sys2Proof.Machine
end

section
namespace Sys2Proof.Proofs
open Sys2Proof.Machine

/-- Settles O23: the rule answers what the lookup of a report finds, and with distinct IDs that is the ID's entry. -/
theorem linkProbe : Obligations.LinkProbe := by
  unfold Obligations.LinkProbe
  refine ⟨fun p id i s hs hi => ?found, fun p id s h => ?notFound, fun _ => rfl⟩
  case found =>
    have hprobe := probe_distinct hs hi
    refine ⟨next_answered rfl ?_, hprobe⟩
    rw [linkProbeRule_found (probe_completeFrame.trans hprobe), entry_completeFrame]
  case notFound => exact next_refused rfl (linkProbeRule_notFound (probe_completeFrame.trans ((probe_none s).2 h)))

/-- Settles O20: LINK.NOTE is decided by the entry and by who holds the ID, LINK.SET by the entry alone. -/
theorem linkNoteAndSet : Obligations.LinkNoteAndSet := by
  unfold Obligations.LinkNoteAndSet
  refine ⟨fun p i id kind s hm hi hk => ?note, fun p i q e s hm he hq => ?set,
    fun p i id kind s hm h => congrArg _ (takeRequest_refused hm (linkNoteRule_badField h)), fun p i q s hm =>
      ⟨fun h => congrArg _ (takeRequest_refused hm (linkSetRule_badField h)), fun hi hq he => ?notEnrolled⟩⟩
  case note =>
    have hrule := linkNoteRule_eq (s := completeFrame p s) (x := id) hi hk
    rw [entry_completeFrame, heldElsewhere_completeFrame] at hrule
    refine ⟨fun n he hid hfree => ?_, fun hfree hown hothers => ?_, fun henrolled => ?_, fun j hfree hj hid => ?_⟩
    · subst hid
      refine congrArg _ (takeRequest_answered hm (hrule.trans ?_))
      rw [heldElsewhere_eq_false.2 hfree, he, notedEntry_same]
      simp [LinkEntry.isEnrolled, notedAs]
    · refine congrArg _ (takeRequest_answered hm (hrule.trans ?_))
      rw [hfree, heldElsewhere_eq_false.2 hothers, notedEntry_other _ hown, notedAs_other hown]
      rfl
    · exact congrArg _ (takeRequest_refused hm (hrule.trans (if_pos henrolled)))
    · refine congrArg _ (takeRequest_refused hm (hrule.trans ?_))
      rw [hfree, (heldElsewhere_iff s i id).2 ⟨j, hj, hid⟩]
      rfl
  case set =>
    refine congrArg _ (takeRequest_answered hm ?_)
    rw [linkSetRule_enrolled ((entry_completeFrame ..).trans he) hq (applyParams_eq e.settings hq)]
    cases q.fadeTime <;> cases q.lossTime <;> cases q.autoRetune <;> rfl
  case notEnrolled =>
    exact congrArg _ (takeRequest_refused hm
      (linkSetRule_badState hi hq (by rwa [entry_completeFrame])))

/-- Settles O24: an entry and a capture are laid out field by field, and each request is one branch of its rule. -/
theorem directoryRequests : Obligations.DirectoryRequests := by
  unfold Obligations.DirectoryRequests
  refine ⟨⟨rfl, fun n => ?noted, fun e => ⟨fun hr => ?mic, fun o m hr => ?camera⟩, rfl, fun c => ?capture⟩,
    fun p s => ⟨fun i hi => ?get, fun i hi => next_refused rfl (linkGetRule_badField hi),
      fun b hm hb => congrArg _ (takeRequest_refused hm (directoryAdmitRule_badField hb)), ?changes, ?captureRead,
      fun b hm hb => ?pin, fun b hm hb => congrArg _ (takeRequest_refused hm (directoryPinRule_badField hb)),
      fun b hm hb => ?autoAdmit, ?directoryGet⟩⟩
  case noted =>
    rcases n with ⟨x, _ | _, heard, _ | _⟩ <;> rfl
  case mic =>
    obtain ⟨⟩ := e
    cases hr
    rfl
  case camera =>
    obtain ⟨⟩ := e
    cases hr
    rfl
  case capture =>
    rcases c with ⟨_ | _, x, _ | _, _, _, _, _, _, _⟩ <;> rfl
  case get =>
    refine next_answered rfl ((linkGetRule_eq hi).trans ?_)
    rw [entry_completeFrame]
  case changes =>
    refine next_answered rfl ?_
    rw [linkChangesRule, completeFrame_ctl_changed]
  case captureRead =>
    refine next_answered rfl ?_
    simp only [captureReadRule, completeFrame_dir]
  case pin => exact congrArg _ (takeRequest_answered hm (directoryPinRule_eq hb))
  case autoAdmit => exact congrArg _ (takeRequest_answered hm (directoryAdmitRule_eq hb))
  case directoryGet =>
    have htoNat (b : Bool) : b.toNat = if b then 1 else 0 := by cases b <;> rfl
    refine next_answered rfl ?_
    rw [directoryGetRule, completeFrame_dir, htoNat]
    rfl

end Sys2Proof.Proofs
end

section
/-! SUPPORT. HEARD reports: where a report lies, the entry that admission claims, and what the steps of R65 leave for
each kind of report (R63, R65 to R70, R86, R89). -/

namespace Sys2Proof.Machine

/-! ## The first of an ordered list that passes a test -/

/-- In an ordered list the test finds the member that passes it before which none does. -/
theorem find?_eq_some_of_first {α : Type} {R : α → α → Prop} {test : α → Bool} {x : α} {xs : List α}
    (hxs : xs.Pairwise R) (hx : x ∈ xs) (htest : test x = true) (hfirst : ∀ y ∈ xs, R y x → test y = false) :
    xs.find? test = some x := by
  induction xs with
  | nil => cases hx
  | cons a as ih =>
    obtain ⟨hbefore, has⟩ := List.pairwise_cons.1 hxs
    rcases List.mem_cons.1 hx with rfl | hx
    · exact List.find?_cons_of_pos htest
    · have hskip : ¬ test a = true := by rw [hfirst a List.mem_cons_self (hbefore x hx)]; exact Bool.false_ne_true
      rw [List.find?_cons_of_neg hskip]
      exact ih has hx fun y hy => hfirst y (List.mem_cons_of_mem a hy)

/-! ## Admission (R69, R70) -/

theorem mem_indexRun {a b x : Nat} : x ∈ indexRun a b ↔ a ≤ x ∧ x ≤ b := by
  rw [indexRun_eq_range', List.mem_range'_1]
  omega

theorem indexRun_sorted (a b : Nat) : (indexRun a b).Pairwise (· < ·) := by
  rw [indexRun_eq_range']
  exact List.pairwise_lt_range'

/-- Admission looks at `a` before `b`: from the rover down, and then from the top down to above the rover (R69). -/
def AdmitsBefore (rover a b : Nat) : Prop :=
  a ≤ rover ∧ (rover < b ∨ b < a) ∨ rover < a ∧ rover < b ∧ b < a

theorem admissionOrder_sorted (rover pinBound : Nat) :
    (admissionOrder rover pinBound).Pairwise (AdmitsBefore rover) := by
  unfold admissionOrder
  refine List.pairwise_append.2 ⟨List.pairwise_reverse.2 ?_, List.pairwise_reverse.2 ?_, fun a ha b hb => ?_⟩
  · refine (indexRun_sorted pinBound rover).imp_of_mem fun {a b} _ hb hab => .inl ⟨(mem_indexRun.1 hb).2, .inr hab⟩
  · refine (indexRun_sorted (rover + 1) 63).imp_of_mem fun {a b} ha hb hab =>
      .inr ⟨(mem_indexRun.1 hb).1, (mem_indexRun.1 ha).1, hab⟩
  · rw [List.mem_reverse, mem_indexRun] at ha hb
    exact .inl ⟨ha.2, .inl hb.1⟩

theorem mem_admissionOrder {rover pinBound x : Nat} (h : pinBound ≤ rover) (hrover : rover ≤ 63) :
    x ∈ admissionOrder rover pinBound ↔ pinBound ≤ x ∧ x ≤ 63 := by
  rw [admissionOrder, List.mem_append, List.mem_reverse, List.mem_reverse, mem_indexRun, mem_indexRun]
  omega

section
variable {s : State} {i l n : Nat} {e : EnrolledLink} {r : HeardReport} {rec_ : RetuneRecord}

theorem claimable_eq_some (hs : RoverInRange s) (hfree : (entry s i).isEnrolled = false) (hi : s.dir.pinBound ≤ i)
    (hi' : i ≤ 63) (hfirst : ∀ j, s.dir.pinBound ≤ j → j ≤ 63 → (entry s j).isEnrolled = false →
      ¬ AdmitsBefore s.dir.rover j i) : claimable s = some i := by
  obtain ⟨_, hbound, hrover⟩ := hs
  refine find?_eq_some_of_first (admissionOrder_sorted _ _) ((mem_admissionOrder hbound hrover).2 ⟨hi, hi'⟩)
    (by rw [hfree]; rfl) fun j hj hji => ?_
  obtain ⟨hj, hj'⟩ := (mem_admissionOrder hbound hrover).1 hj
  cases hfree' : (entry s j).isEnrolled with
  | true => rfl
  | false => exact absurd hji (hfirst j hj hj' hfree')

theorem claimable_eq_none (hs : RoverInRange s)
    (hfull : ∀ j, s.dir.pinBound ≤ j → j ≤ 63 → (entry s j).isEnrolled = true) : claimable s = none := by
  obtain ⟨_, hbound, hrover⟩ := hs
  refine List.find?_eq_none.2 fun j hj => ?_
  obtain ⟨hj, hj'⟩ := (mem_admissionOrder hbound hrover).1 hj
  rw [hfull j hj hj']
  exact Bool.false_ne_true

/-! ## Where a report lies (R86) -/

theorem whereLies_onNewCarrier (hp : e.phase = .ordered rec_ n) (hn : liesOn r.freq (planRecord s n) = true) :
    whereLies s e r.freq = .onNewCarrier rec_ n := by
  simp only [whereLies, hp, hn, if_true]

/-- A report that lies on no new carrier lies on the carrier or is mistuned. -/
theorem whereLies_eq (hn : ∀ rec_ n, e.phase = .ordered rec_ n → liesOn r.freq (planRecord s n) = false) :
    whereLies s e r.freq = if liesOn r.freq (planRecord s e.carrier) then .onCarrier else .mistuned := by
  unfold whereLies
  dsimp only
  split
  · next rec_ n hp => rw [hn rec_ n hp]; rfl
  · rfl

/-! ## A report (R65) -/

theorem whereLies_completeMessage (line : InPort) (f : Nat) :
    whereLies (completeMessage line s) e f = whereLies s e f := by
  simp only [whereLies, planRecord_completeMessage]

theorem exec_heard (hm : r.malformed = false) :
    exec (.heard r) s = .next (moveRover (handleReport r (completeMessage .receiver s))) := by
  refine congrArg Host.Outcome.next (if_neg ?_)
  rw [contentMalformed, hm]
  exact Bool.false_ne_true

theorem handleReport_noted {x : NotedLink} (hs : IdentsDistinct s) (hi : entry s i = .noted x)
    (hx : x.ident = r.ident) :
    handleReport r s = setEntry i (.noted { x with lastHeard := some s.clock }) s := by
  have hprobe : probe s r.ident = some i := probe_distinct hs (by rw [hi, ← hx]; rfl)
  simp only [handleReport, hprobe, hi]

theorem handleReport_enrolled (hs : IdentsDistinct s) (he : entry s l = .enrolled e) (hid : e.ident = r.ident) :
    handleReport r s = reportEnrolled l e r s := by
  have hprobe : probe s r.ident = some l := probe_distinct hs (by rw [he, ← hid]; rfl)
  simp only [handleReport, hprobe, he]

theorem handleReport_stranger (h : ∀ j, entryIdent (entry s j) ≠ some r.ident) :
    handleReport r s = if s.dir.autoAdmit then admitStranger r (capture .unknown r s) else capture .unknown r s := by
  simp only [handleReport, (probe_none s).2 h]
  rfl

theorem admitStranger_claims (h : claimable s = some i) : admitStranger r s =
    markChanged i (setEntry i (.noted ⟨r.ident, reportKind r, some s.clock, none⟩) s) := by
  simp only [admitStranger, h]

theorem admitStranger_full (h : claimable s = none) : admitStranger r s = directoryFullFault s := by
  simp only [admitStranger, h]

theorem reportEnrolled_mistuned (h : whereLies s e r.freq = .mistuned) :
    reportEnrolled l e r s = capture .mistuned r s := by
  simp only [reportEnrolled, h]

theorem identsDistinct_completeMessage (line : InPort) (h : IdentsDistinct s) :
    IdentsDistinct (completeMessage line s) := by
  intro i j x
  rw [entry_completeMessage, entry_completeMessage]
  exact h i j x

end

end Sys2Proof.Machine
end

section
namespace Sys2Proof.Proofs
open Sys2Proof.Machine

/-- Settles O25: the report's ID finds a NOTED entry, none, or a link on neither of whose carriers it lies, and the
first entry in the order of admission is the one claimed. -/
theorem reportsCaptured : Obligations.ReportsCaptured := by
  unfold Obligations.ReportsCaptured
  refine ⟨fun r s hm => ⟨fun i n hs hi hid => ?noted, fun h hoff => ?captured,
    fun i h hon hs hfree hi hi' hfirst => ?admitted, fun h hon hs hfull => ?full⟩,
    fun r l e s hm hs he hid hold hnew => ?mistuned⟩
  case noted =>
    rw [exec_heard hm, handleReport_noted (identsDistinct_completeMessage .receiver hs) hi hid]
    rfl
  case captured =>
    rw [exec_heard hm, handleReport_stranger (s := completeMessage .receiver s) h, completeMessage_dir, hoff]
    rfl
  case admitted =>
    have hclaim : claimable (capture .unknown r (completeMessage .receiver s)) = some i := by
      refine claimable_eq_some hs hfree hi hi' fun j hj hj' hfree' hbefore => ?_
      have hj'' := hfirst j hj hj' hfree'
      change AdmitsBefore s.dir.rover j i at hbefore
      unfold AdmitsBefore at hbefore
      omega
    rw [exec_heard hm, handleReport_stranger (s := completeMessage .receiver s) h, completeMessage_dir, hon, if_pos rfl,
      admitStranger_claims hclaim]
    rfl
  case full =>
    have hclaim : claimable (capture .unknown r (completeMessage .receiver s)) = none := claimable_eq_none hs hfull
    rw [exec_heard hm, handleReport_stranger (s := completeMessage .receiver s) h, completeMessage_dir, hon, if_pos rfl,
      admitStranger_full hclaim]
    rfl
  case mistuned =>
    have hlies : whereLies (completeMessage .receiver s) e r.freq = .mistuned := by
      rw [whereLies_completeMessage, whereLies_eq hnew, hold]
      rfl
    rw [exec_heard hm, handleReport_enrolled (identsDistinct_completeMessage .receiver hs) he hid,
      reportEnrolled_mistuned hlies]
    rfl

end Sys2Proof.Proofs
end

section
/-! SUPPORT. A report on a carrier of an ENROLLED link applied to its presence, good or weak (R84 to R88, R127). -/

namespace Sys2Proof.Machine

section
variable {s : State} {l : Nat} {e : EnrolledLink} {r : HeardReport}

/-- R84, R85, R127: what a write of a link's presence writes. -/
theorem setPresence_frame (p : Presence) (he : entry s l = .enrolled e) : setPresence l p s = { s with
    dir := { s.dir with entries := (setPresence l p s).dir.entries }
    ret := { s.ret with cuePending :=
      if p = .live ∧ e.presence ≠ p ∧ isCamera s l = true then setAdd l s.ret.cuePending else s.ret.cuePending }
    ctl := { s.ctl with
      causes := if e.presence ≠ p ∧ (e.presence = .lost ∨ p = .lost) then s.ctl.causes ||| causeOnly .presence
        else s.ctl.causes
      changed := if e.presence = p then s.ctl.changed else setAdd l s.ctl.changed } } := by
  unfold setPresence
  rw [enrolledLink_eq_some.2 he]
  dsimp only
  by_cases hsame : e.presence = p
  · simp [hsame]
  · have hv : EntriesOnly s (updateLink l (fun e => { e with presence := p }) s) := entriesOnly_updateLink _
    have hcam : isCamera (updateLink l (fun e => { e with presence := p }) s) l = isCamera s l :=
      congrArg Option.isSome (cameraOutput_updateLink fun _ => rfl)
    generalize updateLink l (fun e => { e with presence := p }) s = v at hv hcam ⊢
    have hmarked (causes : BitVec 11) : isCamera { markChanged l v with ctl.causes := causes } l = isCamera s l := hcam
    rw [EntriesOnly] at hv
    rw [if_neg hsame, raise_ite, setCuePending_ite, hmarked, hv]
    simp [hsame, markChanged]

/-- The presence that a report of the margin leaves (R87, R88). -/
def heardPresence (margin : Nat) (e : EnrolledLink) : Presence :=
  if e.settings.floor ≤ margin then .live else weakPresence e.presence

/-- The entry that a report leaves, good or weak, before the echo (R87, R88). -/
def heardEntry (receiver margin : Nat) (now : Clock) (e : EnrolledLink) : EnrolledLink :=
  { e with
    lastHeard := some now, bestReceiver := some receiver, lastMargin := some margin
    lastGood := if e.settings.floor ≤ margin then some now else e.lastGood
    delayTimer := if e.settings.floor ≤ margin then none else e.delayTimer
    presence := heardPresence margin e }

/-- A report writes the entry, and then the presence it leaves. -/
theorem applyPresence_eq (he : entry s l = .enrolled e) : ∃ v, EntriesOnly s v ∧
    applyPresence l e r s = setPresence l (heardPresence (min 63 r.margin) e) v ∧
    entry v l = .enrolled { heardEntry r.receiver (min 63 r.margin) s.clock e with presence := e.presence } ∧
    ∀ j ≠ l, entry v j = entry s j := by
  by_cases hgood : e.settings.floor ≤ min 63 r.margin
  · obtain ⟨v, hv, heq, hl, hne⟩ := goodReport_eq (receiver := r.receiver) (margin := min 63 r.margin) he
    refine ⟨v, hv, ?_, ?_, hne⟩
    · rw [heardPresence, if_pos hgood, ← heq]
      exact if_pos hgood
    · rw [hl, heardEntry, if_pos hgood, if_pos hgood, goodEntry]
  · have hl := entry_updateLink_self (fun e => { e with
      lastHeard := some s.clock, bestReceiver := some r.receiver, lastMargin := some (min 63 r.margin) }) he
    refine ⟨noteReport l r.receiver (min 63 r.margin) s, entriesOnly_updateLink _, ?_, ?_,
      fun j hj => entry_updateLink_ne _ hj⟩
    · have hweak : applyPresence l e r s = weakReport l r.receiver (min 63 r.margin) s := if_neg hgood
      rw [hweak, weakReport, heardPresence, if_neg hgood, noteReport, enrolledLink_eq_some.2 hl]
    · rw [heardEntry, if_neg hgood, if_neg hgood]
      exact hl

/-- A report leaves no link LOST. -/
theorem heardPresence_ne_lost (margin : Nat) (e : EnrolledLink) : heardPresence margin e ≠ .lost := by
  unfold heardPresence weakPresence
  split
  · exact nofun
  · split <;> exact nofun

/-- What a report on a carrier writes before the echo (R84, R85, R127). -/
theorem applyPresence_frame {presence : Presence} (he : entry s l = .enrolled e)
    (hp : heardPresence (min 63 r.margin) e = presence) : applyPresence l e r s = { s with
      dir := { s.dir with entries := (applyPresence l e r s).dir.entries }
      ret := { s.ret with cuePending :=
        if presence = .live ∧ e.presence ≠ .live ∧ isCamera s l = true then setAdd l s.ret.cuePending
        else s.ret.cuePending }
      ctl := { s.ctl with
        causes := if e.presence = .lost then s.ctl.causes ||| causeOnly .presence else s.ctl.causes
        changed := if presence = e.presence then s.ctl.changed else setAdd l s.ctl.changed } } := by
  obtain ⟨v, hv, heq, hl, -⟩ := applyPresence_eq (r := r) he
  have hcam : isCamera v l = isCamera s l := by rw [isCamera_enrolled hl, isCamera_enrolled he]; rfl
  have hlost : presence ≠ .lost := hp ▸ heardPresence_ne_lost _ e
  rw [EntriesOnly] at hv
  rw [heq, hp, setPresence_frame presence hl, hcam, hv]
  have hcue : (presence = .live ∧ e.presence ≠ presence ∧ isCamera s l = true) ↔
      (presence = .live ∧ e.presence ≠ .live ∧ isCamera s l = true) := by
    constructor <;> (rintro ⟨rfl, h⟩; exact ⟨rfl, h⟩)
  have hcause : (e.presence ≠ presence ∧ (e.presence = .lost ∨ presence = .lost)) ↔ e.presence = .lost :=
    ⟨fun h => h.2.resolve_right hlost, fun h => ⟨fun h' => hlost (h' ▸ h), .inl h⟩⟩
  simp only [hcue, hcause, eq_comm (a := presence) (b := e.presence)]

theorem entry_applyPresence_self (he : entry s l = .enrolled e) : entry (applyPresence l e r s) l =
    .enrolled (heardEntry r.receiver (min 63 r.margin) s.clock e) := by
  obtain ⟨v, -, heq, hl, -⟩ := applyPresence_eq (r := r) he
  rw [heq, entry_setPresence_self _ hl]
  rfl

theorem entry_applyPresence_ne {j : Nat} (he : entry s l = .enrolled e) (hj : j ≠ l) :
    entry (applyPresence l e r s) j = entry s j := by
  obtain ⟨v, -, heq, -, hne⟩ := applyPresence_eq (r := r) he
  rw [heq, entry_setPresence_ne _ hj, hne j hj]

/-! ## What the echo comparison keeps of the CUE set and of the causes -/

theorem EchoCompared.mem_cue {t : State} (h : EchoCompared l e s t) (hl : l ∈ s.ret.cuePending) :
    l ∈ t.ret.cuePending := by
  rcases h.cue with hc | hc <;> rw [hc]
  · exact hl
  · exact (mem_setAdd ..).2 (.inl rfl)

theorem EchoCompared.mem_cue_ne {t : State} {j : Nat} (h : EchoCompared l e s t) (hj : j ≠ l) :
    j ∈ t.ret.cuePending ↔ j ∈ s.ret.cuePending := by
  rcases h.cue with hc | hc <;> rw [hc]
  rw [mem_setAdd, or_iff_right hj]

theorem EchoCompared.causeIsSet_ne {t : State} {c : Cause} (h : EchoCompared l e s t) (hc : c ≠ .tallyFault) :
    causeIsSet c t = causeIsSet c s := by
  rcases h.causes with hcauses | hcauses
  · rw [causeIsSet, causeIsSet, hcauses]
  · rw [causeIsSet, causeIsSet, hcauses, isSet_or, beq_eq_false_iff_ne.2 hc, Bool.or_false]

/-- A report that lies on a carrier of its link and completes no retune. -/
theorem reportEnrolled_onCarrier (h : (∀ rec_ n, e.phase = .ordered rec_ n → liesOn r.freq (planRecord s n) = false) ∧
        liesOn r.freq (planRecord s e.carrier) = true ∨
      ∃ rec_ n, e.phase = .ordered rec_ n ∧ liesOn r.freq (planRecord s n) = true ∧
        min 63 r.margin < e.settings.floor) :
    reportEnrolled l e r s = compareEcho l (reportEcho r) (applyPresence l e r s) := by
  rcases h with ⟨hn, hc⟩ | ⟨rec_, n, hp, hn, hweak⟩
  · have hlies : whereLies s e r.freq = .onCarrier := by rw [whereLies_eq hn, hc]; rfl
    simp only [reportEnrolled, hlies]
  · have hcompletes : completes e r = false := decide_eq_false (not_le.2 hweak)
    simp only [reportEnrolled, whereLies_onNewCarrier hp hn, hcompletes, Bool.false_eq_true, if_false]

end

end Sys2Proof.Machine
end

section
namespace Sys2Proof.Proofs
open Sys2Proof.Machine

/-- Settles O26: HEARD applies the report to presence (`x`), compares the echo (`y`) and moves the rover; each step's
writes are one equation. -/
theorem reportsOnTheCarrier : Obligations.ReportsOnTheCarrier := by
  unfold Obligations.ReportsOnTheCarrier
  intro r l e s hm hs he hid margin good hlies presence
  have heu : entry (completeMessage .receiver s) l = .enrolled e := (entry_completeMessage ..).trans he
  have hcamera : isCamera (completeMessage .receiver s) l = isCamera s l := by
    rw [isCamera_enrolled heu, isCamera_enrolled he]
  have hpresence : heardPresence margin e = presence := by
    unfold heardPresence weakPresence
    refine ite_congr rfl (fun _ => rfl) fun _ => ?_
    cases e.presence <;> rfl
  have hexec := exec_heard (s := s) hm
  rw [handleReport_enrolled (identsDistinct_completeMessage .receiver hs) heu hid,
    reportEnrolled_onCarrier (by simpa only [planRecord_completeMessage] using hlies)] at hexec
  have hxframe := applyPresence_frame (r := r) heu hpresence
  have hxl := entry_applyPresence_self (r := r) heu
  have hxj (j : Nat) (hj : j ≠ l) := entry_applyPresence_ne (r := r) heu hj
  rw [hcamera] at hxframe
  generalize applyPresence l e r (completeMessage .receiver s) = x at hexec hxframe hxl hxj
  have hxcue : x.ret.cuePending = if presence = .live ∧ e.presence ≠ .live ∧ isCamera s l = true then
      setAdd l s.ret.cuePending else s.ret.cuePending := by
    rw [hxframe]
    simp only [completeMessage_ret]
  have hy := echoCompared_compareEcho (reportEcho r) hxl
  have hnone : reportEcho r = none → compareEcho l (reportEcho r) x = x := fun h => by rw [h, compareEcho_none]
  generalize compareEcho l (reportEcho r) x = y at hexec hy hnone
  obtain ⟨role, hyl, hkind, houtput⟩ := hy.own
  refine ⟨moveRover y, _, hexec, hyl, rfl, rfl, rfl, rfl, hpresence, rfl, rfl, rfl, rfl, rfl, rfl, rfl, hkind, ?output,
    fun j hj => ?others, ?changed, ?presence, ?cueSet, ?cueExact, fun j hj => ?cueOthers, ?dir, ?retune, ?survey, ?plan,
    ?engine, ?talk, ?tally, ?ret⟩
  case output => exact (cameraOutput_enrolled hyl).trans (houtput.trans (cameraOutput_enrolled he).symm)
  case others => exact (hy.others j hj).trans ((hxj j hj).trans (entry_completeMessage ..))
  case changed =>
    refine hy.changed.trans ?_
    rw [hxframe]
    simp only [completeMessage_ctl]
  case presence =>
    refine (hy.causeIsSet_ne (c := .presence) nofun).trans ?_
    rw [causeIsSet, hxframe]
    dsimp only
    split
    · next h => rw [isSet_or, completeMessage_ctl, h]; rfl
    · next h => rw [completeMessage_ctl, beq_eq_false_iff_ne.2 h, Bool.or_false]; rfl
  case cueSet =>
    intro hlive hheld hcam
    rw [if_pos ⟨hlive, hheld, hcam⟩] at hxcue
    exact hy.mem_cue (hxcue ▸ (mem_setAdd ..).2 (.inl rfl))
  case cueExact => exact fun h => (congrArg (fun u => u.ret.cuePending) (hnone h)).trans hxcue
  case cueOthers =>
    refine (hy.mem_cue_ne hj).trans ?_
    rw [hxcue]
    split <;> simp [hj]
  case dir =>
    refine (congrArg (fun d : Directory => { d with
      rover := if d.rover = d.pinBound then 63 else d.rover - 1 }) hy.dir).trans ?_
    rw [hxframe]
    simp only [completeMessage_dir, moveRover]
  case retune => exact hy.retune.trans (by rw [hxframe]; simp)
  case survey => exact hy.survey.trans (by rw [hxframe]; simp)
  case plan => exact hy.plan.trans (by rw [hxframe]; simp)
  case engine => exact hy.engine.trans (by rw [hxframe]; simp)
  case talk => exact hy.talk.trans (by rw [hxframe]; simp)
  case tally => exact hy.tally.trans (by rw [hxframe]; simp)
  case ret =>
    refine hy.ret.trans ?_
    rw [hxframe]
    simp only [completeMessage_ret]
    rfl

end Sys2Proof.Proofs
end

section
/-! SUPPORT. The part of a state that the laws of the link directory speak of (R60, R63, R72 to R74, R95 to R97, R184),
and the commands that leave it alone. -/

namespace Sys2Proof.Machine

/-- The link entries, the pin bound, the rover and the changed-link set. -/
structure Listing where
  entries : Vector LinkEntry 64
  pinBound : Nat
  rover : Nat
  changed : List Nat

def listing (s : State) : Listing := ⟨s.dir.entries, s.dir.pinBound, s.dir.rover, s.ctl.changed⟩

theorem listing_congr {s t : State} (hd : t.dir = s.dir) (hc : t.ctl.changed = s.ctl.changed) :
    listing t = listing s := by
  simp only [listing, hd, hc]

/-! ## Operations of every block -/

variable (s : State)

@[simp] theorem listing_raise (c : Cause) : listing (raise c s) = listing s := rfl
@[simp] theorem listing_directoryFullFault : listing (directoryFullFault s) = listing s := rfl
@[simp] theorem listing_markStale : listing (markStale s) = listing s := rfl
@[simp] theorem listing_setRecord (i : Nat) (r : PlanRecord) : listing (setRecord i r s) = listing s := rfl
@[simp] theorem listing_removeTunePending (l : Nat) : listing (removeTunePending l s) = listing s := rfl
@[simp] theorem listing_setCuePending (l : Nat) : listing (setCuePending l s) = listing s := rfl
@[simp] theorem listing_removeCuePending (l : Nat) : listing (removeCuePending l s) = listing s := rfl
@[simp] theorem listing_removePasses (l : Nat) : listing (removePasses l s) = listing s := rfl
@[simp] theorem listing_setKey (k : Nat) (v : Key) : listing (setKey k v s) = listing s := rfl
@[simp] theorem listing_setArbiter (l : Nat) (v : Arbiter) : listing (setArbiter l v s) = listing s := rfl
@[simp] theorem listing_placeOrder (o : Nat) (i : MatrixInput) : listing (placeOrder o i s) = listing s := rfl
@[simp] theorem listing_darken (l : Nat) : listing (darken l s) = listing s := rfl
@[simp] theorem listing_capture (k : CaptureKind) (r : HeardReport) : listing (capture k r s) = listing s := rfl
@[simp] theorem listing_discardPartial : listing (discardPartial s) = listing s := rfl
@[simp] theorem listing_framingFault (line : SerialLine) : listing (framingFault line s) = listing s := rfl
@[simp] theorem listing_parityFault (line : SerialLine) : listing (parityFault line s) = listing s := rfl

@[simp] theorem listing_completeFrame (p : Port) : listing (completeFrame p s) = listing s := by cases p <;> rfl

@[simp] theorem listing_respond (p : Port) (r : Response) : listing (respond p r s) = listing s := by
  unfold respond
  split
  · rfl
  · split <;> rfl

@[simp] theorem listing_setPortPartial (line : InPort) (v : Option Partial) :
    listing (setPortPartial line v s) = listing s := by cases line <;> rfl

@[simp] theorem listing_completeMessage (line : InPort) : listing (completeMessage line s) = listing s :=
  listing_setPortPartial s line none

@[simp] theorem listing_discardMalformed (line : InPort) : listing (discardMalformed line s) = listing s :=
  listing_completeMessage s line

/-- A run of operations that each keep the listing keeps it. -/
theorem listing_foldl {α : Type} {f : State → α → State} (hf : ∀ s a, listing (f s a) = listing s) (as : List α) :
    listing (as.foldl f s) = listing s := by
  induction as generalizing s with
  | nil => rfl
  | cons a as ih => rw [List.foldl_cons, ih, hf]

/-! ## Plan records and the survey -/

@[simp] theorem listing_closeRecord (i : Nat) : listing (closeRecord i s) = listing s := by
  unfold closeRecord; split <;> rfl

@[simp] theorem listing_releaseRecord (i : Nat) : listing (releaseRecord i s) = listing s := by
  unfold releaseRecord; split <;> rfl

@[simp] theorem listing_promoteRecord (i : Nat) : listing (promoteRecord i s) = listing s := by
  unfold promoteRecord; split <;> rfl

@[simp] theorem listing_releaseOldRecord (i : Nat) (keep : Bool) :
    listing (releaseOldRecord i keep s) = listing s := by
  unfold releaseOldRecord; split <;> rfl

@[simp] theorem listing_takeSample (r : Nat) (x : Int) : listing (takeSample r x s) = listing s := by
  unfold takeSample
  split
  · rfl
  · split
    · unfold fileSample
      dsimp only
      split_ifs <;> rfl
    · rfl

/-! ## Feeds, tally and return port -/

@[simp] theorem listing_orderFeed (l : Nat) : listing (orderFeed l s) = listing s := by
  unfold orderFeed; split <;> rfl

@[simp] theorem listing_requestFeed (k l : Nat) : listing (requestFeed k l s) = listing s := by
  unfold requestFeed
  dsimp only
  split
  · rfl
  · split
    · simp
    · split <;> simp

@[simp] theorem listing_withdrawFeed (k l : Nat) : listing (withdrawFeed k l s) = listing s := by
  unfold withdrawFeed
  dsimp only
  split_ifs <;> simp

@[simp] theorem listing_refreshStatuses : listing (refreshStatuses s) = listing s := by
  refine listing_foldl s (fun s k => ?_) _
  unfold refreshStatus; dsimp only; split <;> rfl

@[simp] theorem listing_recomputeCue (l : Nat) : listing (recomputeCue l s) = listing s := by
  unfold recomputeCue
  dsimp only
  split_ifs <;> rfl

@[simp] theorem listing_recomputeCues (ls : List Nat) : listing (recomputeCues ls s) = listing s :=
  listing_foldl s (fun s l => listing_recomputeCue s l) ls

@[simp] theorem listing_pressKey (k : Nat) : listing (pressKey k s) = listing s := by
  unfold pressKey
  dsimp only
  split <;> simp [activateKey, deactivateKey, listing_foldl]

@[simp] theorem listing_liftKey (k : Nat) : listing (liftKey k s) = listing s := by
  unfold liftKey
  dsimp only
  split <;> simp [deactivateKey, listing_foldl]

@[simp] theorem listing_becomeDestination (l : Nat) : listing (becomeDestination l s) = listing s := by
  unfold becomeDestination
  split <;> simp [seedArbiter, listing_foldl]

@[simp] theorem listing_statusesAfter (camera : Bool) : listing (statusesAfter camera s) = listing s := by
  cases camera <;> simp [statusesAfter]

@[simp] theorem listing_leaveDestination (l : Nat) (o : Option Nat) :
    listing (leaveDestination l o s) = listing s := by
  cases o <;> rfl

@[simp] theorem listing_takeTally (a : Nat) (f : SourceFlags) : listing (takeTally a f s) = listing s := by
  unfold takeTally
  split
  · rfl
  · dsimp only
    split
    · rw [listing_recomputeCue]; rfl
    · rfl

@[simp] theorem listing_startKeyStatus : listing (startKeyStatus s) = listing s := by
  unfold startKeyStatus; split <;> rfl

@[simp] theorem listing_startOrder : listing (startOrder s) = listing s := by
  unfold startOrder
  repeat' split
  all_goals rfl

@[simp] theorem listing_takeOrderAck (o : Nat) (i : MatrixInput) : listing (takeOrderAck o i s) = listing s := by
  unfold takeOrderAck
  repeat' split
  all_goals rfl

@[simp] theorem listing_startReturn : listing (startReturn s) = listing s := by
  unfold startReturn
  repeat' split
  all_goals rfl

@[simp] theorem listing_takeDone (n : Nat) : listing (takeDone n s) = listing s := by
  unfold takeDone
  repeat' split
  all_goals rfl

@[simp] theorem listing_requeue (m : FlyingMessage) : listing (requeue m s) = listing s := by
  unfold requeue
  repeat' split
  all_goals rfl

/-! ## Requests -/

/-- A request keeps the listing that its rule keeps. -/
theorem listing_takeRequest {p : Port} {c : RequestCode} {rule : State → Verdict}
    (h : ∀ u, listing ((rule u).after u) = listing u) : listing (takeRequest p c rule s) = listing s := by
  obtain ⟨r, ht | ht⟩ := takeRequest_after s p c rule
  · rw [ht, listing_respond, h, listing_completeFrame]
  · rw [ht, listing_respond, listing_completeFrame]

/-- A request whose rule leaves the state as it was. -/
theorem listing_takeRequest_read {p : Port} {c : RequestCode} {rule : State → Verdict}
    (h : ∀ u, (rule u).after u = u) : listing (takeRequest p c rule s) = listing s :=
  listing_takeRequest s fun u => by rw [h u]

theorem listing_groupSetRule (g lo up gs gp two three st lim : Nat) :
    listing ((groupSetRule g lo up gs gp two three st lim s).after s) = listing s := by
  unfold groupSetRule
  dsimp only
  repeat' split
  all_goals rfl

theorem listing_planPutRule (i st c h g : Nat) : listing ((planPutRule i st c h g s).after s) = listing s := by
  unfold planPutRule
  dsimp only
  repeat' split
  all_goals rfl

theorem listing_planDropRule (i : Nat) : listing ((planDropRule i s).after s) = listing s := by
  unfold planDropRule
  repeat' split
  all_goals rfl

theorem listing_checkStartRule (t : CheckTarget) : listing ((checkStartRule t s).after s) = listing s := by
  unfold checkStartRule
  dsimp only
  repeat' split
  all_goals rfl

theorem listing_findStartRule (g lo up st h lim : Nat) :
    listing ((findStartRule g lo up st h lim s).after s) = listing s := by
  unfold findStartRule
  repeat' split
  all_goals rfl

theorem listing_checkReadRule (k : Nat) : listing ((checkReadRule k s).after s) = listing s := by
  unfold checkReadRule
  split
  · rfl
  · dsimp only [after_accept]
    split <;> rfl

theorem listing_surveySetupRule (a w : Nat) (x : Int) :
    listing ((surveySetupRule a w x s).after s) = listing s := by
  unfold surveySetupRule
  split <;> rfl

theorem listing_surveyStartRule (j r b n m : Nat) (x : Int) :
    listing ((surveyStartRule j r b n m x s).after s) = listing s := by
  unfold surveyStartRule
  repeat' split
  all_goals rfl

theorem listing_surveyStopRule (j : Nat) : listing ((surveyStopRule j s).after s) = listing s := by
  unfold surveyStopRule
  repeat' split
  all_goals rfl

theorem listing_binsClearRule (a b : Nat) : listing ((binsClearRule a b s).after s) = listing s := by
  unfold binsClearRule
  split
  · rfl
  · rw [after_accept]
    exact listing_congr rfl rfl

theorem listing_directoryAdmitRule (x : Nat) : listing ((directoryAdmitRule x s).after s) = listing s := by
  unfold directoryAdmitRule
  split <;> rfl

theorem listing_tallyMapRule (a l : Nat) : listing ((tallyMapRule a l s).after s) = listing s := by
  unfold tallyMapRule
  dsimp only
  split
  · rfl
  · rw [after_accept, listing_recomputeCues]
    rfl

theorem listing_lampSetRule (n l c d v : Nat) : listing ((lampSetRule n l c d v s).after s) = listing s := by
  unfold lampSetRule
  dsimp only
  repeat' split
  all_goals rfl

theorem listing_keySetRule (k v m lk src : Nat) (ds : List Nat) :
    listing ((keySetRule k v m lk src ds s).after s) = listing s := by
  unfold keySetRule
  dsimp only
  repeat' split
  all_goals rfl

theorem listing_keyPressRule (k : Nat) : listing ((keyPressRule k s).after s) = listing s := by
  unfold keyPressRule; split <;> simp

theorem listing_keyLiftRule (k : Nat) : listing ((keyLiftRule k s).after s) = listing s := by
  unfold keyLiftRule; split <;> simp

theorem listing_feedDefaultRule (l i : Nat) : listing ((feedDefaultRule l i s).after s) = listing s := by
  unfold feedDefaultRule
  dsimp only
  split
  · rfl
  · rw [after_accept]
    split <;> simp

theorem listing_returnPassRule (l : Nat) (b : List Byte) : listing ((returnPassRule l b s).after s) = listing s := by
  unfold returnPassRule; split_ifs <;> rfl

theorem listing_authorityYieldRule (p : Port) : listing ((authorityYieldRule p s).after s) = listing s := by
  cases p <;> rfl

theorem listing_causeClearRule (c : BitVec 16) : listing ((causeClearRule c s).after s) = listing s := by
  unfold causeClearRule; split <;> rfl

theorem listing_causeMaskRule (m : BitVec 16) : listing ((causeMaskRule m s).after s) = listing s := by
  unfold causeMaskRule; split <;> rfl

/-! ## Every command that leaves the listing -/

/-- The commands that may change a link entry, the pin bound, the rover or the changed-link set. -/
def touchesListing : Instr → Bool
  | .hardwareReset | .runRestart _ | .checkCancel _ _ | .engineStart | .candidateEvaluation
  | .linkNote _ _ _ _ | .linkEnroll _ _ _ _ _ _ _ | .linkSet _ _ _ | .linkRetire _ _ | .linkErase _ _
  | .linkChanges _ | .directoryPin _ _ | .heard _
  | .fadeExpiry _ | .lossExpiry _ | .retuneDelayExpiry _ | .linkRetune _ _ _ _ | .linkHalt _ _ | .retuneLimitExpiry _
  | .tallyOverride _ _ _ => true
  | _ => false

theorem exec_listing {c : Instr} {t : State} (hc : touchesListing c = false) (h : exec c s = .next t) :
    listing t = listing s := by
  cases c <;> cases hc <;> cases h
  case groupSet p g lo up gs gp two three st lim =>
    exact listing_takeRequest s (listing_groupSetRule · g lo up gs gp two three st lim)
  case groupGet p g => exact listing_takeRequest_read s (after_groupGetRule · g)
  case planPut p i st c h g => exact listing_takeRequest s (listing_planPutRule · i st c h g)
  case planDrop p i => exact listing_takeRequest s (listing_planDropRule · i)
  case planGet p i => exact listing_takeRequest_read s (after_planGetRule · i)
  case planList p g => exact listing_takeRequest_read s (after_planListRule · g)
  case checkStart p k => exact listing_takeRequest s (listing_checkStartRule · k)
  case findStart p g lo up st h lim => exact listing_takeRequest s (listing_findStartRule · g lo up st h lim)
  case checkRead p k => exact listing_takeRequest s (listing_checkReadRule · k)
  case surveySetup p a w x => exact listing_takeRequest s (listing_surveySetupRule · a w x)
  case surveyStart p j r b n m x => exact listing_takeRequest s (listing_surveyStartRule · j r b n m x)
  case surveyStop p j => exact listing_takeRequest s (listing_surveyStopRule · j)
  case surveyRead p j => exact listing_takeRequest_read s (after_surveyReadRule · j)
  case binsRead p a b => exact listing_takeRequest_read s (after_binsReadRule · a b)
  case binsClear p a b => exact listing_takeRequest s (listing_binsClearRule · a b)
  case sample r x => split <;> simp
  case linkGet p l => exact listing_takeRequest_read s (after_linkGetRule · l)
  case linkProbe p x => exact listing_takeRequest_read s (after_linkProbeRule · x)
  case directoryAdmit p x => exact listing_takeRequest s (listing_directoryAdmitRule · x)
  case directoryGet p => exact listing_takeRequest s fun _ => rfl
  case captureRead p => exact listing_takeRequest s fun _ => rfl
  case clockRead p => exact listing_takeRequest s fun _ => rfl
  case linkTimers p l => exact listing_takeRequest_read s (after_linkTimersRule · l)
  case retuneLimit p x => exact listing_takeRequest s fun _ => rfl
  case retuneGet p l => exact listing_takeRequest_read s (after_retuneGetRule · l)
  case retuneQueue p => exact listing_takeRequest s fun _ => rfl
  case mixerTallyMessage a f => split <;> simp
  case tallyMap p a l => exact listing_takeRequest s (listing_tallyMapRule · a l)
  case tallySources p a b => exact listing_takeRequest_read s (after_tallySourcesRule · a b)
  case tallyGet p l => exact listing_takeRequest_read s (after_tallyGetRule · l)
  case lampSet p n l c d v => exact listing_takeRequest s (listing_lampSetRule · n l c d v)
  case lampGet p n => exact listing_takeRequest_read s (after_lampGetRule · n)
  case keySet p k v m lk src ds => exact listing_takeRequest s (listing_keySetRule · k v m lk src ds)
  case keyDown k => split <;> simp
  case keyPress p k => exact listing_takeRequest s (listing_keyPressRule · k)
  case keyUp k => split <;> simp
  case keyLift p k => exact listing_takeRequest s (listing_keyLiftRule · k)
  case keyGet p k => exact listing_takeRequest_read s (after_keyGetRule · k)
  case feedDefault p l i => exact listing_takeRequest s (listing_feedDefaultRule · l i)
  case feedGet p l => exact listing_takeRequest_read s (after_feedGetRule · l)
  case matrixGet p o => exact listing_takeRequest_read s (after_matrixGetRule · o)
  case keyStatusSendStart => exact listing_startKeyStatus s
  case keyStatusSendEnd => rfl
  case orderSendStart => exact listing_startOrder s
  case orderAck o i => split <;> simp
  case orderTimeout =>
    repeat' split
    all_goals rfl
  case returnPass p l b => exact listing_takeRequest s (listing_returnPassRule · l b)
  case returnGet p => exact listing_takeRequest s fun _ => rfl
  case returnSendStart => exact listing_startReturn s
  case doneMessage n => simp
  case returnTimeout =>
    split
    · split
      · exact listing_requeue _ _
      · rfl
    · rfl
  case authorityYield p => exact listing_takeRequest s (listing_authorityYieldRule · p)
  case causeRead p => exact listing_takeRequest s fun _ => rfl
  case causeClear p c => exact listing_takeRequest s (listing_causeClearRule · c)
  case causeMask p m => exact listing_takeRequest s (listing_causeMaskRule · m)
  case portFaults p => exact listing_takeRequest s fun _ => rfl
  case badFrame p b => split <;> simp [answerBadFrame]
  case readTransaction n => rfl
  case lineBreak => unfold takeAuthority; split <;> rfl
  case serviceCharacterError e => cases e <;> rfl
  case serviceGapExpiry =>
    repeat' split
    all_goals rfl
  case serviceResponseEnd => split <;> rfl
  case portByteError line e =>
    cases e with
    | parity => simp
    | noStop => simp
    | unknownType => dsimp only; split <;> simp
  case inputGapExpiry line =>
    split
    · split <;> simp
    · rfl
  case malformedMessage line b => split <;> simp

/-! ## Steps without a command -/

theorem listing_gather (a : Arrival) : listing (gather a s) = listing s := by
  unfold gather
  split
  · unfold gatherService
    dsimp only
    split <;> rfl
  · unfold gatherPort
    dsimp only
    split
    · rfl
    · split
      · exact listing_setPortPartial ..
      · exact listing_completeMessage ..
  · unfold takeTransaction
    split <;> rfl

theorem listing_idle : listing (idle s) = listing s := by
  unfold idle
  split
  · next a rest _ => exact listing_gather { s with arriving := rest } a
  · rfl

end Sys2Proof.Machine
end

section
/-! SUPPORT. What an operation keeps of the link directory: each entry's ID, return audio output, parameters and
retune-delay timer, the rover, and the changed-link set (R60, R63, R72 to R74, R95 to R97, R184). -/

namespace Sys2Proof.Machine

section
variable {r s t u : State} {l : Nat} {e : EnrolledLink} {x y z : LinkEntry}

/-! ## What is kept of an entry -/

/-- The return audio output of an ENROLLED CAMERA's entry (4.1). -/
def entryOutput : LinkEntry → Option Nat
  | .enrolled e => roleOutput e.role
  | _ => none

theorem cameraOutput_eq (s : State) (l : Nat) : cameraOutput s l = entryOutput (entry s l) := by
  cases he : entry s l with
  | enrolled e => rw [cameraOutput_enrolled he]; rfl
  | _ => rw [cameraOutput, he]; rfl

/-- The parameters lie in the ranges of 4.1, the loss time not below the fade time (R73, R74). -/
def InRanges (p : LinkSettings) : Prop :=
  p.floor ≤ 63 ∧ 10 ≤ p.fadeTime ∧ p.fadeTime ≤ 10000 ∧ 100 ≤ p.lossTime ∧ p.lossTime ≤ 60000 ∧
    p.fadeTime ≤ p.lossTime ∧ p.retuneDelay ≤ 10000

/-- An ENROLLED entry's parameters lie in their ranges. -/
def SettingsFit (x : LinkEntry) : Prop := ∀ e, x = .enrolled e → InRanges e.settings

/-- An ENROLLED entry's retune-delay timer runs only where it belongs (R97). -/
def TimerFits (x : LinkEntry) : Prop :=
  ∀ e, x = .enrolled e → e.delayTimer.isSome → e.presence = .fading ∧ e.phase = .none ∧ e.settings.autoRetune = true

theorem settingsInRange_iff : SettingsInRange s ↔ ∀ l, SettingsFit (entry s l) := Iff.rfl

theorem delayTimersBelong_iff : DelayTimersBelong s ↔ ∀ l, TimerFits (entry s l) := Iff.rfl

theorem timerFits_enrolled : TimerFits (.enrolled e) ↔
    (e.delayTimer.isSome → e.presence = .fading ∧ e.phase = .none ∧ e.settings.autoRetune = true) :=
  ⟨fun h => h e rfl, fun h _ he => LinkEntry.enrolled.inj he ▸ h⟩

theorem timerFits_stopped (h : e.delayTimer = none) : TimerFits (.enrolled e) :=
  timerFits_enrolled.2 fun hsome => by rw [h] at hsome; cases hsome

/-- A timer that fits does not run but in FADING and phase NONE. -/
theorem stopped_of_timerFits (h : TimerFits (.enrolled e)) (hne : e.presence ≠ .fading ∨ e.phase ≠ .none) :
    e.delayTimer = none := by
  cases ht : e.delayTimer with
  | none => rfl
  | some d =>
    obtain ⟨hfading, hphase, -⟩ := timerFits_enrolled.1 h (by rw [ht]; rfl)
    exact absurd hne (not_or.2 ⟨not_not.2 hfading, not_not.2 hphase⟩)

/-- From `x` to `y` an entry takes no ID and no return audio output that it did not hold, and its parameters and its
timer stay such as the laws have them. -/
structure EntryKept (x y : LinkEntry) : Prop where
  ident : ∀ a, entryIdent y = some a → entryIdent x = some a
  output : ∀ o, entryOutput y = some o → entryOutput x = some o
  settings : SettingsFit x → SettingsFit y
  timer : TimerFits x → TimerFits y

theorem EntryKept.refl (x : LinkEntry) : EntryKept x x := ⟨fun _ => id, fun _ => id, id, id⟩

theorem EntryKept.trans (h : EntryKept x y) (h' : EntryKept y z) : EntryKept x z :=
  ⟨fun a ha => h.ident a (h'.ident a ha), fun o ho => h.output o (h'.output o ho), h'.settings ∘ h.settings,
    h'.timer ∘ h.timer⟩

/-- A link that keeps its ID, output and parameters, whose timer fits where the entry at the start did. -/
theorem EntryKept.relink {e' : EnrolledLink} (h : EntryKept x (.enrolled e)) (hident : e'.ident = e.ident)
    (hrole : roleOutput e'.role = roleOutput e.role) (hset : e'.settings = e.settings)
    (htimer : TimerFits x → TimerFits (.enrolled e')) : EntryKept x (.enrolled e') where
  ident a ha := h.ident a (by rwa [entryIdent, hident] at ha)
  output o ho := h.output o (by rwa [entryOutput, hrole] at ho)
  settings hx _ he := by
    cases he
    rw [hset]
    exact h.settings hx e rfl
  timer := htimer

theorem EntryKept.link {e' : EnrolledLink} (hident : e'.ident = e.ident)
    (hrole : roleOutput e'.role = roleOutput e.role) (hset : e'.settings = e.settings)
    (htimer : TimerFits (.enrolled e) → TimerFits (.enrolled e')) : EntryKept (.enrolled e) (.enrolled e') :=
  (EntryKept.refl _).relink hident hrole hset htimer

/-- An entry that is no longer ENROLLED keeps its ID or holds none. -/
theorem EntryKept.free (hy : y.isEnrolled = false) (hident : ∀ a, entryIdent y = some a → entryIdent x = some a) :
    EntryKept x y where
  ident := hident
  output o ho := by
    cases y with
    | enrolled e => cases hy
    | _ => cases ho
  settings _ e he := by rw [he] at hy; cases hy
  timer _ e he := by rw [he] at hy; cases hy

/-! ## What is kept of the directory -/

/-- From `s` to `t` every entry is kept and the pin bound and the rover stay, and the changed-link set stays one. -/
structure DirectoryKept (s t : State) : Prop where
  entries : ∀ l, EntryKept (entry s l) (entry t l)
  pinBound : t.dir.pinBound = s.dir.pinBound
  rover : t.dir.rover = s.dir.rover
  changed : ChangedSetOrdered s → ChangedSetOrdered t

theorem DirectoryKept.trans (h : DirectoryKept s t) (h' : DirectoryKept t u) : DirectoryKept s u :=
  ⟨fun l => (h.entries l).trans (h'.entries l), h'.pinBound.trans h.pinBound, h'.rover.trans h.rover,
    h'.changed ∘ h.changed⟩

theorem DirectoryKept.of_listing (h : listing t = listing s) : DirectoryKept s t where
  entries l := by
    rw [entry, entry, show t.dir.entries = s.dir.entries from congrArg Listing.entries h]
    exact .refl _
  pinBound := congrArg Listing.pinBound h
  rover := congrArg Listing.rover h
  changed hs := by rwa [ChangedSetOrdered, show t.ctl.changed = s.ctl.changed from congrArg Listing.changed h]

theorem DirectoryKept.entry_of (h : DirectoryKept s t) (hl : entry t l = x) : EntryKept (entry s l) x :=
  hl ▸ h.entries l

theorem DirectoryKept.refl (s : State) : DirectoryKept s s := .of_listing rfl

theorem DirectoryKept.after (h : DirectoryKept t u) (ht : listing t = listing s) : DirectoryKept s u :=
  (of_listing ht).trans h

theorem DirectoryKept.then_listing (h : DirectoryKept s t) (hu : listing u = listing t) : DirectoryKept s u :=
  h.trans (.of_listing hu)

/-- An entry is written that is kept of the one at the start. -/
theorem DirectoryKept.setEntry (h : DirectoryKept s t) (hx : EntryKept (entry s l) x) :
    DirectoryKept s (setEntry l x t) where
  entries j := by
    rw [entry_setEntry]
    split
    · next hj => exact hj.1 ▸ hx
    · exact h.entries j
  pinBound := h.pinBound
  rover := h.rover
  changed := h.changed

theorem changedSetOrdered_markChanged (hl : l < 64) (h : ChangedSetOrdered s) : ChangedSetOrdered (markChanged l s) :=
  indexSet_setAdd hl h

theorem DirectoryKept.markChanged (h : DirectoryKept s t) (hl : l < 64) : DirectoryKept s (markChanged l t) :=
  { h with changed := fun hs => changedSetOrdered_markChanged hl (h.changed hs) }

/-- A link's entry is written so that its own entry stays kept. -/
theorem directoryKept_updateLink {f : EnrolledLink → EnrolledLink}
    (hf : ∀ e, entry s l = .enrolled e → EntryKept (.enrolled e) (.enrolled (f e))) :
    DirectoryKept s (updateLink l f s) := by
  unfold updateLink
  split
  · next e he => exact (DirectoryKept.refl s).setEntry (he ▸ hf e he)
  · exact .refl s

/-! ## Searches -/

theorem directoryKept_setPlace (place : SearchPlace) : DirectoryKept s (setPlace place l s) := by
  refine directoryKept_updateLink fun e _ => .link rfl rfl rfl fun h => timerFits_enrolled.2 fun ht => ?_
  obtain ⟨hfading, hphase, hauto⟩ := timerFits_enrolled.1 h ht
  exact ⟨hfading, by rw [hphase], hauto⟩

theorem directoryKept_queueSearch : DirectoryKept s (queueSearch l s) := by
  unfold queueSearch
  split
  · exact (directoryKept_setPlace .inEngine).after rfl
  · exact .refl s

theorem directoryKept_joinWaitList : DirectoryKept s (joinWaitList l s) :=
  (directoryKept_setPlace (s := { s with retune.waitList := _ }) .waiting).after rfl

theorem directoryKept_placeSearch : DirectoryKept s (placeSearch l s) := by
  unfold placeSearch
  split
  · exact directoryKept_queueSearch
  · exact directoryKept_joinWaitList

theorem directoryKept_serveWaitList : DirectoryKept s (serveWaitList s) := by
  unfold serveWaitList
  split
  · exact .refl s
  · split
    · exact directoryKept_queueSearch.after rfl
    · exact .refl s

/-! ## Retunes -/

/-- A retune starts whose link's timer does not run, where it fitted at the start (R97, R102). -/
theorem DirectoryKept.startSeeking (h : DirectoryKept r s) (o : Origin) (k : Bool) (he : entry s l = .enrolled e)
    (ht : TimerFits (entry r l) → e.delayTimer = none) : DirectoryKept r (startSeeking o k l s) := by
  have hlink : EntryKept (entry r l) (.enrolled { e with
      phase := .seeking ⟨o, k, deadlineAfter s.retune.limit s⟩ .waiting }) :=
    (h.entry_of he).relink rfl rfl rfl fun hr => timerFits_stopped (ht hr)
  unfold Machine.startSeeking
  dsimp only
  rw [updateLink_enrolled s _ he]
  exact ((h.setEntry hlink).markChanged (enrolled_lt s he)).trans (directoryKept_placeSearch.after rfl)

/-- The link enters ORDERED, whose timer does not run where it fitted (R97, R109). -/
theorem directoryKept_enterOrdered (rec_ : RetuneRecord) (n : Nat) (he : entry s l = .enrolled e)
    (ht : TimerFits (.enrolled e) → e.delayTimer = none) : DirectoryKept s (enterOrdered rec_ n l s) := by
  have hlink : DirectoryKept s (updateLink l (fun e => { e with phase := .ordered rec_ n }) s) := by
    refine directoryKept_updateLink fun e' he' => ?_
    cases he.symm.trans he'
    exact .link rfl rfl rfl fun h => timerFits_stopped (ht h)
  refine (hlink.markChanged (enrolled_lt s he)).then_listing ?_
  rw [enterOrdered_eq, updateLink_frame]
  rfl

theorem directoryKept_endRetune (result : RetuneResult) (hl : l < 64) : DirectoryKept s (endRetune result l s) := by
  have hlink : DirectoryKept s (updateLink l (fun e => { e with phase := .none, lastResult := result }) s) := by
    refine directoryKept_updateLink fun e _ => .link rfl rfl rfl fun h => timerFits_enrolled.2 fun ht => ?_
    obtain ⟨hfading, -, hauto⟩ := timerFits_enrolled.1 h ht
    exact ⟨hfading, rfl, hauto⟩
  exact (hlink.markChanged hl).then_listing rfl

theorem directoryKept_applySearchResult (f : FindResult) : DirectoryKept s (applySearchResult l f s) := by
  unfold applySearchResult
  split
  · next e he =>
    have hl := enrolled_lt s he
    split
    · next rec_ place hp =>
      split
      · exact directoryKept_joinWaitList
      · split
        · exact directoryKept_endRetune _ hl
        · dsimp only
          split
          · exact directoryKept_endRetune _ hl
          · exact directoryKept_endRetune _ hl
          · next n t ho =>
            obtain ⟨-, -, -, rfl⟩ := openFromSearch_inv ho
            have hstopped : TimerFits (.enrolled e) → e.delayTimer = none := fun h =>
              stopped_of_timerFits h (.inr (by rw [hp]; exact nofun))
            refine DirectoryKept.after (directoryKept_enterOrdered rec_ n ?_ hstopped) rfl
            rwa [entry_markStale, entry_setRecord]
    · exact .refl s
  · exact .refl s

/-! ## The engine -/

theorem directoryKept_deliverResult (q : EngineRequest) (result : EngineResult) :
    DirectoryKept s (deliverResult q result s) := by
  unfold deliverResult
  split
  · exact .of_listing rfl
  · refine DirectoryKept.trans ?_ directoryKept_serveWaitList
    cases result with
    | find f => exact (directoryKept_applySearchResult f).after rfl
    | check c => exact .of_listing rfl

theorem directoryKept_startHeads (n : Nat) (s : State) : DirectoryKept s (startHeads n s) := by
  induction n generalizing s with
  | zero => exact .refl s
  | succ n ih =>
    unfold startHeads
    split
    · next q rest _ _ =>
      have hbegin : DirectoryKept s (beginRequest q rest s) := .of_listing (by unfold beginRequest; split <;> rfl)
      dsimp only
      split
      · exact hbegin.trans ((directoryKept_deliverResult q _).trans (ih _))
      · exact hbegin
    · exact .refl s

theorem directoryKept_startHead : DirectoryKept s (startHead s) := directoryKept_startHeads _ s

theorem directoryKept_completeRequest (q : EngineRequest) (result : EngineResult) :
    DirectoryKept s (completeRequest q result s) :=
  (directoryKept_deliverResult q result).trans directoryKept_startHead

theorem directoryKept_evaluateRunning (s : State) : DirectoryKept s (evaluateRunning s) := by
  unfold evaluateRunning
  split
  · exact .refl s
  · split
    · exact directoryKept_completeRequest ..
    · dsimp only
      split
      · exact directoryKept_completeRequest ..
      · split
        · exact directoryKept_completeRequest ..
        · exact .of_listing rfl

theorem directoryKept_checkCancelRule (k : Nat) (s : State) : DirectoryKept s ((checkCancelRule k s).after s) := by
  unfold checkCancelRule
  split
  · exact .refl s
  · split
    · exact .refl s
    · exact .of_listing rfl
    · exact directoryKept_startHead.after rfl
    · exact .of_listing rfl

/-! ## Aborts and completions -/

theorem directoryKept_cancelSearch : DirectoryKept s (cancelSearch l s) := by
  have hleft : DirectoryKept s (serveWaitList (cancelInternal l s)) := directoryKept_serveWaitList.after rfl
  unfold cancelSearch
  dsimp only
  split
  · exact hleft.trans directoryKept_startHead
  · exact hleft

theorem directoryKept_abortRetune (s : State) (result : RetuneResult) (l : Nat) :
    DirectoryKept s (abortRetune result l s) := by
  unfold abortRetune
  split
  · next e he =>
    have hl := enrolled_lt s he
    split
    · exact .refl s
    · exact (directoryKept_endRetune result hl).trans directoryKept_cancelSearch
    · exact directoryKept_endRetune result hl
    · exact (directoryKept_endRetune result hl).after (by simp)
  · exact .refl s

theorem directoryKept_completeRetune (rec_ : RetuneRecord) (n : Nat) : DirectoryKept s (completeRetune rec_ n l s) := by
  unfold completeRetune
  split
  · next e he =>
    dsimp only
    refine DirectoryKept.trans ?_ (directoryKept_endRetune .done (enrolled_lt s he))
    refine DirectoryKept.then_listing (DirectoryKept.after (directoryKept_updateLink (l := l)
      (f := fun e => { e with carrier := n }) fun e _ => ?_) ?_) (listing_removeTunePending _ l)
    · exact .link rfl rfl rfl fun h => timerFits_enrolled.2 (h e rfl)
    · rw [listing_releaseOldRecord, listing_promoteRecord]
  · exact .refl s

end
end Sys2Proof.Machine
end

section
/-! SUPPORT. Presence, reports, expiries and the directory's requests keep the directory; so does every command
(R60, R63, R72 to R74, R95 to R97, R184). -/

namespace Sys2Proof.Machine

section
variable {r s t u : State} {l : Nat} {e : EnrolledLink} {x : LinkEntry}

/-! ## Presence -/

theorem directoryKept_stopDelay (l : Nat) (s : State) : DirectoryKept s (stopDelay l s) :=
  directoryKept_updateLink fun _ _ => .link rfl rfl rfl fun _ => timerFits_stopped rfl

/-- The presence of a link is written that fits its timer. -/
theorem directoryKept_setPresence (p : Presence) (he : entry s l = .enrolled e)
    (hp : TimerFits (.enrolled e) → TimerFits (.enrolled { e with presence := p })) :
    DirectoryKept s (setPresence l p s) where
  entries j := by
    by_cases hj : j = l
    · subst hj
      rw [he, entry_setPresence_self p he]
      exact .link rfl rfl rfl hp
    · rw [entry_setPresence_ne p hj]
      exact .refl _
  pinBound := by rw [setPresence_frame p he]
  rover := by rw [setPresence_frame p he]
  changed h := by
    rw [ChangedSetOrdered, setPresence_frame p he]
    dsimp only
    split
    · exact h
    · exact changedSetOrdered_markChanged (enrolled_lt s he) h

/-- A link without a running timer may take any presence. -/
theorem timerFits_setPresence {p : Presence} (h : TimerFits (.enrolled e))
    (hne : e.presence ≠ .fading ∨ e.phase ≠ .none) : TimerFits (.enrolled { e with presence := p }) :=
  timerFits_stopped (e := { e with presence := p }) (stopped_of_timerFits (e := e) h hne)

theorem directoryKept_applyPresence (q : HeardReport) (he : entry s l = .enrolled e) :
    DirectoryKept s (applyPresence l e q s) where
  entries j := by
    by_cases hj : j = l
    · subst hj
      rw [he, entry_applyPresence_self he]
      refine .link rfl rfl rfl fun h => timerFits_enrolled.2 fun ht => ?_
      unfold heardEntry heardPresence at ht ⊢
      dsimp only at ht ⊢
      split at ht
      · cases ht
      · next hweak =>
        obtain ⟨hfading, hphase, hauto⟩ := timerFits_enrolled.1 h ht
        exact ⟨by rw [if_neg hweak, hfading]; rfl, hphase, hauto⟩
    · rw [entry_applyPresence_ne he hj]
      exact .refl _
  pinBound := by rw [applyPresence_frame he rfl]
  rover := by rw [applyPresence_frame he rfl]
  changed h := by
    rw [ChangedSetOrdered, applyPresence_frame he rfl]
    dsimp only
    split
    · exact h
    · exact changedSetOrdered_markChanged (enrolled_lt s he) h

theorem directoryKept_compareEcho (echo : Option Cue) : DirectoryKept s (compareEcho l echo s) := by
  by_cases henrolled : ∃ e, entry s l = .enrolled e
  · obtain ⟨e, he⟩ := henrolled
    have h := echoCompared_compareEcho echo he
    obtain ⟨role, hl, -, hrole⟩ := h.own
    refine ⟨fun j => ?_, by rw [h.dir], by rw [h.dir], fun hs => by rwa [ChangedSetOrdered, h.changed]⟩
    by_cases hj : j = l
    · subst hj
      rw [he, hl]
      exact .link rfl hrole rfl fun h => timerFits_enrolled.2 (h e rfl)
    · rw [h.others j hj]
      exact .refl _
  · unfold compareEcho
    split
    · next he => exact absurd ⟨_, enrolledLink_eq_some.1 he⟩ henrolled
    · exact .refl s

/-! ## Expiries -/

theorem live_of_fadeReached (h : watchedReached (fadeDeadline e) s = true) : e.presence = .live := by
  unfold fadeDeadline at h
  split at h
  · next hp => exact hp
  · cases h

theorem directoryKept_fade (he : entry s l = .enrolled e) (hlive : e.presence = .live) :
    DirectoryKept s (fade l e s) := by
  have hne : e.presence ≠ .fading := by rw [hlive]; exact nofun
  have hset (p : Presence) : DirectoryKept s (setPresence l p s) :=
    directoryKept_setPresence p he fun h => timerFits_setPresence h (.inl hne)
  unfold fade
  split
  · exact hset .lost
  · unfold startDelay
    have hl := entry_setPresence_self .fading he
    split
    · next hauto =>
      rw [Bool.and_eq_true, beq_iff_eq] at hauto
      split
      · exact (hset .fading).startSeeking _ _ hl fun h => stopped_of_timerFits (e := e) (he ▸ h) (.inl hne)
      · rw [updateLink_enrolled _ _ hl]
        refine (hset .fading).setEntry (((hset .fading).entry_of hl).relink rfl rfl rfl fun _ => ?_)
        exact timerFits_enrolled.2 fun _ => ⟨rfl, hauto.2, hauto.1⟩
    · exact hset .fading

theorem directoryKept_lose (he : entry s l = .enrolled e) :
    DirectoryKept s (setPresence l .lost (stopDelay l s)) := by
  have hl := entry_updateLink_self (fun e => { e with delayTimer := none }) he
  exact (directoryKept_stopDelay l s).trans (directoryKept_setPresence .lost hl fun _ => timerFits_stopped rfl)

theorem directoryKept_automaticRetune (he : entry s l = .enrolled e) :
    DirectoryKept s (startSeeking .automatic false l (stopDelay l s)) :=
  (directoryKept_stopDelay l s).startSeeking _ _
    (entry_updateLink_self (fun e => { e with delayTimer := none }) he) fun _ => rfl

/-! ## Retune requests and the tally override -/

theorem directoryKept_linkRetuneRule (l n k : Nat) (s : State) :
    DirectoryKept s ((linkRetuneRule l n k s).after s) := by
  unfold linkRetuneRule
  dsimp only
  split
  · exact .refl s
  · split
    · exact .refl s
    · split
      · next e he =>
        split
        · have hstop : DirectoryKept s (updateLink l (fun e => { e with delayTimer := none }) s) :=
            directoryKept_stopDelay l s
          have hl := entry_updateLink_self (fun e => { e with delayTimer := none }) he
          split
          · exact hstop.startSeeking _ _ hl fun _ => rfl
          · split
            · exact .refl s
            · next v hopen =>
              obtain ⟨c, -, rfl⟩ := openOnTarget_eq_some.1 hopen
              rw [after_accept]
              refine (hstop.then_listing ?_).trans (directoryKept_enterOrdered _ _ (l := l)
                (e := { e with delayTimer := none }) ?_ fun _ => rfl)
              · rw [listing_markStale, listing_setRecord]
              · rw [entry_markStale, entry_setRecord, hl]
        · exact .refl s
      · exact .refl s

theorem directoryKept_linkHaltRule (l : Nat) (s : State) : DirectoryKept s ((linkHaltRule l s).after s) := by
  unfold linkHaltRule
  split
  · exact .refl s
  · split
    · split
      · exact .refl s
      · exact directoryKept_abortRetune s .halted l
    · exact .refl s

theorem directoryKept_tallyOverrideRule (l o : Nat) (s : State) :
    DirectoryKept s ((tallyOverrideRule l o s).after s) := by
  unfold tallyOverrideRule
  split
  · exact .refl s
  · split
    · exact .refl s
    · split
      · next e he =>
        refine DirectoryKept.then_listing ((DirectoryKept.refl s).setEntry (l := l) ?_) (listing_recomputeCue ..)
        rw [he]
        exact .link rfl rfl rfl fun h => timerFits_enrolled.2 (h e rfl)
      · exact .refl s

/-! ## Parameters (R73, R74) -/

theorem inRanges_default : InRanges defaultSettings := by unfold InRanges; decide

theorem getD_min_le {hi held : Nat} (n : Option Nat) (h : held ≤ hi) : (n.map (min hi)).getD held ≤ hi := by
  cases n with
  | none => exact h
  | some n => exact Nat.min_le_left hi n

theorem getD_clamp_mem {lo hi held : Nat} (n : Option Nat) (h : lo ≤ held ∧ held ≤ hi) :
    lo ≤ (n.map (clamp lo hi)).getD held ∧ (n.map (clamp lo hi)).getD held ≤ hi := by
  cases n with
  | none => exact h
  | some n => exact ⟨le_max_left .., max_le (h.1.trans h.2) (min_le_left ..)⟩

/-- Parameters given are clamped into their ranges, and those omitted stay. -/
theorem inRanges_applyParams {held new : LinkSettings} {q : LinkParams} (h : InRanges held)
    (hq : applyParams held q = some new) : InRanges new := by
  obtain ⟨hfloor, hfade, hfade', hloss, hloss', -, hdelay⟩ := h
  have hnew : new.floor = (q.floor.map (min 63)).getD held.floor ∧
      new.fadeTime = (q.fadeTime.map (clamp 10 10000)).getD held.fadeTime ∧
      new.lossTime = max ((q.lossTime.map (clamp 100 60000)).getD held.lossTime) new.fadeTime ∧
      new.retuneDelay = (q.retuneDelay.map (min 10000)).getD held.retuneDelay := by
    unfold applyParams at hq
    dsimp only at hq
    split at hq
    · cases hq; exact ⟨rfl, rfl, rfl, rfl⟩
    · obtain ⟨_, -, rfl⟩ := Option.map_eq_some_iff.1 hq
      exact ⟨rfl, rfl, rfl, rfl⟩
  obtain ⟨hf, ht, hl, hd⟩ := hnew
  have hfloorN := hf ▸ getD_min_le q.floor hfloor
  have hfadeN := ht ▸ getD_clamp_mem q.fadeTime ⟨hfade, hfade'⟩
  have hlossN := getD_clamp_mem q.lossTime ⟨hloss, hloss'⟩
  have hdelayN := hd ▸ getD_min_le q.retuneDelay hdelay
  unfold InRanges
  omega

theorem directoryKept_linkSetRule (l : Nat) (q : LinkParams) (s : State) :
    DirectoryKept s ((linkSetRule l q s).after s) := by
  unfold linkSetRule
  split
  · exact .refl s
  · split
    · next e he =>
      split
      · next new hnew =>
        refine (DirectoryKept.refl s).setEntry (l := l) ?_
        rw [he]
        refine ⟨fun _ => id, fun _ => id, fun h _ hx => ?settings, fun h => timerFits_enrolled.2 fun ht => ?timer⟩
        case settings =>
          cases hx
          exact inRanges_applyParams (h e rfl) hnew
        case timer =>
          unfold withSettings at ht ⊢
          dsimp only at ht ⊢
          split at ht
          · next hauto =>
            obtain ⟨hfading, hphase, -⟩ := timerFits_enrolled.1 h ht
            exact ⟨hfading, hphase, hauto⟩
          · cases ht
      · exact .refl s
    · exact .refl s

/-! ## Retiring, erasing and the warm restart -/

theorem directoryKept_unbind (l : Nat) (s : State) : DirectoryKept s (unbind l s) := by
  unfold unbind
  split
  · next e he =>
    rw [enrolledLink_eq_some] at he
    refine (DirectoryKept.of_listing (listing_releaseRecord s e.carrier)).setEntry ?_
    rw [he]
    exact .free rfl fun _ => id
  · exact .refl s

theorem directoryKept_retire (hl : l < 64) : DirectoryKept s (retire l s) := by
  unfold retire
  dsimp only
  refine DirectoryKept.markChanged ?_ hl
  exact ((directoryKept_abortRetune s .retired l).trans (directoryKept_unbind l _)).then_listing (by simp)

theorem directoryKept_vacate (hl : l < 64) : DirectoryKept s (vacate l s) :=
  ((DirectoryKept.refl s).setEntry (.free rfl fun _ h => by cases h)).markChanged hl

theorem directoryKept_linkRetireRule (l : Nat) (s : State) : DirectoryKept s ((linkRetireRule l s).after s) := by
  unfold linkRetireRule
  split
  · exact .refl s
  · next hl =>
    split
    · exact directoryKept_retire (by omega)
    · exact .refl s

theorem directoryKept_linkEraseRule (l : Nat) (s : State) : DirectoryKept s ((linkEraseRule l s).after s) := by
  unfold linkEraseRule
  split
  · exact .refl s
  · next hl =>
    have hl : l < 64 := by omega
    split
    · exact .refl s
    · exact directoryKept_vacate hl
    · exact (directoryKept_retire hl).trans (directoryKept_vacate hl)

theorem directoryKept_warmRestart (s : State) : DirectoryKept s (warmRestart s) where
  entries j := by
    rw [entry_warmRestart]
    cases entry s j with
    | enrolled e =>
      refine .link rfl ?_ rfl fun _ => timerFits_stopped rfl
      unfold EnrolledLink.restarted
      dsimp only
      cases e.role <;> rfl
    | _ => exact .refl _
  pinBound := by rw [warmRestart_eq]
  rover := by rw [warmRestart_eq]
  changed _ := by
    rw [ChangedSetOrdered, warmRestart_eq]
    exact ⟨.nil, nofun⟩

theorem directoryKept_linkChangesRule (s : State) : DirectoryKept s ((linkChangesRule s).after s) :=
  { DirectoryKept.refl s with changed := fun _ => ⟨.nil, nofun⟩ }

end

end Sys2Proof.Machine
end

section
/-! SUPPORT. The laws of the link directory under every command: those that keep each entry, and those that give an
entry a new ID or output or move the rover (R60, R63, R69 to R73). -/

namespace Sys2Proof.Machine

section
variable {s t u : State} {l : Nat} {e : EnrolledLink} {x : LinkEntry}

/-- From `s` to `t` each law of the directory is kept. -/
structure DirectoryLawsKept (s t : State) : Prop where
  idents : IdentsDistinct s → IdentsDistinct t
  outputs : OutputsDistinct s → OutputsDistinct t
  settings : SettingsInRange s → SettingsInRange t
  rover : RoverInRange s → RoverInRange t
  changed : RoverInRange s → ChangedSetOrdered s → ChangedSetOrdered t
  timers : DelayTimersBelong s → DelayTimersBelong t

theorem DirectoryLawsKept.trans (h : DirectoryLawsKept s t) (h' : DirectoryLawsKept t u) : DirectoryLawsKept s u :=
  ⟨h'.idents ∘ h.idents, h'.outputs ∘ h.outputs, h'.settings ∘ h.settings, h'.rover ∘ h.rover,
    fun hr hc => h'.changed (h.rover hr) (h.changed hr hc), h'.timers ∘ h.timers⟩

theorem DirectoryKept.laws (h : DirectoryKept s t) : DirectoryLawsKept s t where
  idents hs i j a hi hj := hs i j a ((h.entries i).ident a hi) ((h.entries j).ident a hj)
  outputs hs i j o hi hj := by
    rw [cameraOutput_eq] at hi hj
    exact hs i j o (cameraOutput_eq s i ▸ (h.entries i).output o hi) (cameraOutput_eq s j ▸ (h.entries j).output o hj)
  settings hs := settingsInRange_iff.2 fun l => (h.entries l).settings (settingsInRange_iff.1 hs l)
  rover hs := by rwa [RoverInRange, h.pinBound, h.rover]
  changed _ := h.changed
  timers hs := delayTimersBelong_iff.2 fun l => (h.entries l).timer (delayTimersBelong_iff.1 hs l)

theorem DirectoryLawsKept.refl (s : State) : DirectoryLawsKept s s := (DirectoryKept.refl s).laws

theorem DirectoryLawsKept.of_listing (h : listing t = listing s) : DirectoryLawsKept s t :=
  (DirectoryKept.of_listing h).laws

/-! ## Entries with a new ID or output -/

/-- A table without a repeated key keeps none where one place is given a key that no other place has. -/
theorem distinct_of_write {α : Type} {f g : Nat → Option α} {l : Nat}
    (hf : ∀ i j a, f i = some a → f j = some a → i = j) (hne : ∀ j, j ≠ l → g j = f j)
    (hl : ∀ a, g l = some a → ∀ j, j ≠ l → f j ≠ some a) (i j : Nat) (a : α) (hi : g i = some a)
    (hj : g j = some a) : i = j := by
  by_cases hil : i = l <;> by_cases hjl : j = l
  · rw [hil, hjl]
  · exact absurd (hne j hjl ▸ hj) (hl a (hil ▸ hi) j hjl)
  · exact absurd (hne i hil ▸ hi) (hl a (hjl ▸ hj) i hil)
  · exact hf i j a (hne i hil ▸ hi) (hne j hjl ▸ hj)

/-- Outside the table nothing is written. -/
theorem listing_setEntry_out (h : 64 ≤ l) : listing (setEntry l x s) = listing s := by
  have hput : put s.dir.entries l x = s.dir.entries := Vector.setIfInBounds_eq_of_size_le h
  simp only [listing, setEntry, hput]

/-- An entry is written whose ID and output no other entry holds. -/
theorem directoryLawsKept_setEntry
    (hident : ∀ a, entryIdent x = some a → ∀ j, j ≠ l → entryIdent (entry s j) ≠ some a)
    (houtput : ∀ o, entryOutput x = some o → ∀ j, j ≠ l → cameraOutput s j ≠ some o) (hset : SettingsFit x)
    (htimer : TimerFits x) : DirectoryLawsKept s (setEntry l x s) := by
  by_cases hl : l < 64
  swap
  · exact .of_listing (listing_setEntry_out (not_lt.1 hl))
  have hself : entry (setEntry l x s) l = x := by rw [entry_setEntry, if_pos ⟨rfl, hl⟩]
  have hne (j : Nat) (hj : j ≠ l) : entry (setEntry l x s) j = entry s j := by
    rw [entry_setEntry, if_neg fun h => hj h.1.symm]
  have hall {P : LinkEntry → Prop} (hx : P x) (hs : ∀ j, P (entry s j)) (j : Nat) : P (entry (setEntry l x s) j) := by
    by_cases hj : j = l
    · rw [hj, hself]; exact hx
    · rw [hne j hj]; exact hs j
  refine ⟨fun hs => ?idents, fun hs => ?outputs, hall hset, id, fun _ => id, hall htimer⟩
  case idents =>
    refine distinct_of_write (f := fun j => entryIdent (entry s j)) hs (fun j hj => congrArg _ (hne j hj)) ?_
    rw [hself]
    exact hident
  case outputs =>
    refine distinct_of_write (l := l) (f := cameraOutput s) hs (fun j hj => ?_) ?_
    · rw [cameraOutput_eq, cameraOutput_eq, hne j hj]
    · rw [cameraOutput_eq, hself]
      exact houtput

theorem directoryLawsKept_markChanged (hl : RoverInRange s → l < 64) : DirectoryLawsKept s (markChanged l s) :=
  ⟨id, id, id, id, fun hr hc => changedSetOrdered_markChanged (hl hr) hc, id⟩

/-- A NOTED entry is written whose ID no other entry holds. -/
theorem directoryLawsKept_note {n : NotedLink} (h : ∀ j, j ≠ l → entryIdent (entry s j) ≠ some n.ident) :
    DirectoryLawsKept s (setEntry l (.noted n) s) := by
  refine directoryLawsKept_setEntry (fun a ha => ?_) (fun _ ho => by cases ho) (fun _ he => by cases he)
    (fun _ he => by cases he)
  cases ha
  exact h

/-- LINK.NOTE writes the ID it is given (R71). -/
theorem notedEntry_noted (y : LinkEntry) (a : Nat) (k : Kind) : ∃ n, notedEntry y a k = .noted n ∧ n.ident = a := by
  unfold notedEntry
  split
  · split <;> exact ⟨_, rfl, rfl⟩
  · exact ⟨_, rfl, rfl⟩

theorem directoryLawsKept_linkNoteRule (l a k : Nat) (s : State) :
    DirectoryLawsKept s ((linkNoteRule l a k s).after s) := by
  unfold linkNoteRule
  split
  · exact .refl s
  · next hl =>
    have hl : l < 64 := by omega
    split
    · exact .refl s
    · next kind _ =>
      dsimp only
      split
      · exact .refl s
      · split
        · exact .refl s
        · next hheld =>
          obtain ⟨n, hn, hna⟩ := notedEntry_noted (entry s l) a kind
          have hset : DirectoryLawsKept s (setEntry l (.noted n) s) :=
            directoryLawsKept_note (hna ▸ heldElsewhere_eq_false.1 (Bool.not_eq_true _ ▸ hheld))
          rw [after_accept, hn]
          split
          · exact hset
          · exact hset.trans (directoryLawsKept_markChanged fun _ => hl)

theorem not_outputHeldElsewhere {i o : Nat} (h : outputHeldElsewhere s i o = false) (j : Nat) (hj : j ≠ i) :
    cameraOutput s j ≠ some o := by
  intro ho
  have hany := List.any_eq_false.1 h j (List.mem_range.2 (cameraOutput_lt ho))
  simp [hj, ho] at hany

theorem directoryLawsKept_linkEnrollRule (l a k i : Nat) (q : LinkParams) (o : Nat) (s : State) :
    DirectoryLawsKept s ((linkEnrollRule l a k i q o s).after s) := by
  unfold linkEnrollRule
  split
  · exact .refl s
  · next hl =>
    have hl : l < 64 := by simp at hl; omega
    split
    · next role new _ hnew =>
      split
      · exact .refl s
      · split
        · exact .refl s
        · next hheld =>
          split
          · exact .refl s
          · next houtput =>
            split
            · exact .refl s
            · next v hbind =>
              obtain ⟨c, -, rfl⟩ := bindRecord_eq_some.1 hbind
              have hset : DirectoryLawsKept s (setEntry l (.enrolled (enrolledEntry a role i new)) s) := by
                refine directoryLawsKept_setEntry (fun b hb => ?_) (fun o ho => ?_) (fun e he => ?_)
                  (timerFits_stopped rfl)
                · cases hb
                  exact heldElsewhere_eq_false.1 (Bool.not_eq_true _ ▸ hheld)
                · refine not_outputHeldElsewhere ?_
                  rw [show roleOutput role = some o from ho, Option.any_some] at houtput
                  exact Bool.not_eq_true _ ▸ houtput
                · cases he
                  exact inRanges_applyParams inRanges_default hnew
              refine (hset.trans (directoryLawsKept_markChanged fun _ => hl)).trans (.of_listing ?_)
              rw [after_accept, enroll, listing_statusesAfter, listing_recomputeCue, listing_becomeDestination]
              rfl
    · exact .refl s

/-! ## Reports and the rover -/

/-- The rover's step stays between the pin bound and the top (R63). -/
theorem directoryLawsKept_moveRover : DirectoryLawsKept s (moveRover s) := by
  refine ⟨id, id, id, fun ⟨hpin, hbound, hrover⟩ => ?_, fun _ => id, id⟩
  unfold RoverInRange moveRover
  dsimp only
  split <;> omega

theorem claimable_lt {i : Nat} (hs : RoverInRange s) (h : claimable s = some i) : i < 64 := by
  obtain ⟨_, hbound, hrover⟩ := hs
  have := ((mem_admissionOrder hbound hrover).1 (List.mem_of_find?_eq_some h)).2
  omega

theorem directoryLawsKept_admitStranger (q : HeardReport) (h : ∀ j, entryIdent (entry s j) ≠ some q.ident) :
    DirectoryLawsKept s (admitStranger q s) := by
  unfold admitStranger
  split
  · next i hi =>
    exact (directoryLawsKept_note fun j _ => h j).trans (directoryLawsKept_markChanged fun hr =>
      claimable_lt (s := s) hr hi)
  · exact .of_listing (listing_directoryFullFault s)

theorem directoryKept_reportEnrolled (q : HeardReport) (he : entry s l = .enrolled e) :
    DirectoryKept s (reportEnrolled l e q s) := by
  have hpresence := directoryKept_applyPresence q he
  unfold reportEnrolled
  split
  · exact .of_listing (listing_capture ..)
  · exact hpresence.trans (directoryKept_compareEcho _)
  · next rec_ n _ =>
    dsimp only
    refine DirectoryKept.trans ?_ (directoryKept_compareEcho _)
    split
    · exact hpresence.trans (directoryKept_completeRetune rec_ n)
    · exact hpresence

theorem directoryLawsKept_handleReport (q : HeardReport) (s : State) : DirectoryLawsKept s (handleReport q s) := by
  unfold handleReport
  split
  · split
    · next he => exact (directoryKept_reportEnrolled q he).laws
    · next n hn => exact ((DirectoryKept.refl s).setEntry (hn ▸ .free rfl fun _ => id)).laws
    · exact .refl s
  · next hprobe =>
    dsimp only
    have hcapture : DirectoryLawsKept s (capture .unknown q s) := .of_listing (listing_capture ..)
    split
    · exact hcapture.trans (directoryLawsKept_admitStranger q ((probe_none s).1 hprobe))
    · exact hcapture

theorem directoryLawsKept_directoryPinRule (b : Nat) (s : State) :
    DirectoryLawsKept s ((directoryPinRule b s).after s) := by
  unfold directoryPinRule
  split
  · exact .refl s
  · refine ⟨id, id, id, fun _ => ?_, fun _ => id, id⟩
    rw [after_accept, RoverInRange]
    dsimp only
    omega

/-- After a hardware reset every entry is VACANT (R59, R63). -/
theorem directoryLawsKept_hardwareReset (s : State) :
    DirectoryLawsKept s { State.reset with pending := s.pending, arriving := s.arriving } := by
  generalize ht : { State.reset with pending := s.pending, arriving := s.arriving } = t
  have hentry (l : Nat) : entry t l = .vacant := by rw [← ht]; exact entry_reset l
  have hchanged : t.ctl.changed = [] := by rw [← ht]; rfl
  have hdir : t.dir = .reset := by rw [← ht]; rfl
  refine ⟨fun _ i j a hi => ?_, fun _ i j o hi => ?_, fun _ l e he => ?_, fun _ => ?_, fun _ _ => ?_,
    fun _ l e he => ?_⟩
  · rw [hentry] at hi; cases hi
  · rw [cameraOutput_eq, hentry] at hi; cases hi
  · rw [hentry] at he; cases he
  · rw [RoverInRange, hdir]; decide
  · rw [ChangedSetOrdered, hchanged]; exact ⟨.nil, nofun⟩
  · rw [hentry] at he; cases he

/-! ## Every command -/

/-- A request keeps the laws that its rule keeps. -/
theorem directoryLawsKept_takeRequest {p : Port} {c : RequestCode} {rule : State → Verdict}
    (h : ∀ u, DirectoryLawsKept u ((rule u).after u)) (s : State) : DirectoryLawsKept s (takeRequest p c rule s) := by
  have hframe : DirectoryLawsKept s (completeFrame p s) := .of_listing (listing_completeFrame s p)
  obtain ⟨r, ht | ht⟩ := takeRequest_after s p c rule
  · rw [ht]
    exact (hframe.trans (h _)).trans (.of_listing (listing_respond _ p r))
  · rw [ht]
    exact hframe.trans (.of_listing (listing_respond _ p r))

/-- A request keeps the directory where its rule does. -/
theorem directoryKept_takeRequest {p : Port} {c : RequestCode} {rule : State → Verdict}
    (h : ∀ u, DirectoryKept u ((rule u).after u)) (s : State) : DirectoryLawsKept s (takeRequest p c rule s) :=
  directoryLawsKept_takeRequest (fun u => (h u).laws) s

theorem exec_touching_directoryLawsKept {c : Instr} (htouch : touchesListing c = true) (h : exec c s = .next t) :
    DirectoryLawsKept s t := by
  cases c <;> cases htouch <;> cases h
  case hardwareReset => exact directoryLawsKept_hardwareReset s
  case runRestart p => exact directoryKept_takeRequest (rule := runRestartRule) directoryKept_warmRestart s
  case checkCancel p k => exact directoryKept_takeRequest (directoryKept_checkCancelRule k) s
  case engineStart => exact directoryKept_startHead.laws
  case candidateEvaluation => exact (directoryKept_evaluateRunning s).laws
  case linkNote p l a k => exact directoryLawsKept_takeRequest (directoryLawsKept_linkNoteRule l a k) s
  case linkEnroll p l a k i q o => exact directoryLawsKept_takeRequest (directoryLawsKept_linkEnrollRule l a k i q o) s
  case linkSet p l q => exact directoryKept_takeRequest (directoryKept_linkSetRule l q) s
  case linkRetire p l => exact directoryKept_takeRequest (directoryKept_linkRetireRule l) s
  case linkErase p l => exact directoryKept_takeRequest (directoryKept_linkEraseRule l) s
  case linkChanges p => exact directoryKept_takeRequest directoryKept_linkChangesRule s
  case directoryPin p b => exact directoryLawsKept_takeRequest (directoryLawsKept_directoryPinRule b) s
  case heard q =>
    split
    · exact .of_listing (listing_discardMalformed s _)
    · exact (DirectoryLawsKept.of_listing (listing_completeMessage s .receiver)).trans
        ((directoryLawsKept_handleReport q _).trans directoryLawsKept_moveRover)
  case fadeExpiry l =>
    split
    · next e he =>
      split
      · next hreached =>
        exact (directoryKept_fade (enrolledLink_eq_some.1 he) (live_of_fadeReached hreached)).laws
      · exact .refl s
    · exact .refl s
  case lossExpiry l =>
    split
    · next e he =>
      split
      · exact (directoryKept_lose (enrolledLink_eq_some.1 he)).laws
      · exact .refl s
    · exact .refl s
  case retuneDelayExpiry l =>
    split
    · next e he =>
      split
      · dsimp only
        split
        · exact (directoryKept_automaticRetune (enrolledLink_eq_some.1 he)).laws
        · exact (directoryKept_stopDelay l s).laws
      · exact .refl s
    · exact .refl s
  case linkRetune p l n k => exact directoryKept_takeRequest (directoryKept_linkRetuneRule l n k) s
  case linkHalt p l => exact directoryKept_takeRequest (directoryKept_linkHaltRule l) s
  case retuneLimitExpiry l =>
    split
    · split
      · split
        · exact (directoryKept_abortRetune s .timeout l).laws
        · exact .refl s
      · exact .refl s
    · exact .refl s
  case tallyOverride p l o => exact directoryKept_takeRequest (directoryKept_tallyOverrideRule l o) s

theorem exec_directoryLawsKept {c : Instr} (h : exec c s = .next t) : DirectoryLawsKept s t := by
  cases htouch : touchesListing c with
  | false => exact .of_listing (exec_listing s htouch h)
  | true => exact exec_touching_directoryLawsKept htouch h

theorem step_directoryLawsKept (h : step s = .next t) : DirectoryLawsKept s t := by
  unfold step at h
  split at h
  · next c rest _ =>
    have htaken : DirectoryLawsKept s { s with pending := rest } := .of_listing rfl
    exact htaken.trans (exec_directoryLawsKept h)
  · cases h
    exact .of_listing (listing_idle s)

end

end Sys2Proof.Machine
end

section
namespace Sys2Proof.Proofs
open Sys2Proof.Machine

/-- Settles O55: every command keeps each entry such as the laws have it (`DirectoryKept`), or writes an ID and an
output that no other entry holds, or moves the rover within its range. -/
theorem stepsKeepDirectory : Obligations.StepsKeepDirectory := by
  unfold Obligations.StepsKeepDirectory
  intro s t h
  obtain ⟨hidents, houtputs, hsettings, hrover, hchanged, htimers⟩ := step_directoryLawsKept h
  exact ⟨hidents, houtputs, hsettings, hrover, hchanged, htimers⟩

end Sys2Proof.Proofs
end

section
/-! SUPPORT. What serving the seek wait list and starting the engine's heads leave alone beside the engine, and the
abort of a retune as a retirement sees it (R32, R75, R105, R112). -/

namespace Sys2Proof.Machine

section
variable {s t u : State} {l : Nat} {e : EnrolledLink} {result : RetuneResult}

/-! ## The frame of the engine's work -/

/-- From `s` to `t` only the engine, the retune controller, the phases of links, the changed-link set and more causes
are written. -/
structure EngineFrame (s t : State) : Prop where
  plan : t.plan = s.plan
  survey : t.survey = s.survey
  tally : t.tally = s.tally
  talk : t.talk = s.talk
  ret : t.ret = s.ret
  dir : t.dir = { s.dir with entries := t.dir.entries }
  idents : ∀ j, entryIdent (entry t j) = entryIdent (entry s j)
  causes : ∀ c, causeIsSet c s = true → causeIsSet c t = true

theorem EngineFrame.refl (s : State) : EngineFrame s s :=
  ⟨rfl, rfl, rfl, rfl, rfl, rfl, fun _ => rfl, fun _ => id⟩

theorem EngineFrame.trans (h : EngineFrame s t) (h' : EngineFrame t u) : EngineFrame s u where
  plan := h'.plan.trans h.plan
  survey := h'.survey.trans h.survey
  tally := h'.tally.trans h.tally
  talk := h'.talk.trans h.talk
  ret := h'.ret.trans h.ret
  dir := by rw [h'.dir, h.dir]
  idents j := (h'.idents j).trans (h.idents j)
  causes c := h'.causes c ∘ h.causes c

/-- A cause that is set stays set when causes are raised. -/
theorem causeIsSet_of_or {c d : Cause} (ht : t.ctl.causes = s.ctl.causes ||| causeOnly d) (h : causeIsSet c s = true) :
    causeIsSet c t = true := by
  rw [causeIsSet, ht, isSet_or]
  exact Bool.or_eq_true_iff.2 (.inl h)

theorem SeekersOnly.idents (h : SeekersOnly s t) (j : Nat) : entryIdent (entry t j) = entryIdent (entry s j) := by
  rcases h j with h | ⟨e, _, _, he, -, ht⟩
  · rw [h]
  · rw [he, ht]; rfl

/-- The directory beside its entries, from what each block's lemma says of it. -/
theorem dir_eq_of_kept (hk : DirectoryKept s t) (hs : standing t = standing s)
    (hc : t.dir.capture = s.dir.capture) : t.dir = { s.dir with entries := t.dir.entries } := by
  have hadmit : t.dir.autoAdmit = s.dir.autoAdmit := congrArg Settings.autoAdmit (settings_of_standing hs)
  dsimp only
  rw [← hk.pinBound, ← hk.rover, ← hadmit, ← hc]

theorem engineFrame_endRetune : EngineFrame s (endRetune result l s) where
  plan := endRetune_plan _
  survey := endRetune_survey
  tally := endRetune_tally
  talk := endRetune_talk
  ret := endRetune_ret
  dir := by
    have h : EntriesOnly s (updateLink l (fun e => { e with phase := .none, lastResult := result }) s) :=
      entriesOnly_updateLink _
    rw [EntriesOnly] at h
    rw [endRetune_eq, h]
  idents _ := entryIdent_endRetune
  causes _ := causeIsSet_of_or endRetune_causes

theorem engineFrame_serveWaitList (s : State) : EngineFrame s (serveWaitList s) where
  plan := serveWaitList_plan s
  survey := serveWaitList_survey s
  tally := serveWaitList_tally s
  talk := serveWaitList_talk s
  ret := serveWaitList_ret s
  dir := dir_eq_of_kept directoryKept_serveWaitList (standing_serveWaitList s) (startFrame_serveWaitList s).capture
  idents _ := entryIdent_serveWaitList
  causes c h := by rwa [causeIsSet, serveWaitList_ctl]

/-- The starts of heads raise causes and clear none. -/
theorem causes_startHeads (c : Cause) (n : Nat) (s : State) (h : causeIsSet c s = true) :
    causeIsSet c (startHeads n s) = true := by
  induction n generalizing s with
  | zero => exact h
  | succ n ih =>
    unfold startHeads
    split
    · next r rest _ _ =>
      have hbegin : causeIsSet c (beginRequest r rest s) = true := by
        rw [← h]; unfold beginRequest; split <;> rfl
      dsimp only
      split
      · refine ih _ ?_
        unfold deliverResult
        split
        · exact causeIsSet_of_or (s := beginRequest r rest s) rfl hbegin
        · dsimp only
          refine (engineFrame_serveWaitList _).causes c ?_
          generalize hv : { beginRequest r rest s with engine.running := none } = v
          have hv' : causeIsSet c v = true := by rw [← hv]; exact hbegin
          rcases applySearchResult_none _ 0 none v with h' | h' <;> rw [h']
          · exact causeIsSet_of_or endRetune_causes hv'
          · exact hv'
      · exact hbegin
    · exact h

theorem engineFrame_startHead (s : State) : EngineFrame s (startHead s) where
  plan := plan_of_standing (standing_startHead s)
  survey := congrArg Settings.survey (settings_of_standing (standing_startHead s))
  tally := (startFrame_startHead s).tally
  talk := (startFrame_startHead s).talk
  ret := startHead_ret s
  dir := dir_eq_of_kept directoryKept_startHead (standing_startHead s) (startFrame_startHead s).capture
  idents := seekersOnly_startHead.idents
  causes c := causes_startHeads c _ s

theorem engineFrame_cancelSearch (l : Nat) (s : State) : EngineFrame s (cancelSearch l s) := by
  have hleft : EngineFrame s (serveWaitList (cancelInternal l s)) :=
    EngineFrame.trans (t := cancelInternal l s) ⟨rfl, rfl, rfl, rfl, rfl, rfl, fun _ => rfl, fun _ => id⟩
      (engineFrame_serveWaitList _)
  unfold cancelSearch
  dsimp only
  split
  · exact hleft.trans (engineFrame_startHead _)
  · exact hleft

/-- A link that waits for nothing keeps its entry when its search is cancelled. -/
theorem entry_cancelSearch_self (h : l ∉ s.retune.waitList) : entry (cancelSearch l s) l = entry s l := by
  have hfree : SearchFree (cancelInternal l s) l := by
    refine ⟨fun r hr hc => ?_, h⟩
    simp [cancelInternal, hc] at hr
  obtain ⟨hleft, hentry⟩ := (startFrame_serveWaitList (cancelInternal l s)).entries l hfree
  have hentry : entry (serveWaitList (cancelInternal l s)) l = entry s l := hentry
  unfold cancelSearch
  dsimp only
  split
  · rw [((startFrame_startHead _).entries l hleft).2, hentry]
  · exact hentry

/-! ## The abort, in every phase -/

/-- What the abort of a link's retune leaves, from the phase it is in; phase NONE has nothing to abort (R112). -/
structure RetuneLeft (l : Nat) (e : EnrolledLink) (result : RetuneResult) (s t : State) : Prop where
  own : entry t l = .enrolled { e with
    phase := .none, lastResult := if e.phase = .none then e.lastResult else result }
  closed : ∀ r n, e.phase = .ordered r n → planRecord t n = .empty ∧ l ∉ t.ret.tunePending
  records : ∀ j, (∀ r n, e.phase = .ordered r n → j ≠ n) → planRecord t j = planRecord s j
  idents : ∀ j, entryIdent (entry t j) = entryIdent (entry s j)
  kept : ∀ c, causeIsSet c s = true → causeIsSet c t = true
  ended : e.phase ≠ .none → causeIsSet .retuneEnd t = true
  engine : (∀ r place, e.phase ≠ .seeking r place) → (markStale t).engine = (markStale s).engine
  ret : t.ret = { s.ret with tunePending := t.ret.tunePending }
  tally : t.tally = s.tally
  talk : t.talk = s.talk
  survey : t.survey = s.survey
  dir : t.dir = { s.dir with entries := t.dir.entries }

theorem retuneLeft_none (he : entry s l = .enrolled e) (hp : e.phase = .none) : RetuneLeft l e result s s where
  own := by rw [he, if_pos hp, ← hp]
  closed r n h := by rw [hp] at h; cases h
  records _ _ := rfl
  idents _ := rfl
  kept _ := id
  ended h := absurd hp h
  engine _ := rfl
  ret := rfl
  tally := rfl
  talk := rfl
  survey := rfl
  dir := rfl

/-- R32, R105, R112: a search is abandoned, in the engine or on the wait list. -/
theorem retuneLeft_seeking {r : RetuneRecord} {place : SearchPlace} (hp : e.phase = .seeking r place)
    (h : EngineFrame (endRetune result l s) t)
    (hl : entry t l = .enrolled { e with phase := .none, lastResult := result }) : RetuneLeft l e result s t where
  own := by rw [hl, if_neg (by rw [hp]; exact nofun)]
  closed r n h := by rw [hp] at h; cases h
  records j _ := by rw [planRecord, h.plan, endRetune_plan]; rfl
  idents j := (h.idents j).trans entryIdent_endRetune
  kept c hc := h.causes c (causeIsSet_of_or endRetune_causes hc)
  ended _ := h.causes _ (by rw [causeIsSet, endRetune_causes, isSet_or]; simp)
  engine hne := absurd hp (hne _ _)
  ret := by rw [h.ret, endRetune_ret]
  tally := h.tally.trans endRetune_tally
  talk := h.talk.trans endRetune_talk
  survey := h.survey.trans endRetune_survey
  dir := (engineFrame_endRetune.trans h).dir

/-- R14, R112: the new carrier's record is closed. -/
theorem retuneLeft_ordered {r : RetuneRecord} {n : Nat} {d : Carrier} (he : entry s l = .enrolled e)
    (hp : e.phase = .ordered r n) (hd : planRecord s n = .handover d l) :
    RetuneLeft l e result s (endRetune result l (removeTunePending l (closeRecord n s))) := by
  obtain ⟨hown, hrecords, -, -, -, hcauses, -⟩ := aborted_ordered (result := result) he hp
  obtain ⟨hempty, htune, hothers, hengine⟩ := hrecords r n d hp hd
  have hframe := engineFrame_endRetune (l := l) (s := removeTunePending l (closeRecord n s)) (result := result)
  exact {
    own := by rw [hown, if_neg (by rw [hp]; exact nofun)]
    closed := fun r' n' h => by cases hp.symm.trans h; exact ⟨hempty, htune⟩
    records := fun j hj => hothers j (hj r n hp)
    idents := fun j => (hframe.idents j).trans (by rw [entry_removeTunePending, entry_closeRecord])
    kept := fun c => causeIsSet_of_or hcauses
    ended := fun _ => by rw [causeIsSet, hcauses, isSet_or]; simp
    engine := fun _ => by
      rw [markStale_engine, hengine, markStale_engine]
      dsimp only
      rw [Option.map_map]
      rfl
    ret := by rw [hframe.ret, removeTunePending_ret, closeRecord_ret]
    tally := by rw [hframe.tally, removeTunePending_tally, closeRecord_tally]
    talk := by rw [hframe.talk, removeTunePending_talk, closeRecord_talk]
    survey := by rw [hframe.survey, removeTunePending_survey, closeRecord_survey]
    dir := by rw [hframe.dir, removeTunePending_dir, closeRecord_frame] }

theorem abortRetune_left (he : entry s l = .enrolled e)
    (hnew : ∀ r n, e.phase = .ordered r n → ∃ d, planRecord s n = .handover d l) :
    RetuneLeft l e result s (abortRetune result l s) := by
  have hend := entry_endRetune_self result he
  unfold abortRetune
  rw [he]
  dsimp only
  split
  · next hp => exact retuneLeft_none he hp
  · next hp =>
    refine retuneLeft_seeking hp (engineFrame_cancelSearch l _) ((entry_cancelSearch_self ?_).trans hend)
    rw [endRetune_waitList]
    simp
  · next hp => exact retuneLeft_seeking hp (.refl _) hend
  · next r n hp =>
    obtain ⟨d, hd⟩ := hnew r n hp
    exact retuneLeft_ordered he hp hd

/-- Where the engine starts no head, the abort raises RETUNE_END alone. -/
theorem abortRetune_causes (he : entry s l = .enrolled e) (h : ¬ RunsSearch l e s) :
    (abortRetune result l s).ctl.causes =
      if e.phase = .none then s.ctl.causes else s.ctl.causes ||| causeOnly .retuneEnd := by
  split
  · next hp => simp only [abortRetune, he, hp]
  · next hp =>
    obtain ⟨u, ⟨_, _, _, _, _, hcauses, _⟩, -, hstays⟩ := abortRetune_aborted (result := result) he hp
    rw [hstays h, hcauses]

end

end Sys2Proof.Machine
end

section
/-! SUPPORT. The key statuses that follow an event, and the retirement of a link (R75, R76, R126, R149, R152, R164). -/

namespace Sys2Proof.Machine

section
variable {s t v y : State} {l o : Nat} {e : EnrolledLink} {c : Carrier} {p : Port}

/-! ## Key statuses that follow an event (R152) -/

/-- The recomputation writes the keys alone. -/
theorem refreshStatuses_frame (s : State) :
    refreshStatuses s = { s with talk := { s.talk with keys := (refreshStatuses s).talk.keys } } := by
  suffices H : ∀ (ks : List Nat) (u : State), ks.foldl (fun s k => refreshStatus k s) u =
      { u with talk := { u.talk with keys := (ks.foldl (fun s k => refreshStatus k s) u).talk.keys } } by
    unfold refreshStatuses
    exact H _ s
  intro ks
  induction ks with
  | nil => exact fun _ => rfl
  | cons k ks ih =>
    intro u
    rw [List.foldl_cons, ih]
    rw [refreshStatus_eq]
    split <;> rfl

theorem computedStatus_refreshStatuses (k : Nat) : computedStatus (refreshStatuses s) k = computedStatus s k := by
  suffices H : ∀ (ks : List Nat) (u : State),
      computedStatus (ks.foldl (fun s k => refreshStatus k s) u) k = computedStatus u k by
    unfold refreshStatuses
    exact H _ s
  intro ks
  induction ks with
  | nil => exact fun _ => rfl
  | cons j ks ih =>
    intro u
    rw [List.foldl_cons, ih, computedStatus_refreshStatus]

/-- The statuses follow an event that left the keys as they were. -/
theorem statusesFollow_refreshStatuses (hkeys : y.talk.keys = s.talk.keys) : StatusesFollow s (refreshStatuses y) := by
  intro k hk
  have hkey : keyAt y k = keyAt s k := by rw [keyAt, keyAt, hkeys]
  rw [keyAt_refreshStatuses y k (Nat.lt_succ_of_le hk), computedStatus_refreshStatuses, refreshedKey, hkey]
  split
  · next h => exact ⟨h.symm, by simp⟩
  · next h =>
    have hchanged : (computedStatus y k != (keyAt s k).status) = true := bne_iff_ne.2 h
    exact ⟨rfl, by rw [hchanged, Bool.or_true]⟩

theorem keysKept_refreshStatuses (hkeys : y.talk.keys = s.talk.keys) : KeysKept s (refreshStatuses y) := by
  intro k
  have hkey : keyAt y k = keyAt s k := by rw [keyAt, keyAt, hkeys]
  by_cases hk : k < 32
  · rw [keyAt_refreshStatuses y k hk, refreshedKey, hkey]
    split <;> rfl
  · rw [keyAt, keyAt, look_out _ _ (not_lt.1 hk), look_out _ _ (not_lt.1 hk)]

theorem StatusesFollow.markChanged (h : StatusesFollow s t) : StatusesFollow s (markChanged l t) := h

theorem KeysKept.markChanged (h : KeysKept s t) : KeysKept s (markChanged l t) := h

/-! ## The steps of a retirement (R75) -/

theorem unbind_active (he : entry v l = .enrolled e) (hc : planRecord v e.carrier = .active c l) :
    unbind l v = setEntry l (retiredEntry e) (markStale (setRecord e.carrier (.reserved c) v)) := by
  rw [unbind, enrolledLink_eq_some.2 he]
  dsimp only
  rw [releaseRecord_active hc]

theorem leaveDestination_frame (l : Nat) (output : Option Nat) (s : State) :
    leaveDestination l output s = { s with talk := (leaveDestination l output s).talk } := by
  cases output <;> rfl

theorem statusesAfter_frame (camera : Bool) (s : State) :
    statusesAfter camera s = { s with talk := (statusesAfter camera s).talk } := by
  cases camera with
  | false => rfl
  | true => rw [show statusesAfter true s = refreshStatuses s from rfl, refreshStatuses_frame]

/-- What a retirement writes after the abort of the retune, which leaves the state `v`. -/
theorem retire_frame (hv : v = abortRetune .retired l s) (he : entry v l = .enrolled e)
    (hc : planRecord v e.carrier = .active c l) : retire l s = { v with
      plan := { v.plan with records := put v.plan.records e.carrier (.reserved c) }
      engine := (markStale v).engine
      dir := { v.dir with entries := put v.dir.entries l (retiredEntry e) }
      tally := { v.tally with cues := put v.tally.cues l .allOff }
      ret := { v.ret with
        cuePending := setRemove l v.ret.cuePending
        passQueue := v.ret.passQueue.filter fun x => x.link != l }
      ctl := { v.ctl with changed := setAdd l v.ctl.changed }
      talk := (retire l s).talk } := by
  unfold retire
  dsimp only
  rw [← hv, unbind_active he hc, statusesAfter_frame, leaveDestination_frame]
  rfl

/-- The feed unit after the retirement of a link: a CAMERA's arbiter is cleared and its output muted, and the key
statuses follow; with a MIC nothing changes (R149, R152). -/
structure FeedsLeft (l : Nat) (s t : State) : Prop where
  camera : ∀ o, cameraOutput s l = some o → StatusesFollow s t ∧ t.talk = { s.talk with
    keys := t.talk.keys
    arbiters := put s.talk.arbiters l (clearedArbiter (arbiterAt s l))
    orders := put s.talk.orders o (some .mute) }
  mic : cameraOutput s l = none → t.talk = s.talk
  keys : KeysKept s t

theorem feedsLeft_retire (l : Nat) (s : State) (htalk : (abortRetune .retired l s).talk = s.talk) :
    FeedsLeft l s (retire l s) := by
  have hunbound : (darken l (unbind l (abortRetune .retired l s))).talk = s.talk := by
    rw [← htalk]
    unfold unbind
    split
    · unfold releaseRecord
      split <;> rfl
    · rfl
  generalize hw : darken l (unbind l (abortRetune .retired l s)) = w at hunbound
  cases ho : cameraOutput s l with
  | none =>
    have hmic : (retire l s).talk = s.talk := by
      rw [← hunbound, ← hw]
      simp only [retire, ho]
      rfl
    refine ⟨fun o h => ?_, fun _ => hmic, fun k => ?_⟩
    · rw [ho] at h; cases h
    · rw [keyAt, keyAt, hmic]
  | some o =>
    generalize hy : removePasses l (removeCuePending l (clearArbiter l o w)) = y
    have hretire : retire l s = markChanged l (refreshStatuses y) := by
      rw [← hy, ← hw]
      simp only [retire, ho]
      rfl
    have hytalk : y.talk = { s.talk with
        arbiters := put s.talk.arbiters l (clearedArbiter (arbiterAt s l))
        orders := put s.talk.orders o (some .mute) } := by
      rw [← hy, ← hunbound, arbiterAt, ← hunbound]
      rfl
    have hkeys : y.talk.keys = s.talk.keys := by rw [hytalk]
    rw [hretire]
    refine ⟨fun o' h => ⟨(statusesFollow_refreshStatuses hkeys).markChanged, ?_⟩, fun h => ?_,
      (keysKept_refreshStatuses hkeys).markChanged⟩
    · cases ho.symm.trans h
      rw [markChanged_talk, refreshStatuses_frame]
      dsimp only
      rw [hytalk]
    · rw [ho] at h; cases h

/-! ## What a request's frame does not change -/

theorem RetuneLeft.of_completeFrame {result : RetuneResult} (h : RetuneLeft l e result (completeFrame p s) t) :
    RetuneLeft l e result s t := by
  cases p with
  | primary => exact h
  | service =>
    exact ⟨h.own, h.closed, h.records, h.idents, h.kept, h.ended, h.engine, h.ret, h.tally, h.talk, h.survey, h.dir⟩

theorem FeedsLeft.of_completeFrame (h : FeedsLeft l (completeFrame p s) t) : FeedsLeft l s t := by
  cases p with
  | primary => exact h
  | service => exact ⟨h.camera, h.mic, h.keys⟩

/-! ## The verdicts of LINK.RETIRE and LINK.ERASE -/

theorem linkRetireRule_badField (h : 63 < l) : linkRetireRule l s = .refuse .badField := if_pos h

theorem linkRetireRule_badState (hl : l ≤ 63) (he : (entry s l).isEnrolled = false) :
    linkRetireRule l s = .refuse .badState := by
  rw [linkRetireRule, if_neg (not_lt.2 hl), he]
  rfl

theorem linkRetireRule_enrolled (he : entry s l = .enrolled e) : linkRetireRule l s = .accept [] (retire l s) := by
  rw [linkRetireRule, if_neg (not_lt.2 (le_of_enrolled he)), he]
  rfl

theorem linkEraseRule_badField (h : 63 < l) : linkEraseRule l s = .refuse .badField := if_pos h

theorem linkEraseRule_vacant (hl : l ≤ 63) (he : entry s l = .vacant) : linkEraseRule l s = .refuse .badState := by
  rw [linkEraseRule, if_neg (not_lt.2 hl), he]

theorem linkEraseRule_noted {n : NotedLink} (he : entry s l = .noted n) :
    linkEraseRule l s = .accept [] (vacate l s) := by
  have hl : l < 64 := entryIdent_lt s (x := n.ident) (by rw [he]; rfl)
  rw [linkEraseRule, if_neg (by omega), he]

theorem linkEraseRule_enrolled (he : entry s l = .enrolled e) :
    linkEraseRule l s = .accept [] (vacate l (retire l s)) := by
  rw [linkEraseRule, if_neg (not_lt.2 (le_of_enrolled he)), he]

/-- A retired link is in the changed-link set already. -/
theorem vacate_retire (l : Nat) (s : State) : vacate l (retire l s) = setEntry l .vacant (retire l s) := by
  unfold retire
  dsimp only
  generalize statusesAfter _ _ = w
  simp only [vacate, markChanged, setEntry, setAdd_setAdd]

end

end Sys2Proof.Machine
end

section
namespace Sys2Proof.Proofs
open Sys2Proof.Machine

/-- Settles O22: the abort leaves the state `v` (`abortRetune_left`), the retirement writes the rest in one equation
(`retire_frame`), and the feed unit is read off from `feedsLeft_retire`. -/
theorem retireAndErase : Obligations.RetireAndErase := by
  unfold Obligations.RetireAndErase
  refine ⟨fun p i e c s he hc hnew => ?enrolled, fun p i n s hm hn => ?noted, fun p i s =>
    ⟨fun hm => ⟨fun hi => congrArg _ (takeRequest_refused hm (linkRetireRule_badField hi)), fun hi he => ?notEnrolled⟩,
      fun hm => ⟨fun hi => congrArg _ (takeRequest_refused hm (linkEraseRule_badField hi)), fun hi he => ?vacant⟩⟩⟩
  case noted =>
    exact congrArg _ (takeRequest_answered hm (linkEraseRule_noted ((entry_completeFrame ..).trans hn)))
  case notEnrolled =>
    exact congrArg _ (takeRequest_refused hm (linkRetireRule_badState hi (by rwa [entry_completeFrame])))
  case vacant =>
    exact congrArg _ (takeRequest_refused hm (linkEraseRule_vacant hi ((entry_completeFrame ..).trans he)))
  case enrolled =>
    intro starts
    have hi : i < 64 := enrolled_lt s he
    have hcarrier : e.carrier < 96 := lt_of_planRecord_ne (by rw [hc]; exact nofun)
    have heu : entry (completeFrame p s) i = .enrolled e := (entry_completeFrame ..).trans he
    have hruns : RunsSearch i e (completeFrame p s) ↔ starts := by rw [RunsSearch, completeFrame_engine]
    have hcauses := abortRetune_causes (result := .retired) heu
    have haborted := abortRetune_aborted (result := .retired) heu
    have hleft : RetuneLeft i e .retired s (abortRetune .retired i (completeFrame p s)) :=
      (abortRetune_left heu (by simpa only [planRecord_completeFrame] using hnew)).of_completeFrame
    have hfeeds : FeedsLeft i s (retire i (completeFrame p s)) :=
      (feedsLeft_retire i _ (hleft.talk.trans (completeFrame_talk s p).symm)).of_completeFrame
    generalize hv : abortRetune .retired i (completeFrame p s) = v at hcauses haborted hleft
    have hold (r : RetuneRecord) (n : Nat) (h : e.phase = .ordered r n) : e.carrier ≠ n := by
      rintro rfl
      obtain ⟨d, hd⟩ := hnew r _ h
      rw [hc] at hd
      cases hd
    have hvc : planRecord v e.carrier = .active c i := (hleft.records _ hold).trans hc
    have ht := retire_frame hv.symm hleft.own hvc
    have hretire : linkRetireRule i (completeFrame p s) = .accept [] (retire i (completeFrame p s)) :=
      linkRetireRule_enrolled heu
    have herase : linkEraseRule i (completeFrame p s) =
        .accept [] (setEntry i .vacant (retire i (completeFrame p s))) := by
      rw [linkEraseRule_enrolled heu, vacate_retire]
    generalize retire i (completeFrame p s) = t at hfeeds ht hretire herase
    have hrecord (j : Nat) : planRecord t j = if e.carrier = j then .reserved c else planRecord v j := by
      rw [ht]
      exact (look_put _ _ _ _).trans (by simp only [hcarrier, and_true]; rfl)
    have hentry (j : Nat) : entry t j = if i = j then
        .noted ⟨e.ident, roleKind e.role, e.lastHeard, some (if e.phase = .none then e.lastResult else .retired)⟩
        else entry v j := by
      rw [ht]
      exact (look_put _ _ _ _).trans (by simp only [hi, and_true]; rfl)
    have hcue (j : Nat) : heldCue t j = if i = j then .allOff else heldCue s j := by
      rw [ht, heldCue, heldCue, ← hleft.tally]
      exact (look_put _ _ _ _).trans (by simp only [hi, and_true])
    have hcausesT : t.ctl.causes = v.ctl.causes := by rw [ht]
    have hengine : t.engine = (markStale v).engine := by rw [ht]
    refine ⟨t, fun hm => congrArg _ (takeRequest_answered hm hretire),
      fun hm => congrArg _ (takeRequest_answered hm herase), ?own, ?released, fun r n hp => ?closed,
      fun j hj hn => ?records, fun q hq => ?stale, fun hs => ?causes, fun k hk => ?causesKept, fun hp => ?ended,
      fun hp => ?engine, fun hs hwait => ?starts, ?cueOff, ?changed, ?cuePending, ?passes, fun o ho hrange => ?mute,
      fun o ho => ⟨(hfeeds.camera o ho).1, fun x hx => ?orders⟩, hfeeds.mic, hfeeds.keys, fun j hj => ?arbiters, ?talk,
      fun j hj => ⟨?idents, ?cues⟩, ?inFlight, ?tally, ?survey, ?dir⟩
    case own => rw [hentry, if_pos rfl]
    case released => rw [hrecord, if_pos rfl]
    case closed =>
      obtain ⟨hempty, htune⟩ := hleft.closed r n hp
      rw [hrecord, if_neg (hold r n hp), ht]
      exact ⟨hempty, htune⟩
    case records => rw [hrecord, if_neg (Ne.symm hj), hleft.records j hn]
    case stale =>
      rw [hengine, markStale_engine] at hq
      obtain ⟨q', -, rfl⟩ := Option.map_eq_some_iff.1 hq
      rfl
    case causes => rw [hcausesT, hcauses (mt hruns.1 hs), completeFrame_ctl_causes]
    case causesKept => rw [causeIsSet, hcausesT]; exact hleft.kept k hk
    case ended => rw [causeIsSet, hcausesT]; exact hleft.ended hp
    case engine => rw [hengine, hleft.engine hp]; rfl
    case starts =>
      have hseeks : e.phase ≠ .none := by
        obtain ⟨q, r, -, -, hp⟩ := hs
        rw [hp]
        exact nofun
      obtain ⟨u, hu, hstart, -⟩ := haborted hseeks
      obtain ⟨-, -, -, -, hserved, -⟩ := aborted_completeFrame hu
      obtain ⟨hnone, hlist⟩ := hserved hs hwait
      exact ⟨u, v, hnone, hlist, hstart (hruns.2 hs), hengine⟩
    case cueOff => rw [hcue, if_pos rfl]
    case changed => rw [ht]; exact (mem_setAdd ..).2 (.inl rfl)
    case cuePending => rw [ht]; exact fun h => ((mem_setRemove ..).1 h).2 rfl
    case passes => rw [ht, hleft.ret]
    case mute =>
      obtain ⟨-, htalk⟩ := hfeeds.camera o ho
      rw [arbiterAt, htalk]
      exact ⟨look_put_self _ _ _ (Nat.lt_succ_of_le hrange), look_put_self _ _ _ hi⟩
    case orders =>
      rw [(hfeeds.camera o ho).2]
      exact look_put_ne _ _ _ _ hx
    case arbiters =>
      cases ho : cameraOutput s i with
      | none => rw [arbiterAt, arbiterAt, hfeeds.mic ho]
      | some o =>
        rw [arbiterAt, (hfeeds.camera o ho).2]
        exact look_put_ne _ _ _ _ hj
    case talk =>
      cases ho : cameraOutput s i with
      | none => rw [hfeeds.mic ho]
      | some o => rw [(hfeeds.camera o ho).2]
    case idents => rw [hentry, if_neg (Ne.symm hj), hleft.idents j]
    case cues => rw [hcue, if_neg (Ne.symm hj)]
    case inFlight => rw [ht, hleft.ret]
    case tally => rw [ht, hleft.tally]
    case survey => rw [ht, hleft.survey]
    case dir => rw [ht, hleft.dir]

end Sys2Proof.Proofs
end

section
/-! SUPPORT. Deadlines and the link clock's wrap (R80), and what a step does while no command waits (R79, R173, R175,
R187, R190). -/

namespace Sys2Proof.Machine

/-! ## Deadlines (R80) -/

/-- A deadline is judged by the two durations from one start, wherever on the clock that start lies. -/
theorem reached_add (start : Clock) {duration elapsed : Nat} (hd : duration < 2 ^ 32) (he : elapsed < 2 ^ 32) :
    reached (start + BitVec.ofNat 32 duration) (start + BitVec.ofNat 32 elapsed)
      = decide ((2 ^ 32 - duration + elapsed) % 2 ^ 32 < 2 ^ 31) := by
  rw [reached, add_sub_add_left_eq_sub, BitVec.toNat_sub, BitVec.toNat_ofNat, BitVec.toNat_ofNat,
    Nat.mod_eq_of_lt hd, Nat.mod_eq_of_lt he]

/-! ## The link clock (R79) -/

theorem clock_succ_toNat {c : Clock} (h : c ≠ 4294967295#32) : (c + 1).toNat = c.toNat + 1 := by
  have hc : c.toNat ≠ 4294967295 := fun hn => h (BitVec.eq_of_toNat_eq hn)
  have := c.isLt
  exact (BitVec.toNat_add c 1).trans (Nat.mod_eq_of_lt (show c.toNat + 1 < 2 ^ 32 by omega))

/-! ## Steps without a command -/

section
variable {s : State} {rest : List Arrival} {bytes : List Byte} {c : Instr} {line : InPort}

theorem step_arrival {a : Arrival} (hp : s.pending = []) (ha : s.arriving = a :: rest) :
    step s = .next (gather a { s with arriving := rest }) := by
  simp only [step, hp, idle, ha]

/-- A command posted to an empty queue is the whole queue. -/
theorem post_empty (h : s.pending = []) : post c s = { s with pending := [c] } := by
  rw [post, h]
  rfl

theorem frameCommand_some {p : Port} (h : decodeFrame p bytes = some c) : frameCommand p bytes = c := by
  rw [frameCommand, h]
  rfl

theorem frameCommand_none {p : Port} (h : decodeFrame p bytes = none) : frameCommand p bytes = .badFrame p bytes := by
  rw [frameCommand, h]
  rfl

/-! ## Characters on the service port (R175) -/

section
variable {b : Byte} (hbytes : bytes = partialBytes s.ctl.servicePartial ++ [b])
include hbytes

theorem gatherService_extends (h : frameEnded .service bytes = false) :
    gatherService b s = { s with ctl.servicePartial := some ⟨bytes, s.clock + 20#32⟩ } := by
  subst hbytes
  rw [gatherService, if_neg (by rw [h]; exact Bool.false_ne_true)]
  rfl

theorem gatherService_ends (hp : s.pending = []) (h : frameEnded .service bytes = true) :
    gatherService b s = { s with ctl.servicePartial := none, pending := [frameCommand .service bytes] } := by
  subst hbytes
  rw [gatherService, if_pos h, post_empty (s := discardPartial s) hp]
  rfl

end

/-! ## Characters on an input port (R190) -/

theorem decodeMessage_malformed (h : messageMalformed line bytes = true) :
    decodeMessage line bytes = some (.malformedMessage line bytes) := if_pos h

theorem decodeMessage_wellFormed (h : messageMalformed line bytes = false) :
    decodeMessage line bytes = messageCommand line bytes := if_neg (by rw [h]; exact Bool.false_ne_true)

theorem messageComplete_of_malformed (h : messageMalformed line bytes = true) : messageComplete line bytes = true :=
  (Bool.and_eq_true_iff.1 h).1

section
variable {b : Byte} (hbytes : bytes = partialBytes (portPartial s line) ++ [b])
include hbytes

theorem gatherPort_extends {n : Nat} (hn : messageCount line bytes = some n) (h : bytes.length < n) :
    gatherPort line b s = setPortPartial line (some ⟨bytes, s.clock + 20#32⟩) s := by
  subst hbytes
  simp only [gatherPort, hn, if_pos h]
  rfl

theorem gatherPort_ends (hp : s.pending = []) (h : messageComplete line bytes = true) :
    gatherPort line b s = { setPortPartial line none s with
      pending := [(decodeMessage line bytes).getD (.malformedMessage line bytes)] } := by
  subst hbytes
  simp only [gatherPort, beq_iff_eq.1 h, lt_irrefl, if_false]
  exact post_empty (by rw [completeMessage_pending, hp])

theorem gatherPort_noType (hp : s.pending = []) (h : messageCount line bytes = none) :
    gatherPort line b s = { s with pending := [.portByteError line .unknownType] } := by
  subst hbytes
  simp only [gatherPort, h]
  exact post_empty hp

end

/-! ## Transactions of the primary port (R173, R187) -/

theorem takeTransaction_empty (hp : s.pending = []) :
    takeTransaction bytes s = { s with pending := (transactionCommand bytes).toList } := by
  rw [takeTransaction_eq, hp, List.nil_append]

theorem transactionCommand_request {b : Byte} (hb : b ≠ 0#8) :
    transactionCommand (b :: bytes) = some (frameCommand .primary (b :: bytes)) := by
  rw [transactionCommand, if_neg hb]

end

end Sys2Proof.Machine
end

section
namespace Sys2Proof.Proofs
open Sys2Proof.Machine

/-- Settles O30: both moments lie within 2^32 ms of the start, so the difference of the durations decides. -/
theorem deadlinesAcrossTheWrap : Obligations.DeadlinesAcrossTheWrap := by
  unfold Obligations.DeadlinesAcrossTheWrap
  intro start duration elapsed hd
  refine ⟨fun hbefore => ?_, fun hafter hlimit => ?_⟩
  · rw [reached_add start (by omega) (by omega), decide_eq_false_iff_not]
    omega
  · rw [reached_add start (by omega) (by omega), decide_eq_true_iff]
    omega

/-- Settles O2: with an empty queue a step gathers the oldest arrival by its kind, or ticks. -/
theorem idleSteps : Obligations.IdleSteps := by
  unfold Obligations.IdleSteps
  refine ⟨fun s hp ha => ⟨?tick, ?wrap, clock_succ_toNat⟩, ⟨fun b rest s hp ha => ?service,
    fun line b rest s hp ha => ?port⟩, fun bytes rest s hp ha => ?transaction⟩
  case tick => simp only [step, hp, idle, ha, tick]
  case wrap =>
    intro h
    rw [h]
    rfl
  case service =>
    rw [step_arrival hp ha]
    refine ⟨fun h => congrArg _ (gatherService_extends (s := { s with arriving := rest }) rfl h), fun c h hc => ?_,
      fun h hc => ?_⟩
    · rw [← frameCommand_some hc]
      exact congrArg _ (gatherService_ends (s := { s with arriving := rest }) rfl hp h)
    · rw [← frameCommand_none hc]
      exact congrArg _ (gatherService_ends (s := { s with arriving := rest }) rfl hp h)
  case port =>
    have hbytes : partialBytes (portPartial s line) ++ [b]
        = partialBytes (portPartial { s with arriving := rest } line) ++ [b] := by cases line <;> rfl
    rw [step_arrival hp ha]
    refine ⟨fun n hn h => congrArg _ (gatherPort_extends hbytes hn h), fun c h hm hc => ?_, fun hm => ?_,
      fun h => congrArg _ (gatherPort_noType hbytes hp h)⟩
    · refine congrArg _ ((gatherPort_ends hbytes hp h).trans ?_)
      rw [decodeMessage_wellFormed hm, hc]
      rfl
    · refine congrArg _ ((gatherPort_ends hbytes hp (messageComplete_of_malformed hm)).trans ?_)
      rw [decodeMessage_malformed hm]
      rfl
  case transaction =>
    have hstep : step s = .next { s with arriving := rest, pending := (transactionCommand bytes).toList } := by
      rw [step_arrival hp ha]
      exact congrArg _ (takeTransaction_empty (s := { s with arriving := rest }) hp)
    rw [hstep]
    refine ⟨fun h => ?_, fun r h => ?_, fun b r h hb => ⟨fun c hc => ?_, fun hc => ?_⟩⟩
    · rw [h, show s = { s with pending := [] } from hp ▸ rfl]
      rfl
    · rw [h, transactionCommand_cons, if_pos rfl]
      rfl
    · rw [h, transactionCommand_request hb, ← h, frameCommand_some hc]
      rfl
    · rw [h, transactionCommand_request hb, ← h, frameCommand_none hc]
      rfl

end Sys2Proof.Proofs
end

section
/-! SUPPORT. The rules of LINK.TIMERS, RETUNE.GET and RETUNE.QUEUE, and what they see through a frame (R83, R98,
R118). -/

namespace Sys2Proof.Machine

section
variable {s : State} {p : Port} {i : Nat} {e : EnrolledLink}

/-! ## LINK.TIMERS (R83, R98) -/

theorem fadeDeadline_eq (e : EnrolledLink) : fadeDeadline e =
    if e.presence = .live then e.lastGood.map (· + BitVec.ofNat 32 e.settings.fadeTime) else none := by
  unfold fadeDeadline
  cases e.presence <;> rfl

theorem lossDeadline_eq (e : EnrolledLink) : lossDeadline e =
    if e.presence = .live ∨ e.presence = .fading then
      e.lastHeard.map (· + BitVec.ofNat 32 e.settings.lossTime) else none := by
  unfold lossDeadline lossTimeEnd
  cases e.presence <;> rfl

theorem timerItems_completeFrame : timerItems (completeFrame p s) e = timerItems s e := by
  rw [timerItems, timerItems, completeFrame_clock]

theorem linkTimersRule_badField (h : 63 < i) : linkTimersRule i s = .refuse .badField := if_pos h

theorem linkTimersRule_enrolled (he : entry s i = .enrolled e) :
    linkTimersRule i s = .accept (timerItems s e) s := by
  rw [linkTimersRule, if_neg (not_lt.2 (le_of_enrolled he)), he]

theorem linkTimersRule_badState (hi : i ≤ 63) (he : (entry s i).isEnrolled = false) :
    linkTimersRule i s = .refuse .badState := by
  rw [linkTimersRule, if_neg (not_lt.2 hi)]
  split
  · next h => rw [h] at he; cases he
  · rfl

/-! ## RETUNE.GET and RETUNE.QUEUE (R118) -/

theorem retuneItems_completeFrame : retuneItems (completeFrame p s) i e = retuneItems s i e := by
  unfold retuneItems
  rw [completeFrame_retune]

theorem retuneGetRule_badField (h : 63 < i) : retuneGetRule i s = .refuse .badField := if_pos h

theorem retuneGetRule_enrolled (he : entry s i = .enrolled e) :
    retuneGetRule i s = .accept (retuneItems s i e) s := by
  rw [retuneGetRule, if_neg (not_lt.2 (le_of_enrolled he)), he]

theorem retuneGetRule_badState (hi : i ≤ 63) (he : (entry s i).isEnrolled = false) :
    retuneGetRule i s = .refuse .badState := by
  rw [retuneGetRule, if_neg (not_lt.2 hi)]
  split
  · next h => rw [h] at he; cases he
  · rfl

theorem searchingLinks_completeFrame : searchingLinks (completeFrame p s) = searchingLinks s := by
  rw [searchingLinks, searchingLinks, engineRequests, engineRequests, completeFrame_engine]

theorem retuneQueueRule_completeFrame : retuneQueueRule (completeFrame p s) =
    .accept (.one (.word s.retune.limit) :: (indexList (searchingLinks s) ++ indexList s.retune.waitList))
      (completeFrame p s) := by
  rw [retuneQueueRule, searchingLinks_completeFrame, completeFrame_retune]

end

end Sys2Proof.Machine
end

section
namespace Sys2Proof.Proofs
open Sys2Proof.Machine

/-- Settles O31: the four rules answer from the entry and the retune controller, which a frame does not change. -/
theorem timerAndRetuneRequests : Obligations.TimerAndRetuneRequests := by
  unfold Obligations.TimerAndRetuneRequests
  refine ⟨fun p i s hi => ⟨fun e he => ?timers, fun he => ?noTimers⟩, fun p s => ⟨fun i hi => ⟨?range, ?getRange⟩,
    fun time hm => ?limit, fun i e he => ?get, fun i hi he => ?noGet, ?queue⟩⟩
  case timers =>
    refine (next_answered rfl (linkTimersRule_enrolled ((entry_completeFrame ..).trans he))).trans ?_
    rw [timerItems_completeFrame, timerItems, fadeDeadline_eq, lossDeadline_eq]
  case noTimers => exact next_refused rfl (linkTimersRule_badState hi (by rwa [entry_completeFrame]))
  case range => exact next_refused rfl (linkTimersRule_badField hi)
  case getRange => exact next_refused rfl (retuneGetRule_badField hi)
  case limit => exact congrArg Host.Outcome.next (takeRequest_answered hm rfl)
  case get =>
    refine (next_answered rfl (retuneGetRule_enrolled ((entry_completeFrame ..).trans he))).trans ?_
    rw [retuneItems_completeFrame, retuneItems]
    cases e.phase with
    | seeking r place => cases place <;> rfl
    | _ => rfl
  case noGet => exact next_refused rfl (retuneGetRule_badState hi (by rwa [entry_completeFrame]))
  case queue => exact next_answered rfl retuneQueueRule_completeFrame

end Sys2Proof.Proofs
end

section
/-! SUPPORT. The presence expiries: what FADE_EXPIRY, LOSS_EXPIRY and RETUNE_DELAY_EXPIRY leave (R91, R92, R95, R97,
R102, R104). -/

namespace Sys2Proof.Machine

section
variable {s t : State} {l : Nat} {e : EnrolledLink} {good heard d : Clock}

/-! ## The expiries taken -/

theorem exec_fadeExpiry (he : entry s l = .enrolled e) (hp : e.presence = .live) (hg : e.lastGood = some good)
    (h : reached (good + BitVec.ofNat 32 e.settings.fadeTime) s.clock = true) :
    exec (.fadeExpiry l) s = .next (fade l e s) := by
  have hreached : watchedReached (fadeDeadline e) s = true := by
    rw [fadeDeadline, hp, hg]
    exact h
  refine congrArg Host.Outcome.next ?_
  rw [enrolledLink_eq_some.2 he]
  exact if_pos hreached

theorem exec_lossExpiry (he : entry s l = .enrolled e) (hp : e.presence = .fading) (hh : e.lastHeard = some heard)
    (h : reached (heard + BitVec.ofNat 32 e.settings.lossTime) s.clock = true) :
    exec (.lossExpiry l) s = .next (setPresence l .lost (stopDelay l s)) := by
  have hreached : watchedReached (lossDeadline e) s = true := by
    rw [lossDeadline, hp, lossTimeEnd, hh]
    exact h
  refine congrArg Host.Outcome.next ?_
  rw [enrolledLink_eq_some.2 he]
  refine if_pos ?_
  rw [hreached, hp]
  rfl

theorem exec_retuneDelayExpiry (he : entry s l = .enrolled e) (ht : e.delayTimer = some d)
    (h : reached d s.clock = true) (hp : e.phase = .none) :
    exec (.retuneDelayExpiry l) s = .next (startSeeking .automatic false l (stopDelay l s)) := by
  have hreached : watchedReached e.delayTimer s = true := by rw [ht]; exact h
  refine congrArg Host.Outcome.next ?_
  rw [enrolledLink_eq_some.2 he]
  exact (if_pos hreached).trans (if_pos hp)

/-! ## A link that leaves LIVE or is lost (R84, R85) -/

/-- R84, R85: a presence other than LIVE is written that the link does not have. -/
theorem setPresence_away {p : Presence} (he : entry s l = .enrolled e) (hne : e.presence ≠ p) (hp : p ≠ .live) :
    setPresence l p s = { s with
      dir.entries := put s.dir.entries l (.enrolled { e with presence := p })
      ctl.changed := setAdd l s.ctl.changed
      ctl.causes :=
        if e.presence = .lost ∨ p = .lost then s.ctl.causes ||| causeOnly .presence else s.ctl.causes } := by
  unfold setPresence
  rw [enrolledLink_eq_some.2 he]
  dsimp only
  rw [if_neg hne, raise_ite, setCuePending_ite, updateLink_enrolled s _ he]
  simp [hp, markChanged, setEntry]

/-- What an expiry that takes a link out of LIVE leaves alone beside the engine and the retune controller, with the
link marked (R91). -/
structure ExpiryFrame (l : Nat) (s t : State) : Prop where
  changed : t.ctl.changed = setAdd l s.ctl.changed
  others : ∀ j, j ≠ l → entry t j = entry s j
  plan : t.plan = s.plan
  ret : t.ret = s.ret
  tally : t.tally = s.tally
  talk : t.talk = s.talk

theorem expiryFrame_setPresence {p : Presence} (he : entry s l = .enrolled e) (hne : e.presence ≠ p)
    (hp : p ≠ .live) : ExpiryFrame l s (setPresence l p s) := by
  have hothers (j : Nat) (hj : j ≠ l) := entry_setPresence_ne (s := s) p hj
  rw [setPresence_away he hne hp] at hothers ⊢
  exact ⟨rfl, hothers, rfl, rfl, rfl, rfl⟩

theorem ExpiryFrame.updateLink (h : ExpiryFrame l s t) (f : EnrolledLink → EnrolledLink) :
    ExpiryFrame l s (updateLink l f t) := by
  have hothers (j : Nat) (hj : j ≠ l) := (entry_updateLink_ne (s := t) f hj).trans (h.others j hj)
  rw [updateLink_frame] at hothers ⊢
  exact ⟨h.changed, hothers, h.plan, h.ret, h.tally, h.talk⟩

theorem ExpiryFrame.startSeeking (h : ExpiryFrame l s t) (o : Origin) (k : Bool) :
    ExpiryFrame l s (startSeeking o k l t) := by
  have hothers (j : Nat) (hj : j ≠ l) := (entry_startSeeking_ne (s := t) o k hj).trans (h.others j hj)
  have hchanged : setAdd l t.ctl.changed = setAdd l s.ctl.changed := by rw [h.changed, setAdd_setAdd]
  rw [startSeeking_frame] at hothers ⊢
  exact ⟨hchanged, hothers, h.plan, h.ret, h.tally, h.talk⟩

/-! ## The branches of a fade (R91, R95) -/

theorem lossReached_live (hp : e.presence = .live) (hh : e.lastHeard = some heard) :
    watchedReached (lossDeadline e) s = reached (heard + BitVec.ofNat 32 e.settings.lossTime) s.clock := by
  rw [lossDeadline, hp, lossTimeEnd, hh]
  rfl

theorem fade_lost (h : watchedReached (lossDeadline e) s = true) : fade l e s = setPresence l .lost s := if_pos h

section
variable (h : watchedReached (lossDeadline e) s = false)
include h

theorem fade_fading (ha : (e.settings.autoRetune && e.phase == .none) = false) :
    fade l e s = setPresence l .fading s := by
  rw [fade, h, if_neg Bool.false_ne_true, startDelay, ha, if_neg Bool.false_ne_true]

variable (ha : (e.settings.autoRetune && e.phase == .none) = true)
include ha

theorem fade_delays (hd : e.settings.retuneDelay ≠ 0) : fade l e s = updateLink l
    (fun e => { e with delayTimer := some (deadlineAfter e.settings.retuneDelay (setPresence l .fading s)) })
    (setPresence l .fading s) := by
  rw [fade, h, if_neg Bool.false_ne_true, startDelay, ha, if_pos rfl, if_neg hd]

theorem fade_seeks (hd : e.settings.retuneDelay = 0) :
    fade l e s = startSeeking .automatic false l (setPresence l .fading s) := by
  rw [fade, h, if_neg Bool.false_ne_true, startDelay, ha, if_pos rfl, if_pos hd]

end

/-! ## An automatic retune (R102, R104) -/

/-- A retune that starts after another write of its link's entry and of the changed-link set. -/
theorem startSeeking_placed_after {u : State} {e' : EnrolledLink} (o : Origin) (k : Bool)
    (hu : entry u l = .enrolled e') (hc : e'.carrier = e.carrier) (hclock : u.clock = s.clock)
    (hengine : u.engine = s.engine) (hplan : u.plan = s.plan) (hretune : u.retune = s.retune) :
    ∃ place, entry (startSeeking o k l u) l = .enrolled { e' with
        phase := .seeking ⟨o, k, s.clock + BitVec.ofNat 32 s.retune.limit⟩ place } ∧
      SearchPlaced place l e s (startSeeking o k l u) ∧
      (startSeeking o k l u).retune.seekOrder = s.retune.seekOrder ++ [l] := by
  obtain ⟨place, hentry, hplaced⟩ := startSeeking_placed o k hu
  rw [deadlineAfter, hclock, hretune] at hentry
  refine ⟨place, hentry, searchPlaced_congr hc hengine hplan (by rw [hretune]) hplaced, ?_⟩
  rw [startSeeking_frame, hretune]

end

end Sys2Proof.Machine
end

section
namespace Sys2Proof.Proofs
open Sys2Proof.Machine

/-- Settles O29: each expiry runs one branch (`fade_lost` to `fade_seeks`), which writes the link's presence and then
starts the timer or the retune on the state so reached. -/
theorem presenceExpiries : Obligations.PresenceExpiries := by
  unfold Obligations.PresenceExpiries
  refine ⟨fun l e good heard s he hp hg hh h => ?fade, fun l e heard s he hp hh h => ?loss,
    fun l e d s he ht h hphase => ?delay⟩
  case fade =>
    intro lost automatic
    have hexec := exec_fadeExpiry he hp hg h
    have hlost : watchedReached (lossDeadline e) s = lost := lossReached_live hp hh
    have haway (p : Presence) (hne : p ≠ .live) : e.presence ≠ p := fun h => hne (h ▸ hp)
    clear_value lost
    cases lost with
    | true =>
      have hw := setPresence_away he (haway .lost nofun) nofun
      obtain ⟨hchanged, hothers, hplan, hret, htally, htalk⟩ := expiryFrame_setPresence he (haway .lost nofun) nofun
      refine ⟨_, _, hexec.trans (congrArg _ (fade_lost hlost)), entry_setPresence_self .lost he, fun _ => ⟨rfl, ?_⟩,
        nofun, nofun, nofun, fun _ => ?_, hchanged, hothers, hplan, hret, htally, htalk⟩
      · rw [causeIsSet, hw, if_pos (.inr rfl), isSet_or, beq_self_eq_true, Bool.or_true]
      · rw [hw]
        exact ⟨rfl, rfl⟩
    | false =>
      have hframe := expiryFrame_setPresence he (haway .fading nofun) nofun
      have hl := entry_setPresence_self .fading he
      have hw := setPresence_away he (haway .fading nofun) nofun
      rw [if_neg (by rw [hp]; exact not_or.2 ⟨nofun, nofun⟩)] at hw
      cases ha : automatic with
      | false =>
        obtain ⟨hchanged, hothers, hplan, hret, htally, htalk⟩ := hframe
        refine ⟨_, _, hexec.trans (congrArg _ (fade_fading hlost ha)), hl, nofun, fun _ _ => ⟨rfl, ?_⟩, nofun, nofun,
          fun _ => ?_, hchanged, hothers, hplan, hret, htally, htalk⟩
        · rw [hw]
        · rw [hw]
          exact ⟨rfl, rfl⟩
      | true =>
        by_cases hd : e.settings.retuneDelay = 0
        · obtain ⟨place, hentry, hplaced, horder⟩ := startSeeking_placed_after (s := s) (e := e) .automatic false hl rfl
            (by rw [hw]) (by rw [hw]) (by rw [hw]) (by rw [hw])
          obtain ⟨hchanged, hothers, hplan, hret, htally, htalk⟩ := hframe.startSeeking .automatic false
          refine ⟨_, _, hexec.trans (congrArg _ (fade_seeks hlost ha hd)), hentry, nofun, nofun,
            fun _ _ hne => absurd hd hne, fun _ _ _ => ⟨⟨place, rfl, hplaced⟩, horder, ?_⟩, ?_, hchanged, hothers,
            hplan, hret, htally, htalk⟩
          · rw [startSeeking_frame, hw]
          · rintro (h | h | h)
            · cases h
            · cases h
            · exact absurd hd h
        · obtain ⟨hchanged, hothers, hplan, hret, htally, htalk⟩ := hframe.updateLink fun e => { e with
            delayTimer := some (deadlineAfter e.settings.retuneDelay (setPresence l .fading s)) }
          refine ⟨_, _, hexec.trans (congrArg _ (fade_delays hlost ha hd)), entry_updateLink_self _ hl, nofun, nofun,
            fun _ _ _ => ⟨?_, ?_⟩, fun _ _ h => absurd h hd, fun _ => ?_, hchanged, hothers, hplan, hret, htally, htalk⟩
          · rw [deadlineAfter, hw]
          · rw [updateLink_frame, hw]
          · rw [updateLink_frame, hw]
            exact ⟨rfl, rfl⟩
  case loss =>
    have hl := entry_updateLink_self (fun e => { e with delayTimer := none }) he
    have hw := setPresence_away (p := .lost) hl (by dsimp only; rw [hp]; exact nofun) nofun
    rw [exec_lossExpiry he hp hh h, stopDelay, hw, updateLink_enrolled s _ he, setEntry_dir, put_put, if_pos (.inr rfl)]
    rfl
  case delay =>
    have hl := entry_updateLink_self (fun e => { e with delayTimer := none }) he
    obtain ⟨place, hentry, hplaced, horder⟩ := startSeeking_placed_after (s := s) (e := e) .automatic false hl rfl
      (by rw [updateLink_frame]) (updateLink_engine ..) (updateLink_plan ..) (updateLink_retune ..)
    refine ⟨_, place, exec_retuneDelayExpiry he ht h hphase, hentry, hplaced, horder, ?_, ?_,
      fun j hj => (entry_startSeeking_ne _ _ hj).trans (entry_updateLink_ne _ hj), ?_, ?_⟩
    all_goals rw [startSeeking_frame, stopDelay, updateLink_frame]

end Sys2Proof.Proofs
end

section
/-! SUPPORT. A change of a link's presence or retune phase is reported: the link enters the changed-link set, and
PRESENCE or RETUNE_END is raised where the change calls for it (R84, R85, R101, R184). -/

namespace Sys2Proof.Machine

section
variable {s t u : State} {l : Nat} {e e' e'' : EnrolledLink} {x : LinkEntry}

/-! ## What is reported of a link -/

/-- The state `t` reports the change of link `l` from `e` to `e'`. -/
structure LinkReported (t : State) (l : Nat) (e e' : EnrolledLink) : Prop where
  changed : e'.presence ≠ e.presence ∨ phaseNumber e'.phase ≠ phaseNumber e.phase → l ∈ t.ctl.changed
  presence : e'.presence ≠ e.presence → e'.presence = .lost ∨ e.presence = .lost → causeIsSet .presence t = true
  retuneEnd : e.phase ≠ .none → e'.phase = .none → causeIsSet .retuneEnd t = true

theorem phaseNumber_eq_zero {p : RetunePhase} : phaseNumber p = 0 ↔ p = .none := by
  cases p <;> simp [phaseNumber]

/-- A link whose presence and phase stay has nothing to report. -/
theorem LinkReported.of_same (hp : e'.presence = e.presence) (hn : phaseNumber e'.phase = phaseNumber e.phase) :
    LinkReported t l e e' where
  changed h := absurd h (not_or.2 ⟨not_not.2 hp, not_not.2 hn⟩)
  presence h := absurd hp h
  retuneEnd h h' := absurd (phaseNumber_eq_zero.1 (hn ▸ phaseNumber_eq_zero.2 h')) h

/-- What is reported stays reported where marks and causes stay. -/
theorem LinkReported.mono (h : LinkReported s l e e') (hmarks : l ∈ s.ctl.changed → l ∈ t.ctl.changed)
    (hcauses : ∀ c, causeIsSet c s = true → causeIsSet c t = true) : LinkReported t l e e' where
  changed := hmarks ∘ h.changed
  presence hp := hcauses _ ∘ h.presence hp
  retuneEnd hp := hcauses _ ∘ h.retuneEnd hp

/-- Two changes, one after the other, both reported. -/
theorem LinkReported.trans (h : LinkReported t l e e') (h' : LinkReported t l e' e'') : LinkReported t l e e'' where
  changed hne := by
    by_cases hlast : e''.presence ≠ e'.presence ∨ phaseNumber e''.phase ≠ phaseNumber e'.phase
    · exact h'.changed hlast
    · obtain ⟨hp, hn⟩ := not_or.1 hlast
      rw [not_not.1 hp, not_not.1 hn] at hne
      exact h.changed hne
  presence hne hlost := by
    by_cases hp : e''.presence = e'.presence
    · rw [hp] at hne hlost
      exact h.presence hne hlost
    · by_cases hbetween : e'.presence = .lost
      · exact h'.presence hp (.inr hbetween)
      · exact hlost.elim (fun hl => h'.presence hp (.inl hl))
          fun hl => h.presence (fun he => hbetween (he.trans hl)) (.inr hl)
  retuneEnd hne hend := by
    by_cases hp : e'.phase = .none
    · exact h.retuneEnd hne hp
    · exact h'.retuneEnd hp hend

/-! ## What an operation reports -/

/-- From `s` to `t` marks and causes stay, no link becomes ENROLLED, and the change of every link is reported. -/
structure ChangesReported (s t : State) : Prop where
  marks : ∀ l, l ∈ s.ctl.changed → l ∈ t.ctl.changed
  causes : ∀ c, causeIsSet c s = true → causeIsSet c t = true
  links : ∀ l e', entry t l = .enrolled e' → ∃ e, entry s l = .enrolled e ∧ LinkReported t l e e'

theorem ChangesReported.trans (h : ChangesReported s t) (h' : ChangesReported t u) : ChangesReported s u where
  marks l := h'.marks l ∘ h.marks l
  causes c := h'.causes c ∘ h.causes c
  links l e'' hu := by
    obtain ⟨e', ht, hlast⟩ := h'.links l e'' hu
    obtain ⟨e, hs, hfirst⟩ := h.links l e' ht
    exact ⟨e, hs, (hfirst.mono (h'.marks l) h'.causes).trans hlast⟩

/-- Entries and the changed-link set stay, and no cause is cleared. -/
theorem ChangesReported.of_entries (he : t.dir.entries = s.dir.entries) (hm : t.ctl.changed = s.ctl.changed)
    (hc : ∀ c, causeIsSet c s = true → causeIsSet c t = true) : ChangesReported s t where
  marks l hl := hm ▸ hl
  causes := hc
  links l e' ht := by
    rw [entry, he] at ht
    exact ⟨e', ht, .of_same rfl rfl⟩

/-- The directory and the control block stay. -/
theorem ChangesReported.of_blocks (hd : t.dir = s.dir) (hc : t.ctl = s.ctl) : ChangesReported s t :=
  .of_entries (by rw [hd]) (by rw [hc]) fun c h => by rwa [causeIsSet, hc]

theorem ChangesReported.after (h : ChangesReported t u) (hd : t.dir = s.dir) (hc : t.ctl = s.ctl) :
    ChangesReported s u :=
  (of_blocks hd hc).trans h

theorem ChangesReported.then_blocks (h : ChangesReported s t) (hd : u.dir = t.dir) (hc : u.ctl = t.ctl) :
    ChangesReported s u :=
  h.trans (.of_blocks hd hc)

theorem ChangesReported.refl (s : State) : ChangesReported s s := .of_blocks rfl rfl

/-- One link's entry is written, and its change is reported. -/
theorem ChangesReported.of_link (he : entry s l = .enrolled e) (hl : entry t l = .enrolled e')
    (hothers : ∀ j, j ≠ l → entry t j = entry s j) (hmarks : ∀ j, j ∈ s.ctl.changed → j ∈ t.ctl.changed)
    (hcauses : ∀ c, causeIsSet c s = true → causeIsSet c t = true) (h : LinkReported t l e e') :
    ChangesReported s t := by
  refine ⟨hmarks, hcauses, fun j y hj => ?_⟩
  by_cases hjl : j = l
  · subst hjl
    cases hl.symm.trans hj
    exact ⟨e, he, h⟩
  · exact ⟨y, hothers j hjl ▸ hj, .of_same rfl rfl⟩

/-- An entry that is not ENROLLED is written. -/
theorem changesReported_setEntry_free (hx : x.isEnrolled = false) : ChangesReported s (setEntry l x s) := by
  refine ⟨fun _ => id, fun _ => id, fun j y hj => ?_⟩
  rw [entry_setEntry] at hj
  split at hj
  · rw [hj] at hx; cases hx
  · exact ⟨y, hj, .of_same rfl rfl⟩

theorem changesReported_markChanged (l : Nat) (s : State) : ChangesReported s (markChanged l s) where
  marks _ h := (mem_setAdd ..).2 (.inr h)
  causes _ := id
  links _ y h := ⟨y, h, .of_same rfl rfl⟩

theorem changesReported_raise (c : Cause) (s : State) : ChangesReported s (raise c s) :=
  .of_entries rfl rfl fun _ => causeIsSet_of_or rfl

/-- A link's entry is written without its presence or phase. -/
theorem changesReported_updateLink {f : EnrolledLink → EnrolledLink} (hp : ∀ e, (f e).presence = e.presence)
    (hn : ∀ e, phaseNumber (f e).phase = phaseNumber e.phase) : ChangesReported s (updateLink l f s) := by
  have hctl : (updateLink l f s).ctl = s.ctl := by rw [updateLink_frame]
  cases he : entry s l with
  | enrolled e =>
    exact .of_link he (entry_updateLink_self f he) (fun j hj => entry_updateLink_ne f hj)
      (fun j hj => by rwa [hctl]) (fun c hc => by rwa [causeIsSet, hctl]) (.of_same (hp e) (hn e))
  | _ =>
    rw [updateLink, he]
    exact .refl s

/-! ## Searches -/

theorem changesReported_setPlace (place : SearchPlace) : ChangesReported s (setPlace place l s) :=
  changesReported_updateLink (fun _ => rfl) fun e => by dsimp only; cases e.phase <;> rfl

theorem changesReported_queueSearch : ChangesReported s (queueSearch l s) := by
  unfold queueSearch
  split
  · exact (changesReported_setPlace .inEngine).after rfl rfl
  · exact .refl s

theorem changesReported_joinWaitList : ChangesReported s (joinWaitList l s) :=
  (changesReported_setPlace (s := { s with retune.waitList := _ }) .waiting).after rfl rfl

theorem changesReported_serveWaitList (s : State) : ChangesReported s (serveWaitList s) := by
  unfold serveWaitList
  split
  · exact .refl s
  · split
    · exact changesReported_queueSearch.after rfl rfl
    · exact .refl s

/-! ## Retunes -/

theorem changesReported_startSeeking (o : Origin) (k : Bool) (he : entry s l = .enrolled e) (hp : e.phase = .none) :
    ChangesReported s (startSeeking o k l s) := by
  obtain ⟨place, hl, -⟩ := startSeeking_placed o k he
  have hctl : (startSeeking o k l s).ctl = { s.ctl with changed := setAdd l s.ctl.changed } := by
    rw [startSeeking_frame]
  refine .of_link he hl (fun j hj => entry_startSeeking_ne o k hj) (fun j hj => ?marks)
    (fun c hc => by rwa [causeIsSet, hctl]) ⟨fun _ => ?marked, fun h => absurd rfl h, fun h => absurd hp h⟩
  case marks => rw [hctl]; exact (mem_setAdd ..).2 (.inr hj)
  case marked => rw [hctl]; exact (mem_setAdd ..).2 (.inl rfl)

theorem changesReported_enterOrdered (rec_ : RetuneRecord) (n : Nat) (he : entry s l = .enrolled e) :
    ChangesReported s (enterOrdered rec_ n l s) := by
  have hctl : (enterOrdered rec_ n l s).ctl = { s.ctl with changed := setAdd l s.ctl.changed } := by
    rw [enterOrdered_eq]
  refine .of_link he (entry_enterOrdered_self rec_ n he) (fun j hj => entry_enterOrdered_ne rec_ n hj)
    (fun j hj => ?marks) (fun c hc => by rwa [causeIsSet, hctl])
    ⟨fun _ => ?marked, fun h => absurd rfl h, fun _ h => by cases h⟩
  case marks => rw [hctl]; exact (mem_setAdd ..).2 (.inr hj)
  case marked => rw [hctl]; exact (mem_setAdd ..).2 (.inl rfl)

theorem changesReported_endRetune (result : RetuneResult) (he : entry s l = .enrolled e) :
    ChangesReported s (endRetune result l s) := by
  refine .of_link he (entry_endRetune_self result he) (fun j hj => entry_endRetune_ne result hj) (fun j hj => ?marks)
    (fun c => causeIsSet_of_or endRetune_causes) ⟨fun _ => ?marked, fun h => absurd rfl h, fun _ _ => ?ended⟩
  case marks => rw [endRetune_changed]; exact (mem_setAdd ..).2 (.inr hj)
  case marked => rw [endRetune_changed]; exact (mem_setAdd ..).2 (.inl rfl)
  case ended => rw [causeIsSet, endRetune_causes, isSet_or, beq_self_eq_true, Bool.or_true]

theorem changesReported_applySearchResult (f : FindResult) : ChangesReported s (applySearchResult l f s) := by
  unfold applySearchResult
  split
  · next e he =>
    split
    · next rec_ place _ =>
      split
      · exact changesReported_joinWaitList
      · split
        · exact changesReported_endRetune _ he
        · dsimp only
          split
          · exact changesReported_endRetune _ he
          · exact changesReported_endRetune _ he
          · next n t ho =>
            obtain ⟨-, -, -, rfl⟩ := openFromSearch_inv ho
            refine ChangesReported.after (changesReported_enterOrdered rec_ n (e := e) ?_) rfl rfl
            rwa [entry_markStale, entry_setRecord]
    · exact .refl s
  · exact .refl s

/-! ## The engine -/

theorem changesReported_deliverResult (q : EngineRequest) (r : EngineResult) (s : State) :
    ChangesReported s (deliverResult q r s) := by
  have hidle : ChangesReported s { s with engine.running := none } := .of_blocks rfl rfl
  unfold deliverResult
  split
  · exact (changesReported_raise ..).after rfl rfl
  · refine .trans ?_ (changesReported_serveWaitList _)
    cases r with
    | find f => exact hidle.trans (changesReported_applySearchResult f)
    | check c => exact hidle

theorem changesReported_startHeads (n : Nat) (s : State) : ChangesReported s (startHeads n s) := by
  induction n generalizing s with
  | zero => exact .refl s
  | succ n ih =>
    unfold startHeads
    split
    · next q rest _ _ =>
      have hbegin : ChangesReported s (beginRequest q rest s) := by
        unfold beginRequest
        split <;> exact .of_blocks rfl rfl
      dsimp only
      split
      · exact hbegin.trans ((changesReported_deliverResult q _ _).trans (ih _))
      · exact hbegin
    · exact .refl s

theorem changesReported_startHead (s : State) : ChangesReported s (startHead s) := changesReported_startHeads _ s

theorem changesReported_completeRequest (q : EngineRequest) (r : EngineResult) (s : State) :
    ChangesReported s (completeRequest q r s) :=
  (changesReported_deliverResult q r s).trans (changesReported_startHead _)

theorem changesReported_evaluateRunning (s : State) : ChangesReported s (evaluateRunning s) := by
  unfold evaluateRunning
  split
  · exact .refl s
  · split
    · exact changesReported_completeRequest ..
    · dsimp only
      split
      · exact changesReported_completeRequest ..
      · split
        · exact changesReported_completeRequest ..
        · exact .of_blocks rfl rfl

theorem changesReported_checkCancelRule (k : Nat) (s : State) : ChangesReported s ((checkCancelRule k s).after s) := by
  unfold checkCancelRule
  split
  · exact .refl s
  · split
    · exact .refl s
    · exact .of_blocks rfl rfl
    · exact (changesReported_startHead _).after rfl rfl
    · exact .of_blocks rfl rfl

/-! ## Aborts and completions -/

theorem changesReported_cancelSearch (l : Nat) (s : State) : ChangesReported s (cancelSearch l s) := by
  have hcancel : ChangesReported s (cancelInternal l s) := .of_blocks rfl rfl
  have hleft := hcancel.trans (changesReported_serveWaitList _)
  unfold cancelSearch
  dsimp only
  split
  · exact hleft.trans (changesReported_startHead _)
  · exact hleft

theorem changesReported_abortRetune (result : RetuneResult) (l : Nat) (s : State) :
    ChangesReported s (abortRetune result l s) := by
  unfold abortRetune
  split
  · next e he =>
    split
    · exact .refl s
    · exact (changesReported_endRetune result he).trans (changesReported_cancelSearch l _)
    · exact changesReported_endRetune result he
    · next n _ =>
      refine ChangesReported.after (changesReported_endRetune (e := e) result ?_) ?_ ?_
      · rwa [entry_removeTunePending, entry_closeRecord]
      · rw [removeTunePending_dir, closeRecord_frame]
      · rw [removeTunePending_ctl, closeRecord_ctl]
  · exact .refl s

theorem changesReported_promoteRecord (n : Nat) (s : State) : ChangesReported s (promoteRecord n s) := by
  unfold promoteRecord
  split <;> exact .of_blocks rfl rfl

theorem changesReported_releaseOldRecord (n : Nat) (keep : Bool) (s : State) :
    ChangesReported s (releaseOldRecord n keep s) := by
  unfold releaseOldRecord
  split <;> exact .of_blocks rfl rfl

theorem changesReported_releaseRecord (n : Nat) (s : State) : ChangesReported s (releaseRecord n s) := by
  unfold releaseRecord
  split <;> exact .of_blocks rfl rfl

theorem changesReported_completeRetune (rec_ : RetuneRecord) (n l : Nat) (s : State) :
    ChangesReported s (completeRetune rec_ n l s) := by
  unfold completeRetune
  split
  · next e he =>
    have hrecords := (changesReported_promoteRecord n s).trans
      (changesReported_releaseOldRecord e.carrier rec_.keepOld _)
    have hcarrier := hrecords.trans
      (changesReported_updateLink (l := l) (f := fun e => { e with carrier := n }) (fun _ => rfl) fun _ => rfl)
    refine hcarrier.trans (ChangesReported.after (changesReported_endRetune .done
      (e := { e with carrier := n }) ?_) (removeTunePending_dir ..) (removeTunePending_ctl ..))
    rw [entry_removeTunePending]
    refine entry_updateLink_self (fun e => { e with carrier := n }) ?_
    rwa [entry_releaseOldRecord, entry_promoteRecord]
  · exact .refl s

/-! ## Presence -/

theorem changesReported_setPresence (p : Presence) (l : Nat) (s : State) :
    ChangesReported s (setPresence l p s) := by
  by_cases henrolled : ∃ e, entry s l = .enrolled e
  swap
  · unfold setPresence
    split
    · exact .refl s
    · next he => exact absurd ⟨_, enrolledLink_eq_some.1 he⟩ henrolled
  obtain ⟨e, he⟩ := henrolled
  have hchanged : (setPresence l p s).ctl.changed
      = if e.presence = p then s.ctl.changed else setAdd l s.ctl.changed := by rw [setPresence_frame p he]
  have hcauses : (setPresence l p s).ctl.causes = if e.presence ≠ p ∧ (e.presence = .lost ∨ p = .lost) then
      s.ctl.causes ||| causeOnly .presence else s.ctl.causes := by rw [setPresence_frame p he]
  refine .of_link he (entry_setPresence_self p he) (fun j hj => entry_setPresence_ne p hj) (fun j hj => ?marks)
    (fun c hc => ?causes) ⟨fun hne => ?marked, fun hne hlost => ?raised, fun h h' => absurd h' h⟩
  case marks =>
    rw [hchanged]
    split
    · exact hj
    · exact (mem_setAdd ..).2 (.inr hj)
  case causes =>
    split at hcauses
    · exact causeIsSet_of_or hcauses hc
    · rwa [causeIsSet, hcauses]
  case marked =>
    rw [hchanged, if_neg (hne.resolve_right fun h => h rfl).symm]
    exact (mem_setAdd ..).2 (.inl rfl)
  case raised =>
    rw [causeIsSet, hcauses, if_pos ⟨Ne.symm hne, hlost.symm⟩, isSet_or, beq_self_eq_true, Bool.or_true]

theorem changesReported_stopDelay (l : Nat) (s : State) : ChangesReported s (stopDelay l s) :=
  changesReported_updateLink (fun _ => rfl) fun _ => rfl

theorem changesReported_noteReport (l receiver margin : Nat) (s : State) :
    ChangesReported s (noteReport l receiver margin s) :=
  changesReported_updateLink (fun _ => rfl) fun _ => rfl

theorem changesReported_applyPresence (l : Nat) (e : EnrolledLink) (q : HeardReport) (s : State) :
    ChangesReported s (applyPresence l e q s) := by
  have hnote := changesReported_noteReport l q.receiver (clampMargin q.margin) s
  unfold applyPresence
  dsimp only
  split
  · have hgood := hnote.trans (changesReported_updateLink (l := l) (f := fun e => { e with lastGood := some s.clock })
      (fun _ => rfl) fun _ => rfl)
    exact (hgood.trans (changesReported_stopDelay l _)).trans (changesReported_setPresence .live l _)
  · unfold weakReport
    dsimp only
    split
    · exact hnote.trans (changesReported_setPresence ..)
    · exact hnote

theorem changesReported_compareEcho (l : Nat) (echo : Option Cue) (s : State) :
    ChangesReported s (compareEcho l echo s) := by
  by_cases henrolled : ∃ e, entry s l = .enrolled e
  · obtain ⟨e, he⟩ := henrolled
    have h := echoCompared_compareEcho echo he
    obtain ⟨role, hl, -, -⟩ := h.own
    refine .of_link he hl h.others (fun j hj => h.changed ▸ hj) (fun c hc => ?_) (.of_same rfl rfl)
    rcases h.causes with hsame | hraised
    · rwa [causeIsSet, hsame]
    · exact causeIsSet_of_or hraised hc
  · unfold compareEcho
    split
    · next he => exact absurd ⟨_, enrolledLink_eq_some.1 he⟩ henrolled
    · exact .refl s

/-! ## Expiries (R91, R92, R97, R113) -/

theorem changesReported_fade (he : entry s l = .enrolled e) : ChangesReported s (fade l e s) := by
  unfold fade
  split
  · exact changesReported_setPresence ..
  · have hfading := changesReported_setPresence .fading l s
    unfold startDelay
    split
    · next hauto =>
      split
      · exact hfading.trans (changesReported_startSeeking _ _ (entry_setPresence_self .fading he)
          (beq_iff_eq.1 (Bool.and_eq_true_iff.1 hauto).2))
      · exact hfading.trans (changesReported_updateLink (fun _ => rfl) fun _ => rfl)
    · exact hfading

theorem changesReported_delayEnds (he : entry s l = .enrolled e) : ChangesReported s
    (if e.phase = .none then startSeeking .automatic false l (stopDelay l s) else stopDelay l s) := by
  split
  · next hp => exact (changesReported_stopDelay l s).trans (changesReported_startSeeking _ _
      (entry_updateLink_self (fun e => { e with delayTimer := none }) he) hp)
  · exact changesReported_stopDelay l s

/-! ## Reports (R65) -/

theorem changesReported_reportEnrolled (l : Nat) (e : EnrolledLink) (q : HeardReport) (s : State) :
    ChangesReported s (reportEnrolled l e q s) := by
  have hpresence := changesReported_applyPresence l e q s
  unfold reportEnrolled
  split
  · exact .of_entries rfl rfl fun _ => causeIsSet_of_or rfl
  · exact hpresence.trans (changesReported_compareEcho ..)
  · next rec_ n _ =>
    dsimp only
    refine ChangesReported.trans ?_ (changesReported_compareEcho ..)
    split
    · exact hpresence.trans (changesReported_completeRetune rec_ n l _)
    · exact hpresence

theorem changesReported_admitStranger (q : HeardReport) (s : State) : ChangesReported s (admitStranger q s) := by
  unfold admitStranger
  split
  · exact (changesReported_setEntry_free rfl).trans (changesReported_markChanged _ _)
  · exact .of_entries rfl rfl fun _ => id

theorem changesReported_handleReport (q : HeardReport) (s : State) : ChangesReported s (handleReport q s) := by
  unfold handleReport
  split
  · split
    · exact changesReported_reportEnrolled ..
    · exact changesReported_setEntry_free rfl
    · exact .refl s
  · have hcapture : ChangesReported s (capture .unknown q s) := .of_entries rfl rfl fun _ => causeIsSet_of_or rfl
    dsimp only
    split
    · exact hcapture.trans (changesReported_admitStranger q _)
    · exact hcapture

theorem changesReported_moveRover (s : State) : ChangesReported s (moveRover s) := .of_entries rfl rfl fun _ => id

/-! ## Retune requests, retiring and erasing -/

theorem changesReported_linkRetuneRule (l n k : Nat) (s : State) :
    ChangesReported s ((linkRetuneRule l n k s).after s) := by
  unfold linkRetuneRule
  dsimp only
  split
  · exact .refl s
  · split
    · exact .refl s
    · split
      · next e he =>
        split
        · next hp =>
          have hstop : ChangesReported s (updateLink l (fun e => { e with delayTimer := none }) s) :=
            changesReported_stopDelay l s
          have hl := entry_updateLink_self (fun e => { e with delayTimer := none }) he
          split
          · exact hstop.trans (changesReported_startSeeking _ _ hl hp)
          · split
            · exact .refl s
            · next v hopen =>
              obtain ⟨c, -, rfl⟩ := openOnTarget_eq_some.1 hopen
              rw [after_accept]
              refine hstop.trans (ChangesReported.after (changesReported_enterOrdered _ _ (l := l)
                (e := { e with delayTimer := none }) ?_) ?_ ?_)
              · rw [entry_markStale, entry_setRecord, hl]
              · rw [markStale_dir, setRecord_dir]
              · rw [markStale_ctl, setRecord_ctl]
        · exact .refl s
      · exact .refl s

theorem changesReported_linkHaltRule (l : Nat) (s : State) : ChangesReported s ((linkHaltRule l s).after s) := by
  unfold linkHaltRule
  split
  · exact .refl s
  · split
    · split
      · exact .refl s
      · exact changesReported_abortRetune .halted l s
    · exact .refl s

theorem changesReported_unbind (l : Nat) (s : State) : ChangesReported s (unbind l s) := by
  unfold unbind
  split
  · exact (changesReported_releaseRecord ..).trans (changesReported_setEntry_free rfl)
  · exact .refl s

theorem changesReported_retire (l : Nat) (s : State) : ChangesReported s (retire l s) := by
  have hleft := (changesReported_abortRetune .retired l s).trans (changesReported_unbind l _)
  unfold retire
  dsimp only
  refine ChangesReported.trans (hleft.then_blocks ?_ ?_) (changesReported_markChanged l _)
  all_goals rw [statusesAfter_frame, leaveDestination_frame]; rfl

theorem changesReported_vacate (l : Nat) (s : State) : ChangesReported s (vacate l s) :=
  (changesReported_setEntry_free rfl).trans (changesReported_markChanged l _)

theorem changesReported_linkRetireRule (l : Nat) (s : State) : ChangesReported s ((linkRetireRule l s).after s) := by
  unfold linkRetireRule
  split
  · exact .refl s
  · split
    · exact changesReported_retire l s
    · exact .refl s

theorem changesReported_linkEraseRule (l : Nat) (s : State) : ChangesReported s ((linkEraseRule l s).after s) := by
  unfold linkEraseRule
  split
  · exact .refl s
  · split
    · exact .refl s
    · exact changesReported_vacate l s
    · exact (changesReported_retire l s).trans (changesReported_vacate l _)

end

end Sys2Proof.Machine
end

section
/-! SUPPORT. Every command but a warm restart reports the changes of the links that it leaves ENROLLED (R84, R85, R101,
R184). -/

namespace Sys2Proof.Machine

section
variable {s t u : State} {l : Nat} {e e' : EnrolledLink} {x : LinkEntry}

/-! ## Links that stay ENROLLED -/

/-- From `s` to `t` the change of every link that is ENROLLED in both is reported. -/
def AllReported (s t : State) : Prop :=
  ∀ l e e', entry s l = .enrolled e → entry t l = .enrolled e' → LinkReported t l e e'

theorem ChangesReported.all (h : ChangesReported s t) : AllReported s t := by
  intro l e e' hs ht
  obtain ⟨e₀, hs₀, hreported⟩ := h.links l e' ht
  cases hs.symm.trans hs₀
  exact hreported

theorem AllReported.refl (s : State) : AllReported s s := (ChangesReported.refl s).all

/-- No ENROLLED link's presence or phase is written. -/
theorem allReported_of_same (h : ∀ l e e', entry s l = .enrolled e → entry t l = .enrolled e' →
    e'.presence = e.presence ∧ e'.phase = e.phase) : AllReported s t := by
  intro l e e' hs ht
  obtain ⟨hp, hn⟩ := h l e e' hs ht
  exact .of_same hp (by rw [hn])

theorem allReported_of_entries (h : ∀ l, (entry s l).isEnrolled = true → entry t l = entry s l) : AllReported s t := by
  refine allReported_of_same fun l e e' hs ht => ?_
  rw [h l (by rw [hs]; rfl), hs] at ht
  cases ht
  exact ⟨rfl, rfl⟩

theorem entry_of_listing (h : listing t = listing s) (l : Nat) : entry t l = entry s l :=
  congrArg (fun v : Listing => look v.entries l) h

theorem allReported_of_listing (h : listing t = listing s) : AllReported s t :=
  allReported_of_entries fun l _ => entry_of_listing h l

/-- Of the entries only one that is not ENROLLED is written. -/
theorem allReported_of_free (ht : ∀ j, entry t j = entry (setEntry l x s) j) (hl : (entry s l).isEnrolled = false) :
    AllReported s t := by
  refine allReported_of_entries fun j hj => ?_
  rw [ht, entry_setEntry, if_neg]
  rintro ⟨rfl, -⟩
  rw [hl] at hj
  cases hj

/-- Of the entries only one ENROLLED link's is written, without its presence or phase. -/
theorem allReported_of_quiet (ht : ∀ j, entry t j = entry (setEntry l (.enrolled e') s) j)
    (he : entry s l = .enrolled e) (hp : e'.presence = e.presence) (hn : e'.phase = e.phase) : AllReported s t := by
  refine allReported_of_same fun j y y' hs hy' => ?_
  rw [ht, entry_setEntry] at hy'
  split at hy'
  · next hj =>
    rw [← hj.1] at hs
    cases he.symm.trans hs
    cases hy'
    exact ⟨hp, hn⟩
  · cases hs.symm.trans hy'
    exact ⟨rfl, rfl⟩

theorem AllReported.then_reported (h : AllReported s t) (h' : ChangesReported t u) : AllReported s u := by
  intro l e e'' hs hu
  obtain ⟨e', ht, hlast⟩ := h'.links l e'' hu
  exact ((h l e e' hs ht).mono (h'.marks l) h'.causes).trans hlast

theorem changesReported_respond (p : Port) (r : Response) (s : State) : ChangesReported s (respond p r s) :=
  .of_entries (congrArg Listing.entries (listing_respond s p r)) (congrArg Listing.changed (listing_respond s p r))
    fun c h => by rwa [causeIsSet, respond_ctl_causes]

theorem changesReported_completeFrame (p : Port) (s : State) : ChangesReported s (completeFrame p s) := by
  cases p <;> exact .of_entries rfl rfl fun _ => id

/-- A request reports what its rule reports. -/
theorem allReported_takeRequest {p : Port} {c : RequestCode} {rule : State → Verdict}
    (h : ∀ u, AllReported u ((rule u).after u)) (s : State) : AllReported s (takeRequest p c rule s) := by
  obtain ⟨r, ht | ht⟩ := takeRequest_after s p c rule
  · rw [ht]
    refine AllReported.then_reported (fun l e e' hs hl => ?_) (changesReported_respond ..)
    exact h _ l e e' ((entry_completeFrame ..).trans hs) hl
  · rw [ht]
    exact ((changesReported_completeFrame p s).trans (changesReported_respond ..)).all

/-- A request reports what its rule reports, where that keeps marks and causes. -/
theorem allReported_takeRequest_of_changes {p : Port} {c : RequestCode} {rule : State → Verdict}
    (h : ∀ u, ChangesReported u ((rule u).after u)) (s : State) : AllReported s (takeRequest p c rule s) :=
  allReported_takeRequest (fun u => (h u).all) s

/-! ## The requests that write no presence and no phase -/

theorem allReported_linkNoteRule (l a k : Nat) (s : State) : AllReported s ((linkNoteRule l a k s).after s) := by
  unfold linkNoteRule
  split
  · exact .refl s
  · split
    · exact .refl s
    · dsimp only
      split
      · exact .refl s
      · next hfree =>
        split
        · exact .refl s
        · next kind _ _ =>
          refine allReported_of_free (x := notedEntry (entry s l) a kind) (fun j => ?_) (Bool.not_eq_true _ ▸ hfree)
          rw [after_accept]
          split <;> rfl

theorem listing_enroll (l : Nat) (e : EnrolledLink) (s : State) :
    listing (enroll l e s) = listing (markChanged l (setEntry l (.enrolled e) s)) := by
  rw [enroll, listing_statusesAfter, listing_recomputeCue, listing_becomeDestination]

theorem allReported_linkEnrollRule (l a k i : Nat) (q : LinkParams) (o : Nat) (s : State) :
    AllReported s ((linkEnrollRule l a k i q o s).after s) := by
  unfold linkEnrollRule
  split
  · exact .refl s
  · split
    · split
      · exact .refl s
      · next hfree =>
        split
        · exact .refl s
        · split
          · exact .refl s
          · split
            · exact .refl s
            · next v hbind =>
              obtain ⟨c, -, rfl⟩ := bindRecord_eq_some.1 hbind
              exact allReported_of_free (fun j => entry_of_listing (listing_enroll ..) j) (Bool.not_eq_true _ ▸ hfree)
    · exact .refl s

theorem allReported_linkSetRule (l : Nat) (q : LinkParams) (s : State) :
    AllReported s ((linkSetRule l q s).after s) := by
  unfold linkSetRule
  split
  · exact .refl s
  · split
    · next e he =>
      split
      · exact allReported_of_quiet (fun _ => rfl) he rfl rfl
      · exact .refl s
    · exact .refl s

theorem allReported_tallyOverrideRule (l o : Nat) (s : State) :
    AllReported s ((tallyOverrideRule l o s).after s) := by
  unfold tallyOverrideRule
  split
  · exact .refl s
  · split
    · exact .refl s
    · split
      · next e he => exact allReported_of_quiet (entry_of_listing (listing_recomputeCue ..)) he rfl rfl
      · exact .refl s

theorem allReported_directoryPinRule (b : Nat) (s : State) : AllReported s ((directoryPinRule b s).after s) := by
  unfold directoryPinRule
  split <;> exact allReported_of_entries fun _ _ => rfl

theorem allReported_linkChangesRule (s : State) : AllReported s ((linkChangesRule s).after s) :=
  allReported_of_entries fun _ _ => rfl

/-- After a hardware reset no link is ENROLLED (R59). -/
theorem allReported_hardwareReset (s : State) :
    AllReported s { State.reset with pending := s.pending, arriving := s.arriving } := by
  intro l e e' _ ht
  cases (entry_reset l).symm.trans ht

/-! ## Every command -/

theorem exec_touching_allReported {c : Instr} (htouch : touchesListing c = true) (hrun : ∀ p, c ≠ .runRestart p)
    (h : exec c s = .next t) : AllReported s t := by
  cases c <;> cases htouch <;> cases h
  case hardwareReset => exact allReported_hardwareReset s
  case runRestart p => exact absurd rfl (hrun p)
  case checkCancel p k => exact allReported_takeRequest_of_changes (changesReported_checkCancelRule k) s
  case engineStart => exact (changesReported_startHead s).all
  case candidateEvaluation => exact (changesReported_evaluateRunning s).all
  case linkNote p l a k => exact allReported_takeRequest (allReported_linkNoteRule l a k) s
  case linkEnroll p l a k i q o => exact allReported_takeRequest (allReported_linkEnrollRule l a k i q o) s
  case linkSet p l q => exact allReported_takeRequest (allReported_linkSetRule l q) s
  case linkRetire p l => exact allReported_takeRequest_of_changes (changesReported_linkRetireRule l) s
  case linkErase p l => exact allReported_takeRequest_of_changes (changesReported_linkEraseRule l) s
  case linkChanges p => exact allReported_takeRequest allReported_linkChangesRule s
  case directoryPin p b => exact allReported_takeRequest (allReported_directoryPinRule b) s
  case heard q =>
    split
    · exact allReported_of_listing (listing_discardMalformed s _)
    · exact (ChangesReported.after ((changesReported_handleReport q _).trans (changesReported_moveRover _))
        (completeMessage_dir ..) (completeMessage_ctl ..)).all
  case fadeExpiry l =>
    split
    · next e he =>
      split
      · exact (changesReported_fade (enrolledLink_eq_some.1 he)).all
      · exact .refl s
    · exact .refl s
  case lossExpiry l =>
    split
    · split
      · exact ((changesReported_stopDelay l s).trans (changesReported_setPresence ..)).all
      · exact .refl s
    · exact .refl s
  case retuneDelayExpiry l =>
    split
    · next e he =>
      split
      · exact (changesReported_delayEnds (enrolledLink_eq_some.1 he)).all
      · exact .refl s
    · exact .refl s
  case linkRetune p l n k => exact allReported_takeRequest_of_changes (changesReported_linkRetuneRule l n k) s
  case linkHalt p l => exact allReported_takeRequest_of_changes (changesReported_linkHaltRule l) s
  case retuneLimitExpiry l =>
    split
    · split
      · split
        · exact (changesReported_abortRetune .timeout l s).all
        · exact .refl s
      · exact .refl s
    · exact .refl s
  case tallyOverride p l o => exact allReported_takeRequest (allReported_tallyOverrideRule l o) s

theorem exec_allReported {c : Instr} (hrun : ∀ p, c ≠ .runRestart p) (h : exec c s = .next t) : AllReported s t := by
  cases htouch : touchesListing c with
  | false => exact allReported_of_listing (exec_listing s htouch h)
  | true => exact exec_touching_allReported htouch hrun h

end

end Sys2Proof.Machine
end

section
namespace Sys2Proof.Proofs
open Sys2Proof.Machine

/-- Settles O51: an operation reports every change it makes to a link and keeps what is reported
(`ChangesReported`), so that operations one after the other do; the other commands write no presence and no phase. -/
theorem linkChangesAreReported : Obligations.LinkChangesAreReported := by
  unfold Obligations.LinkChangesAreReported
  intro c l e e' s t h hrun hs ht
  obtain ⟨hchanged, hpresence, hend⟩ := exec_allReported hrun h l e e' hs ht
  exact ⟨hchanged, hpresence, hend⟩

end Sys2Proof.Proofs
end

section
/-! SUPPORT. The part of a state that cue states and key statuses are computed from (R124, R137, R152), and the commands
that leave it alone. -/

namespace Sys2Proof.Machine

/-- What of a link's entry the cue state and the key statuses depend on: of an ENROLLED link its override, and its
return audio output where it is a CAMERA (R124, R137). -/
def entryShown : LinkEntry → Option (TallyOverride × Option Nat)
  | .enrolled e => some (e.tally, roleOutput e.role)
  | _ => none

/-- The tally unit without its lamp lines, the keys, the feed arbiters, and what is shown of each link. -/
structure Display where
  sources : Vector SourceFlags 64
  map : Vector (Option Nat) 64
  cues : Vector Cue 64
  keys : Vector Key 32
  arbiters : Vector Arbiter 64
  links : Nat → Option (TallyOverride × Option Nat)

def display (s : State) : Display :=
  ⟨s.tally.sources, s.tally.map, s.tally.cues, s.talk.keys, s.talk.arbiters, fun l => entryShown (entry s l)⟩

section
variable {s t : State} {l : Nat} {e : EnrolledLink}

/-- The display is read from the tally unit, the feed unit and what is shown of the entries. -/
theorem display_congr (htally : t.tally = s.tally) (htalk : t.talk = s.talk)
    (hlinks : ∀ j, entryShown (entry t j) = entryShown (entry s j)) : display t = display s := by
  simp only [display, htally, htalk, hlinks]

theorem display_of_entries (hd : t.dir.entries = s.dir.entries) (htally : t.tally = s.tally)
    (htalk : t.talk = s.talk) : display t = display s :=
  display_congr htally htalk fun j => by rw [entry, entry, hd]

end

/-! ## Operations of every block -/

variable (s : State)

@[simp] theorem display_raise (c : Cause) : display (raise c s) = display s := rfl
@[simp] theorem display_markChanged (l : Nat) : display (markChanged l s) = display s := rfl
@[simp] theorem display_markStale : display (markStale s) = display s := rfl
@[simp] theorem display_directoryFullFault : display (directoryFullFault s) = display s := rfl
@[simp] theorem display_setRecord (i : Nat) (r : PlanRecord) : display (setRecord i r s) = display s := rfl
@[simp] theorem display_setTunePending (l : Nat) : display (setTunePending l s) = display s := rfl
@[simp] theorem display_removeTunePending (l : Nat) : display (removeTunePending l s) = display s := rfl
@[simp] theorem display_setCuePending (l : Nat) : display (setCuePending l s) = display s := rfl
@[simp] theorem display_removeCuePending (l : Nat) : display (removeCuePending l s) = display s := rfl
@[simp] theorem display_removePasses (l : Nat) : display (removePasses l s) = display s := rfl
@[simp] theorem display_placeOrder (o : Nat) (i : MatrixInput) : display (placeOrder o i s) = display s := rfl
@[simp] theorem display_capture (k : CaptureKind) (r : HeardReport) : display (capture k r s) = display s := rfl
@[simp] theorem display_moveRover : display (moveRover s) = display s := rfl
@[simp] theorem display_discardPartial : display (discardPartial s) = display s := rfl
@[simp] theorem display_framingFault (line : SerialLine) : display (framingFault line s) = display s := rfl
@[simp] theorem display_parityFault (line : SerialLine) : display (parityFault line s) = display s := rfl

@[simp] theorem display_completeFrame (p : Port) : display (completeFrame p s) = display s := by cases p <;> rfl

@[simp] theorem display_respond (p : Port) (r : Response) : display (respond p r s) = display s :=
  display_of_entries (by simp) (by simp) (by simp)

@[simp] theorem display_setPortPartial (line : InPort) (v : Option Partial) :
    display (setPortPartial line v s) = display s := by cases line <;> rfl

@[simp] theorem display_completeMessage (line : InPort) : display (completeMessage line s) = display s :=
  display_setPortPartial s line none

@[simp] theorem display_discardMalformed (line : InPort) : display (discardMalformed line s) = display s :=
  display_completeMessage s line

@[simp] theorem display_orderFeed (l : Nat) : display (orderFeed l s) = display s := by rw [orderFeed_frame]; rfl

/-! ## Plan records, the survey and the ports -/

@[simp] theorem display_closeRecord (i : Nat) : display (closeRecord i s) = display s := by
  unfold closeRecord; split <;> rfl

@[simp] theorem display_releaseRecord (i : Nat) : display (releaseRecord i s) = display s := by
  unfold releaseRecord; split <;> rfl

@[simp] theorem display_promoteRecord (i : Nat) : display (promoteRecord i s) = display s := by
  unfold promoteRecord; split <;> rfl

@[simp] theorem display_releaseOldRecord (i : Nat) (keep : Bool) :
    display (releaseOldRecord i keep s) = display s := by
  unfold releaseOldRecord; split <;> rfl

@[simp] theorem display_takeSample (r : Nat) (x : Int) : display (takeSample r x s) = display s := by
  unfold takeSample
  split
  · rfl
  · split
    · unfold fileSample
      dsimp only
      split_ifs <;> rfl
    · rfl

@[simp] theorem display_startOrder : display (startOrder s) = display s := by
  unfold startOrder
  split
  · split <;> rfl
  · rfl

@[simp] theorem display_takeOrderAck (o : Nat) (i : MatrixInput) : display (takeOrderAck o i s) = display s := by
  unfold takeOrderAck
  split
  · split <;> rfl
  · rfl

@[simp] theorem display_startReturn : display (startReturn s) = display s := by
  unfold startReturn
  split
  · rfl
  · split
    · rfl
    · split
      · rfl
      · split <;> rfl

@[simp] theorem display_takeDone (n : Nat) : display (takeDone n s) = display s := by
  unfold takeDone
  split
  · split <;> rfl
  · rfl

@[simp] theorem display_requeue (m : FlyingMessage) : display (requeue m s) = display s := by
  unfold requeue
  split
  · split <;> rfl
  · split <;> rfl
  · rfl

/-! ## Link entries -/

/-- Writing an entry that shows the same. -/
theorem display_setEntry {l : Nat} {x : LinkEntry} (h : entryShown x = entryShown (entry s l)) :
    display (setEntry l x s) = display s := by
  refine display_congr rfl rfl fun j => ?_
  rw [entry_setEntry]
  split
  · next hj => rw [h, hj.1]
  · rfl

/-- Changing an ENROLLED entry so that it keeps its override and its output. -/
theorem display_updateLink (l : Nat) {f : EnrolledLink → EnrolledLink}
    (h : ∀ e, entryShown (.enrolled (f e)) = entryShown (.enrolled e)) : display (updateLink l f s) = display s := by
  unfold updateLink
  split
  · next e he => exact display_setEntry s (by rw [h, he])
  · rfl

@[simp] theorem display_setPlace (place : SearchPlace) (l : Nat) : display (setPlace place l s) = display s :=
  display_updateLink s l fun _ => rfl

@[simp] theorem display_stopDelay (l : Nat) : display (stopDelay l s) = display s :=
  display_updateLink s l fun _ => rfl

@[simp] theorem display_noteReport (l r m : Nat) : display (noteReport l r m s) = display s :=
  display_updateLink s l fun _ => rfl

@[simp] theorem display_setMismatch (l n : Nat) : display (setMismatch l n s) = display s :=
  display_updateLink s l fun e => by
    dsimp only [entryShown]
    cases e.role <;> rfl

@[simp] theorem display_setPresence (l : Nat) (p : Presence) : display (setPresence l p s) = display s := by
  have hu : display (updateLink l (fun e => { e with presence := p }) s) = display s :=
    display_updateLink s l fun _ => rfl
  unfold setPresence
  split
  · rfl
  · dsimp only
    split_ifs <;> simp [hu]

@[simp] theorem display_applyPresence (l : Nat) (e : EnrolledLink) (r : HeardReport) :
    display (applyPresence l e r s) = display s := by
  have hgood (u : State) : display (updateLink l (fun e => { e with lastGood := some s.clock }) u) = display u :=
    display_updateLink u l fun _ => rfl
  unfold applyPresence goodReport weakReport
  dsimp only
  split
  · simp [hgood]
  · split <;> simp

@[simp] theorem display_compareEcho (l : Nat) (echo : Option Cue) : display (compareEcho l echo s) = display s := by
  unfold compareEcho
  split
  · split
    · rfl
    · dsimp only
      split_ifs <;> simp
  · rfl

/-! ## Searches and the engine -/

@[simp] theorem display_queueSearch (l : Nat) : display (queueSearch l s) = display s := by
  unfold queueSearch
  split
  · rw [display_setPlace]; rfl
  · rfl

@[simp] theorem display_joinWaitList (l : Nat) : display (joinWaitList l s) = display s :=
  display_setPlace _ .waiting l

@[simp] theorem display_placeSearch (l : Nat) : display (placeSearch l s) = display s := by
  unfold placeSearch; split <;> simp

@[simp] theorem display_serveWaitList : display (serveWaitList s) = display s := by
  unfold serveWaitList
  split
  · rfl
  · split
    · rw [display_queueSearch]; rfl
    · rfl

@[simp] theorem display_startSeeking (o : Origin) (k : Bool) (l : Nat) :
    display (startSeeking o k l s) = display s := by
  unfold startSeeking
  rw [display_placeSearch]
  exact display_updateLink s l fun _ => rfl

@[simp] theorem display_enterOrdered (r : RetuneRecord) (n l : Nat) :
    display (enterOrdered r n l s) = display s := by
  rw [enterOrdered_eq]
  refine Eq.trans ?_ (display_updateLink s l (f := fun e => { e with phase := .ordered r n }) fun _ => rfl)
  rw [updateLink_frame]
  rfl

@[simp] theorem display_endRetune (r : RetuneResult) (l : Nat) : display (endRetune r l s) = display s :=
  display_updateLink s l fun _ => rfl

@[simp] theorem display_applySearchResult (l : Nat) (r : FindResult) :
    display (applySearchResult l r s) = display s := by
  unfold applySearchResult
  split
  · split
    · split
      · simp
      · split
        · simp
        · dsimp only
          split
          · simp
          · simp
          · next n t ho =>
            obtain ⟨-, -, -, rfl⟩ := openFromSearch_inv ho
            simp
    · rfl
  · rfl

@[simp] theorem display_deliverResult (r : EngineRequest) (result : EngineResult) :
    display (deliverResult r result s) = display s := by
  unfold deliverResult
  split
  · rfl
  · rw [display_serveWaitList]
    cases result with
    | find f => exact display_applySearchResult _ _ f
    | check c => rfl

@[simp] theorem display_beginRequest (r : EngineRequest) (rest : List EngineRequest) :
    display (beginRequest r rest s) = display s := by
  unfold beginRequest; split <;> rfl

theorem display_startHeads (n : Nat) : display (startHeads n s) = display s := by
  induction n generalizing s with
  | zero => rfl
  | succ n ih =>
    unfold startHeads
    split
    · dsimp only
      split
      · rw [ih, display_deliverResult, display_beginRequest]
      · rw [display_beginRequest]
    · rfl

@[simp] theorem display_startHead : display (startHead s) = display s := display_startHeads s _

@[simp] theorem display_completeRequest (r : EngineRequest) (result : EngineResult) :
    display (completeRequest r result s) = display s := by
  rw [completeRequest, display_startHead, display_deliverResult]

@[simp] theorem display_evaluateRunning : display (evaluateRunning s) = display s := by
  unfold evaluateRunning
  split
  · rfl
  · split
    · exact display_completeRequest ..
    · dsimp only
      split
      · exact display_completeRequest ..
      · split
        · exact display_completeRequest ..
        · rfl

@[simp] theorem display_cancelSearch (l : Nat) : display (cancelSearch l s) = display s := by
  have h : display (cancelInternal l s) = display s := rfl
  unfold cancelSearch
  dsimp only
  split <;> simp [h]

@[simp] theorem display_abortRetune (r : RetuneResult) (l : Nat) : display (abortRetune r l s) = display s := by
  unfold abortRetune
  split
  · split <;> simp
  · rfl

@[simp] theorem display_completeRetune (r : RetuneRecord) (n l : Nat) :
    display (completeRetune r n l s) = display s := by
  have hu (u : State) : display (updateLink l (fun e => { e with carrier := n }) u) = display u :=
    display_updateLink u l fun _ => rfl
  unfold completeRetune
  split
  · simp [hu]
  · rfl

/-! ## Reports and expiries -/

@[simp] theorem display_reportEnrolled (l : Nat) (e : EnrolledLink) (r : HeardReport) :
    display (reportEnrolled l e r s) = display s := by
  unfold reportEnrolled
  split
  · rfl
  · simp
  · dsimp only
    split <;> simp

theorem entryShown_of_not_enrolled {x : LinkEntry} (h : x.isEnrolled = false) : entryShown x = none := by
  cases x with
  | enrolled e => cases h
  | _ => rfl

@[simp] theorem display_admitStranger (r : HeardReport) : display (admitStranger r s) = display s := by
  unfold admitStranger
  split
  · next i hi =>
    have hfree : (entry s i).isEnrolled = false := by simpa using List.find?_some hi
    rw [display_markChanged]
    exact display_setEntry s (entryShown_of_not_enrolled hfree).symm
  · rfl

@[simp] theorem display_handleReport (r : HeardReport) : display (handleReport r s) = display s := by
  unfold handleReport
  split
  · split
    · simp
    · next n hn => exact display_setEntry s (by rw [hn]; rfl)
    · rfl
  · dsimp only
    split <;> simp

@[simp] theorem display_startDelay (l : Nat) (e : EnrolledLink) : display (startDelay l e s) = display s := by
  unfold startDelay
  split
  · split
    · simp
    · exact display_updateLink s l fun _ => rfl
  · rfl

@[simp] theorem display_fade (l : Nat) (e : EnrolledLink) : display (fade l e s) = display s := by
  unfold fade
  split <;> simp

/-! ## Requests -/

/-- A request keeps the display that its rule keeps. -/
theorem display_takeRequest {p : Port} {c : RequestCode} {rule : State → Verdict}
    (h : ∀ u, display ((rule u).after u) = display u) : display (takeRequest p c rule s) = display s := by
  obtain ⟨r, ht | ht⟩ := takeRequest_after s p c rule
  · rw [ht, display_respond, h, display_completeFrame]
  · rw [ht, display_respond, display_completeFrame]

/-- A request whose rule leaves the state as it was. -/
theorem display_takeRequest_read {p : Port} {c : RequestCode} {rule : State → Verdict}
    (h : ∀ u, (rule u).after u = u) : display (takeRequest p c rule s) = display s :=
  display_takeRequest s fun u => by rw [h u]

theorem display_groupSetRule (g lo up gs gp two three st lim : Nat) :
    display ((groupSetRule g lo up gs gp two three st lim s).after s) = display s := by
  unfold groupSetRule
  dsimp only
  repeat' split
  all_goals rfl

theorem display_planPutRule (i st c h g : Nat) : display ((planPutRule i st c h g s).after s) = display s := by
  unfold planPutRule
  dsimp only
  repeat' split
  all_goals rfl

theorem display_planDropRule (i : Nat) : display ((planDropRule i s).after s) = display s := by
  unfold planDropRule
  repeat' split
  all_goals rfl

theorem display_checkStartRule (t : CheckTarget) : display ((checkStartRule t s).after s) = display s := by
  unfold checkStartRule
  dsimp only
  repeat' split
  all_goals rfl

theorem display_findStartRule (g lo up st h lim : Nat) :
    display ((findStartRule g lo up st h lim s).after s) = display s := by
  unfold findStartRule
  repeat' split
  all_goals rfl

theorem display_checkReadRule (k : Nat) : display ((checkReadRule k s).after s) = display s := by
  unfold checkReadRule
  split
  · rfl
  · dsimp only [after_accept]
    split <;> rfl

theorem display_checkCancelRule (k : Nat) : display ((checkCancelRule k s).after s) = display s := by
  unfold checkCancelRule
  split
  · rfl
  · split
    · rfl
    · rfl
    · rw [after_accept, display_startHead]; rfl
    · rfl

theorem display_surveySetupRule (a w : Nat) (x : Int) :
    display ((surveySetupRule a w x s).after s) = display s := by
  unfold surveySetupRule
  split <;> rfl

theorem display_surveyStartRule (j r b n m : Nat) (x : Int) :
    display ((surveyStartRule j r b n m x s).after s) = display s := by
  unfold surveyStartRule
  repeat' split
  all_goals rfl

theorem display_surveyStopRule (j : Nat) : display ((surveyStopRule j s).after s) = display s := by
  unfold surveyStopRule
  repeat' split
  all_goals rfl

theorem display_binsClearRule (a b : Nat) : display ((binsClearRule a b s).after s) = display s := by
  unfold binsClearRule
  split
  · rfl
  · rw [after_accept]
    exact display_of_entries rfl rfl rfl

theorem display_linkNoteRule (l x k : Nat) : display ((linkNoteRule l x k s).after s) = display s := by
  unfold linkNoteRule
  split
  · rfl
  · split
    · rfl
    · next k' _ =>
      dsimp only
      split
      · rfl
      · next hfree =>
        have hnoted : entryShown (notedEntry (entry s l) x k') = none := by
          unfold notedEntry
          split
          · split <;> rfl
          · rfl
        have hset : display (setEntry l (notedEntry (entry s l) x k') s) = display s :=
          display_setEntry s (hnoted.trans (entryShown_of_not_enrolled (by simpa using hfree)).symm)
        split
        · rfl
        · rw [after_accept]
          split <;> simp [hset]

theorem display_linkSetRule (l : Nat) (q : LinkParams) : display ((linkSetRule l q s).after s) = display s := by
  unfold linkSetRule
  split
  · rfl
  · split
    · next e he =>
      split
      · exact display_setEntry s (by rw [he]; rfl)
      · rfl
    · rfl

theorem display_linkRetuneRule (l n k : Nat) : display ((linkRetuneRule l n k s).after s) = display s := by
  have hstop : display (updateLink l (fun e => { e with delayTimer := none }) s) = display s := display_stopDelay s l
  unfold linkRetuneRule
  dsimp only
  split
  · rfl
  · split
    · rfl
    · split
      · split
        · split
          · simp [hstop]
          · split
            · rfl
            · next v hopen =>
              obtain ⟨c, -, rfl⟩ := openOnTarget_eq_some.1 hopen
              simp [hstop]
        · rfl
      · rfl

theorem display_linkHaltRule (l : Nat) : display ((linkHaltRule l s).after s) = display s := by
  unfold linkHaltRule
  split
  · rfl
  · split
    · split <;> simp
    · rfl

theorem display_directoryPinRule (b : Nat) : display ((directoryPinRule b s).after s) = display s := by
  unfold directoryPinRule
  split <;> rfl

theorem display_directoryAdmitRule (x : Nat) : display ((directoryAdmitRule x s).after s) = display s := by
  unfold directoryAdmitRule
  split <;> rfl

theorem display_lampSetRule (n l c d v : Nat) : display ((lampSetRule n l c d v s).after s) = display s := by
  unfold lampSetRule
  dsimp only
  repeat' split
  all_goals rfl

theorem display_returnPassRule (l : Nat) (b : List Byte) : display ((returnPassRule l b s).after s) = display s := by
  unfold returnPassRule; split_ifs <;> rfl

theorem display_authorityYieldRule (p : Port) : display ((authorityYieldRule p s).after s) = display s := by
  cases p <;> rfl

theorem display_causeClearRule (c : BitVec 16) : display ((causeClearRule c s).after s) = display s := by
  unfold causeClearRule; split <;> rfl

theorem display_causeMaskRule (m : BitVec 16) : display ((causeMaskRule m s).after s) = display s := by
  unfold causeMaskRule; split <;> rfl

/-! ## Every command that leaves the display -/

/-- The commands that may change a cue state's or a key status's inputs, or a cue state or key itself. -/
def touchesDisplay : Instr → Bool
  | .hardwareReset | .runRestart _ | .linkEnroll _ _ _ _ _ _ _ | .linkRetire _ _ | .linkErase _ _
  | .mixerTallyMessage _ _ | .tallyMap _ _ _ | .tallyOverride _ _ _
  | .keySet _ _ _ _ _ _ _ | .keyDown _ | .keyPress _ _ | .keyUp _ | .keyLift _ _ | .feedDefault _ _ _
  | .keyStatusSendStart => true
  | _ => false

theorem exec_display {c : Instr} {t : State} (hc : touchesDisplay c = false) (h : exec c s = .next t) :
    display t = display s := by
  cases c <;> cases hc <;> cases h
  case groupSet p g lo up gs gp two three st lim =>
    exact display_takeRequest s (display_groupSetRule · g lo up gs gp two three st lim)
  case groupGet p g => exact display_takeRequest_read s (after_groupGetRule · g)
  case planPut p i st c h g => exact display_takeRequest s (display_planPutRule · i st c h g)
  case planDrop p i => exact display_takeRequest s (display_planDropRule · i)
  case planGet p i => exact display_takeRequest_read s (after_planGetRule · i)
  case planList p g => exact display_takeRequest_read s (after_planListRule · g)
  case checkStart p k => exact display_takeRequest s (display_checkStartRule · k)
  case findStart p g lo up st h lim => exact display_takeRequest s (display_findStartRule · g lo up st h lim)
  case checkRead p k => exact display_takeRequest s (display_checkReadRule · k)
  case checkCancel p k => exact display_takeRequest s (display_checkCancelRule · k)
  case engineStart => exact display_startHead s
  case candidateEvaluation => exact display_evaluateRunning s
  case surveySetup p a w x => exact display_takeRequest s (display_surveySetupRule · a w x)
  case surveyStart p j r b n m x => exact display_takeRequest s (display_surveyStartRule · j r b n m x)
  case surveyStop p j => exact display_takeRequest s (display_surveyStopRule · j)
  case surveyRead p j => exact display_takeRequest_read s (after_surveyReadRule · j)
  case binsRead p a b => exact display_takeRequest_read s (after_binsReadRule · a b)
  case binsClear p a b => exact display_takeRequest s (display_binsClearRule · a b)
  case sample r x => split <;> simp
  case linkNote p l x k => exact display_takeRequest s (display_linkNoteRule · l x k)
  case linkSet p l q => exact display_takeRequest s (display_linkSetRule · l q)
  case linkGet p l => exact display_takeRequest_read s (after_linkGetRule · l)
  case linkProbe p x => exact display_takeRequest_read s (after_linkProbeRule · x)
  case linkChanges p => exact display_takeRequest s fun _ => rfl
  case directoryPin p b => exact display_takeRequest s (display_directoryPinRule · b)
  case directoryAdmit p x => exact display_takeRequest s (display_directoryAdmitRule · x)
  case directoryGet p => exact display_takeRequest s fun _ => rfl
  case captureRead p => exact display_takeRequest s fun _ => rfl
  case heard r => split <;> simp
  case clockRead p => exact display_takeRequest s fun _ => rfl
  case linkTimers p l => exact display_takeRequest_read s (after_linkTimersRule · l)
  case fadeExpiry l =>
    split
    · split <;> simp
    · rfl
  case lossExpiry l =>
    split
    · split <;> simp
    · rfl
  case retuneDelayExpiry l =>
    split
    · split
      · dsimp only
        split <;> simp
      · rfl
    · rfl
  case linkRetune p l n k => exact display_takeRequest s (display_linkRetuneRule · l n k)
  case linkHalt p l => exact display_takeRequest s (display_linkHaltRule · l)
  case retuneLimitExpiry l =>
    split
    · split
      · split <;> simp
      · rfl
    · rfl
  case retuneLimit p x => exact display_takeRequest s fun _ => rfl
  case retuneGet p l => exact display_takeRequest_read s (after_retuneGetRule · l)
  case retuneQueue p => exact display_takeRequest s fun _ => rfl
  case tallySources p a b => exact display_takeRequest_read s (after_tallySourcesRule · a b)
  case tallyGet p l => exact display_takeRequest_read s (after_tallyGetRule · l)
  case lampSet p n l c d v => exact display_takeRequest s (display_lampSetRule · n l c d v)
  case lampGet p n => exact display_takeRequest_read s (after_lampGetRule · n)
  case keyGet p k => exact display_takeRequest_read s (after_keyGetRule · k)
  case feedGet p l => exact display_takeRequest_read s (after_feedGetRule · l)
  case matrixGet p o => exact display_takeRequest_read s (after_matrixGetRule · o)
  case keyStatusSendEnd => rfl
  case orderSendStart => exact display_startOrder s
  case orderAck o i => split <;> simp
  case orderTimeout =>
    split
    · split <;> rfl
    · rfl
  case returnPass p l b => exact display_takeRequest s (display_returnPassRule · l b)
  case returnGet p => exact display_takeRequest s fun _ => rfl
  case returnSendStart => exact display_startReturn s
  case doneMessage n => simp
  case returnTimeout =>
    split
    · split
      · exact display_requeue _ _
      · rfl
    · rfl
  case authorityYield p => exact display_takeRequest s (display_authorityYieldRule · p)
  case causeRead p => exact display_takeRequest s fun _ => rfl
  case causeClear p c => exact display_takeRequest s (display_causeClearRule · c)
  case causeMask p m => exact display_takeRequest s (display_causeMaskRule · m)
  case portFaults p => exact display_takeRequest s fun _ => rfl
  case badFrame p b => split <;> simp [answerBadFrame]
  case readTransaction n => rfl
  case lineBreak => unfold takeAuthority; split <;> rfl
  case serviceCharacterError e => cases e <;> rfl
  case serviceGapExpiry =>
    split
    · split <;> rfl
    · rfl
  case serviceResponseEnd => split <;> rfl
  case portByteError line e =>
    cases e with
    | parity => simp
    | noStop => simp
    | unknownType => dsimp only; split <;> simp
  case inputGapExpiry line =>
    split
    · split <;> simp
    · rfl
  case malformedMessage line b => split <;> simp

/-! ## Steps without a command -/

theorem display_gather (a : Arrival) : display (gather a s) = display s := by
  unfold gather
  split
  · unfold gatherService
    dsimp only
    split <;> rfl
  · unfold gatherPort
    dsimp only
    split
    · rfl
    · split
      · exact display_setPortPartial ..
      · exact display_completeMessage ..
  · unfold takeTransaction
    split <;> rfl

theorem display_idle : display (idle s) = display s := by
  unfold idle
  split
  · next a rest _ => exact display_gather { s with arriving := rest } a
  · rfl

end Sys2Proof.Machine
end

section
/-! SUPPORT. Cue states: what each is computed from (R124), and what a recomputation writes (R125, R127). -/

namespace Sys2Proof.Machine

theorem put_look {α : Type} [Inhabited α] {n : Nat} (t : Vector α n) (i : Nat) : put t i (look t i) = t := by
  unfold put look
  ext j hj
  rw [Vector.getElem_setIfInBounds]
  split
  · next h =>
    subst h
    rw [Vector.getElem?_eq_getElem hj]
    rfl
  · rfl

section
variable {s t u : State} {l a : Nat} {e : EnrolledLink} {ls : List Nat} {flag : SourceFlags → Bool}

/-! ## The inputs of a cue state (R124) -/

/-- Some source mapped to the link has the flag. -/
theorem anyMapped_iff :
    anyMapped s l flag = true ↔ ∃ a < 64, mapEntry s a = some l ∧ flag (sourceFlags s a) = true := by
  simp [anyMapped, mappedSources]

/-- The sources mapped to a link, and their flags, are all that the map and the source table give it. -/
theorem anyMapped_congr (hmap : ∀ a, mapEntry t a = some l ↔ mapEntry s a = some l)
    (hflags : ∀ a, mapEntry s a = some l → sourceFlags t a = sourceFlags s a) : anyMapped t l = anyMapped s l := by
  funext flag
  rw [Bool.eq_iff_iff, anyMapped_iff, anyMapped_iff]
  constructor
  · rintro ⟨a, ha, hm, hf⟩
    exact ⟨a, ha, (hmap a).1 hm, hflags a ((hmap a).1 hm) ▸ hf⟩
  · rintro ⟨a, ha, hm, hf⟩
    exact ⟨a, ha, (hmap a).2 hm, (hflags a hm).symm ▸ hf⟩

theorem computedCue_not_enrolled (h : (entry s l).isEnrolled = false) : computedCue s l = .allOff := by
  unfold computedCue
  split
  · next he => rw [he] at h; cases h
  · rfl

theorem entryShown_eq_some {x : LinkEntry} {o : TallyOverride} {out : Option Nat} (h : entryShown x = some (o, out)) :
    ∃ e, x = .enrolled e ∧ e.tally = o ∧ roleOutput e.role = out := by
  cases x with
  | enrolled e => cases h; exact ⟨e, rfl, rfl, rfl⟩
  | _ => cases h

theorem isEnrolled_eq_shown (x : LinkEntry) : x.isEnrolled = (entryShown x).isSome := by
  cases x <;> rfl

/-- A link's cue state is computed from what is shown of its entry, the holder of its arbiter and its mapped sources. -/
theorem computedCue_of_inputs (hlink : entryShown (entry t l) = entryShown (entry s l))
    (hholder : (arbiterAt t l).holder = (arbiterAt s l).holder) (hmapped : anyMapped t l = anyMapped s l) :
    computedCue t l = computedCue s l := by
  have htalk : feedIsKey t l = feedIsKey s l := congrArg Option.isSome hholder
  cases he : (entry s l).isEnrolled with
  | false =>
    rw [computedCue_not_enrolled he, computedCue_not_enrolled]
    rw [← he, isEnrolled_eq_shown, isEnrolled_eq_shown, hlink]
  | true =>
    cases hs : entry s l with
    | enrolled e =>
      obtain ⟨e', ht, htally, -⟩ := entryShown_eq_some (hlink.trans (by rw [hs]; rfl))
      simp only [computedCue, ht, hs, htalk, hmapped, htally]
    | _ => rw [hs] at he; cases he

/-! ## Links outside the table -/

theorem heldCue_out (hl : 64 ≤ l) : heldCue s l = .allOff := look_out _ _ hl

theorem computedCue_out (hl : 64 ≤ l) : computedCue s l = .allOff :=
  computedCue_not_enrolled (by rw [entry, look_out _ _ hl]; rfl)

/-! ## Recomputation (R125, R127) -/

theorem recomputeCue_eq (l : Nat) (s : State) : recomputeCue l s = { s with
    tally.cues := put s.tally.cues l (computedCue s l)
    ret.cuePending := if computedCue s l ≠ heldCue s l ∧ cueDelivered s l = true then setAdd l s.ret.cuePending
      else s.ret.cuePending } := by
  unfold recomputeCue
  dsimp only
  split
  · next h => rw [h, heldCue, put_look, if_neg fun hne => hne.1 rfl]
  · next h =>
    have hsame (v : Vector Cue 64) : cueDelivered { s with tally := { s.tally with cues := v } } l = cueDelivered s l :=
      rfl
    rw [hsame, setCuePending_ite]
    simp only [ne_eq, h, not_false_eq_true, true_and]

theorem heldCue_recomputeCue (j : Nat) :
    heldCue (recomputeCue l s) j = if j = l then computedCue s j else heldCue s j := by
  rw [recomputeCue_eq, heldCue]
  dsimp only
  rw [look_put]
  by_cases hl : l < 64
  · by_cases hj : j = l
    · subst hj; simp [hl]
    · rw [if_neg fun h => hj h.1.symm, if_neg hj]; rfl
  · rw [if_neg fun h => hl h.2]
    split
    · next hj =>
      subst hj
      exact (heldCue_out (not_lt.1 hl)).trans (computedCue_out (not_lt.1 hl)).symm
    · rfl

/-- From `s` to `t` the cue states of some links are recomputed: each takes the computed value, a change sets CUE
pending as R127 states, and nothing else is written (R125). -/
structure CuesFollow (ls : List Nat) (s t : State) : Prop where
  frame : t = { s with
    tally := { s.tally with cues := t.tally.cues }, ret := { s.ret with cuePending := t.ret.cuePending } }
  held : ∀ j, heldCue t j = if j ∈ ls then computedCue s j else heldCue s j
  pending : ∀ j, j ∈ t.ret.cuePending ↔
    j ∈ s.ret.cuePending ∨ (j ∈ ls ∧ computedCue s j ≠ heldCue s j) ∧ cueDelivered s j = true

theorem CuesFollow.entries (h : CuesFollow ls s t) : entry t = entry s := by rw [h.frame]; rfl

theorem CuesFollow.talk (h : CuesFollow ls s t) : t.talk = s.talk := by rw [h.frame]

/-- No cue state is an input of another. -/
theorem CuesFollow.computed (h : CuesFollow ls s t) (j : Nat) : computedCue t j = computedCue s j := by
  rw [h.frame]; rfl

theorem CuesFollow.delivered (h : CuesFollow ls s t) (j : Nat) : cueDelivered t j = cueDelivered s j := by
  rw [h.frame]; rfl

theorem cuesFollow_nil (s : State) : CuesFollow [] s s :=
  ⟨rfl, fun j => (if_neg (List.not_mem_nil)).symm, fun j => by simp⟩

theorem cuesFollow_recomputeCue (l : Nat) (s : State) : CuesFollow [l] s (recomputeCue l s) where
  frame := by rw [recomputeCue_eq]
  held j := by simp only [heldCue_recomputeCue, List.mem_singleton]
  pending j := by
    rw [recomputeCue_eq, List.mem_singleton]
    dsimp only
    split
    · next h =>
      obtain ⟨hne, hd⟩ := h
      rw [mem_setAdd, or_comm]
      refine or_congr_right ⟨fun hj => ?_, fun h => h.1.1⟩
      subst hj
      exact ⟨⟨rfl, hne⟩, hd⟩
    · next h =>
      refine (or_iff_left ?_).symm
      rintro ⟨⟨rfl, hne⟩, hd⟩
      exact h ⟨hne, hd⟩

theorem CuesFollow.trans {ms : List Nat} (h : CuesFollow ls s t) (h' : CuesFollow ms t u) :
    CuesFollow (ls ++ ms) s u where
  frame := by rw [h'.frame, h.frame]
  held j := by
    rw [h'.held, h.computed, h.held]
    simp only [List.mem_append]
    by_cases hl : j ∈ ls <;> by_cases hm : j ∈ ms <;> simp [hl, hm]
  pending j := by
    rw [h'.pending, h.pending, h.computed, h.delivered, h.held, List.mem_append]
    by_cases hl : j ∈ ls
    · simp only [hl, if_true, ne_eq, not_true_eq_false, and_false, false_and, or_false, true_or]
    · simp only [hl, if_false, false_and, or_false, false_or]

theorem cuesFollow_recomputeCues (ls : List Nat) (s : State) : CuesFollow ls s (recomputeCues ls s) := by
  induction ls generalizing s with
  | nil => exact cuesFollow_nil s
  | cons l ls ih => exact (cuesFollow_recomputeCue l s).trans (ih _)

/-- A CUE is set pending exactly for the delivered changes (R127). -/
theorem CuesFollow.pending_iff (h : CuesFollow ls s t) (j : Nat) : j ∈ t.ret.cuePending ↔
    j ∈ s.ret.cuePending ∨ heldCue t j ≠ heldCue s j ∧ cueDelivered s j = true := by
  rw [h.pending, h.held]
  by_cases hj : j ∈ ls <;> simp [hj]

/-- Cue states are the computed ones again once those are recomputed whose inputs an event may have changed. -/
theorem CuesFollow.cuesComputed (h : CuesFollow ls u t) (hs : CuesComputed s)
    (hcues : u.tally.cues = s.tally.cues) (hsame : ∀ j, j ∉ ls → computedCue u j = computedCue s j) :
    CuesComputed t := by
  intro j hj
  rw [h.held, h.computed]
  split
  · rfl
  · next hout =>
    rw [hsame j hout, heldCue, hcues]
    exact hs j hj

/-! ## Writes of the tally unit's inputs (R120, R121, R123) -/

theorem takeTally_eq (a : Nat) (f : SourceFlags) (s : State) : takeTally a f s =
    recomputeCues (if f = sourceFlags s a then [] else (mapEntry s a).toList)
      { s with tally := { s.tally with sources := put s.tally.sources a f } } := by
  unfold takeTally
  split
  · next h =>
    rw [h, sourceFlags, put_look]
    rfl
  · dsimp only
    cases hm : mapEntry s a with
    | none => simp only [mapEntry] at hm ⊢; rw [hm]; rfl
    | some l => simp only [mapEntry] at hm ⊢; rw [hm]; rfl

/-- A source's flags are an input of the cue state of the link it is mapped to alone. -/
theorem computedCue_putSource {f : SourceFlags} (h : f = sourceFlags s a ∨ mapEntry s a ≠ some l) :
    computedCue { s with tally := { s.tally with sources := put s.tally.sources a f } } l = computedCue s l := by
  rcases h with rfl | h
  · rw [sourceFlags, put_look]
  · refine computedCue_of_inputs rfl rfl (anyMapped_congr (fun _ => Iff.rfl) fun b hb => look_put_ne _ _ _ _ ?_)
    rintro rfl
    exact h hb

/-- A map entry is an input of the cue states of the links it names before and after. -/
theorem computedCue_putMap {m : Option Nat} (h : mapEntry s a ≠ some l) (h' : m ≠ some l) :
    computedCue { s with tally := { s.tally with map := put s.tally.map a m } } l = computedCue s l := by
  refine computedCue_of_inputs rfl rfl (anyMapped_congr (fun b => ?_) fun _ _ => rfl)
  simp only [mapEntry, look_put]
  split
  · next hb =>
    obtain ⟨rfl, -⟩ := hb
    exact ⟨fun hm => absurd hm h', fun hm => absurd hm h⟩
  · rfl

end

end Sys2Proof.Machine
end

section
/-! SUPPORT. A key's request and its withdrawal at an arbiter as one write of the feed unit (R144, R145, R147), and the
inputs of a key's status (R152). -/

namespace Sys2Proof.Machine

section
variable {s t u : State} {k l : Nat} {ls : List Nat}

/-! ## Writes of the feed unit -/

/-- The pending orders once a link's arbiter is `x.1`: where `x.2` says so and the link is an eligible destination, what
that arbiter feeds is ordered for the link's output (R147). -/
def feedOrders (l : Nat) (x : Arbiter × Bool) (s : State) : Vector (Option MatrixInput) 128 :=
  match cameraOutput s l with
  | some o => if x.2 then put s.talk.orders o (some (feedInput s x.1)) else s.talk.orders
  | none => s.talk.orders

/-- A link's arbiter is replaced, with or without an order. -/
def writeFeed (l : Nat) (x : Arbiter × Bool) (s : State) : State :=
  { s with talk := { s.talk with arbiters := put s.talk.arbiters l x.1, orders := feedOrders l x s } }

theorem setArbiter_eq (l : Nat) (a : Arbiter) (s : State) : setArbiter l a s = writeFeed l (a, false) s := by
  have horders : feedOrders l (a, false) s = s.talk.orders := by
    unfold feedOrders
    split <;> rfl
  rw [writeFeed, horders]
  rfl

theorem writeFeed_self (l : Nat) (s : State) : writeFeed l (arbiterAt s l, false) s = s := by
  rw [← setArbiter_eq, setArbiter, arbiterAt, put_look]

theorem orderFeed_setArbiter (l : Nat) (a : Arbiter) (s : State) :
    orderFeed l (setArbiter l a s) = writeFeed l (a, true) s := by
  have hout : cameraOutput (setArbiter l a s) l = cameraOutput s l := rfl
  cases ho : cameraOutput s l with
  | none => simp only [orderFeed, writeFeed, feedOrders, hout, ho]; rfl
  | some o =>
    have ha : arbiterAt (setArbiter l a s) l = a := by rw [arbiterAt_setArbiter, if_pos ⟨rfl, cameraOutput_lt ho⟩]
    simp only [orderFeed, writeFeed, feedOrders, hout, ho, ha]
    rfl

/-- The arbiter that a request of key `k` leaves, and whether an order is placed (R144, R147). -/
def requestOutcome (keys : Nat → Key) (k : Nat) (a : Arbiter) : Arbiter × Bool :=
  if hasRole k a then (a, false)
  else match a.holder with
    | none => ({ a with holder := some k }, true)
    | some h =>
      if (keys k).level < (keys h).level && !(keys h).locked then
        ({ a with holder := some k, saved := ⟨h, (keys h).level⟩ :: a.saved }, true)
      else ({ a with waiting := addWaiter ⟨k, (keys k).level⟩ a.waiting }, false)

theorem requestFeed_eq (k l : Nat) (s : State) :
    requestFeed k l s = writeFeed l (requestOutcome (keyAt s) k (arbiterAt s l)) s := by
  unfold requestFeed requestOutcome
  dsimp only
  split
  · exact (writeFeed_self l s).symm
  · cases (arbiterAt s l).holder with
    | none => exact orderFeed_setArbiter ..
    | some h =>
      dsimp only
      split
      · exact orderFeed_setArbiter ..
      · exact setArbiter_eq ..

/-- The arbiter that a withdrawal of key `k` leaves, and whether an order is placed (R145, R147). -/
def withdrawOutcome (k : Nat) (a : Arbiter) : Arbiter × Bool :=
  if a.holder = some k then (selectHolder a, true)
  else if waits k a.saved then ({ a with saved := dropWaiter k a.saved }, false)
  else if waits k a.waiting then ({ a with waiting := dropWaiter k a.waiting }, false)
  else (a, false)

theorem withdrawFeed_eq (k l : Nat) (s : State) :
    withdrawFeed k l s = writeFeed l (withdrawOutcome k (arbiterAt s l)) s := by
  unfold withdrawFeed withdrawOutcome
  dsimp only
  split
  · exact orderFeed_setArbiter ..
  · split
    · exact setArbiter_eq ..
    · split
      · exact setArbiter_eq ..
      · exact (writeFeed_self l s).symm

theorem arbiterAt_writeFeed (x : Arbiter × Bool) (j : Nat) :
    arbiterAt (writeFeed l x s) j = if l = j ∧ l < 64 then x.1 else arbiterAt s j := look_put ..

/-! ## What events of the feed unit leave alone -/

/-- From `s` to `t` the arbiters of some links, and orders, are all that is written. -/
structure FeedsChanged (ls : List Nat) (s t : State) : Prop where
  frame : t = { s with talk := { s.talk with arbiters := t.talk.arbiters, orders := t.talk.orders } }
  others : ∀ j, j ∉ ls → arbiterAt t j = arbiterAt s j

theorem FeedsChanged.refl (ls : List Nat) (s : State) : FeedsChanged ls s s := ⟨rfl, fun _ _ => rfl⟩

theorem FeedsChanged.trans (h : FeedsChanged ls s t) (h' : FeedsChanged ls t u) : FeedsChanged ls s u :=
  ⟨by rw [h'.frame, h.frame], fun j hj => (h'.others j hj).trans (h.others j hj)⟩

theorem FeedsChanged.entries (h : FeedsChanged ls s t) : entry t = entry s := by rw [h.frame]; rfl

theorem FeedsChanged.tally (h : FeedsChanged ls s t) : t.tally = s.tally := by rw [h.frame]

theorem FeedsChanged.keys (h : FeedsChanged ls s t) : keyAt t = keyAt s := by rw [h.frame]; rfl

/-- The cue states of the other links keep their inputs (R125). -/
theorem FeedsChanged.computedCue (h : FeedsChanged ls s t) {j : Nat} (hj : j ∉ ls) :
    computedCue t j = Machine.computedCue s j := by
  refine computedCue_of_inputs (by rw [h.entries]) (by rw [h.others j hj]) ?_
  rw [h.frame]
  rfl

theorem feedsChanged_writeFeed (x : Arbiter × Bool) (hl : l ∈ ls) : FeedsChanged ls s (writeFeed l x s) where
  frame := rfl
  others j hj := by
    rw [arbiterAt_writeFeed, if_neg]
    rintro ⟨rfl, -⟩
    exact hj hl

theorem feedsChanged_requestFeed (k : Nat) (hl : l ∈ ls) (s : State) : FeedsChanged ls s (requestFeed k l s) := by
  rw [requestFeed_eq]
  exact feedsChanged_writeFeed _ hl

theorem feedsChanged_withdrawFeed (k : Nat) (hl : l ∈ ls) (s : State) : FeedsChanged ls s (withdrawFeed k l s) := by
  rw [withdrawFeed_eq]
  exact feedsChanged_writeFeed _ hl

theorem feedsChanged_foldl {α : Type} {f : State → α → State} {as : List α}
    (hf : ∀ a ∈ as, ∀ s, FeedsChanged ls s (f s a)) (s : State) : FeedsChanged ls s (as.foldl f s) := by
  induction as generalizing s with
  | nil => exact .refl ls s
  | cons a as ih =>
    exact (hf a List.mem_cons_self s).trans (ih (fun b hb => hf b (List.mem_cons_of_mem a hb)) _)

/-- R148: the seeding of a new CAMERA's arbiter. -/
theorem feedsChanged_becomeDestination (l : Nat) (s : State) : FeedsChanged [l] s (becomeDestination l s) := by
  have hl : l ∈ [l] := List.mem_singleton_self l
  unfold becomeDestination
  split
  · unfold seedArbiter
    dsimp only
    refine FeedsChanged.trans ?_ (feedsChanged_foldl (fun k _ s => feedsChanged_requestFeed k hl s) _)
    rw [orderFeed_setArbiter]
    exact feedsChanged_writeFeed _ hl
  · exact .refl _ s

/-- R149: the feed side of a retirement. -/
theorem feedsChanged_leaveDestination (l : Nat) (output : Option Nat) (s : State) :
    FeedsChanged [l] s (leaveDestination l output s) := by
  cases output with
  | none => exact .refl _ s
  | some o =>
    refine ⟨rfl, fun j hj => (arbiterAt_setArbiter ..).trans (if_neg ?_)⟩
    rintro ⟨rfl, -⟩
    exact hj (List.mem_singleton_self l)

/-! ## Key statuses (R152) -/

theorem cameraOutput_shown (s : State) (l : Nat) : cameraOutput s l = (entryShown (entry s l)).bind Prod.snd := by
  rw [cameraOutput_eq]
  cases entry s l <;> rfl

theorem isCamera_of_shown (h : ∀ l, entryShown (entry t l) = entryShown (entry s l)) : isCamera t = isCamera s := by
  funext l
  rw [isCamera, isCamera, cameraOutput_shown, cameraOutput_shown, h]

/-- A key's status is computed from its active state, its destinations, the eligible links and the holders. -/
theorem computedStatus_of_inputs (hactive : (keyAt t k).active = (keyAt s k).active)
    (hdest : (keyAt t k).destinations = (keyAt s k).destinations) (hcamera : isCamera t = isCamera s)
    (hholder : ∀ l, (arbiterAt t l).holder = (arbiterAt s l).holder) : computedStatus t k = computedStatus s k := by
  have hheld : (fun l => (arbiterAt t l).holder == some k) = fun l => (arbiterAt s l).holder == some k := by
    funext l
    rw [hholder]
  unfold computedStatus eligibleDestinations
  rw [hactive, hdest, hcamera, hheld]

theorem keyAt_out (s : State) (h : 32 ≤ k) : keyAt s k = default := look_out _ _ h

/-- A recomputation of the statuses leaves every key but its status and its status pending flag. -/
theorem keyAt_refreshStatuses_eq (s : State) (k : Nat) : keyAt (refreshStatuses s) k = { keyAt s k with
    status := (keyAt (refreshStatuses s) k).status, statusPending := (keyAt (refreshStatuses s) k).statusPending } :=
  keysKept_refreshStatuses rfl k

/-- A recomputation of the statuses touches neither a cue state nor an input of one. -/
theorem cues_refreshStatuses (s : State) (l : Nat) :
    heldCue (refreshStatuses s) l = heldCue s l ∧ computedCue (refreshStatuses s) l = computedCue s l := by
  have hframe := refreshStatuses_frame s
  generalize refreshStatuses s = t at hframe
  rw [hframe]
  exact ⟨rfl, rfl⟩

theorem statusesComputed_refreshStatuses (s : State) : StatusesComputed (refreshStatuses s) := by
  intro k hk
  exact (statusesFollow_refreshStatuses rfl k (Nat.le_of_lt_succ hk)).1

end

end Sys2Proof.Machine
end

section
/-! SUPPORT. Every command keeps the cue states and key statuses equal to the computed ones, and the keys in range (R124,
R125, R137, R152). -/

namespace Sys2Proof.Machine

section
variable {s t u v : State} {k l : Nat} {ls : List Nat} {e : EnrolledLink}

/-! ## What is kept -/

/-- From `s` to `t` the laws of the derived state are kept. -/
structure DerivedKept (s t : State) : Prop where
  cues : CuesComputed s → CuesComputed t
  keys : KeysInRange s → KeysInRange t
  statuses : StatusesComputed s → StatusesComputed t

theorem DerivedKept.trans (h : DerivedKept s t) (h' : DerivedKept t u) : DerivedKept s u :=
  ⟨h'.cues ∘ h.cues, h'.keys ∘ h.keys, h'.statuses ∘ h.statuses⟩

theorem keysInRange_of_keys (h : ∀ k, (keyAt t k).level = (keyAt s k).level ∧
    (keyAt t k).destinations = (keyAt s k).destinations) (hs : KeysInRange s) : KeysInRange t := by
  intro k
  rw [(h k).1, (h k).2]
  exact hs k

theorem cuesComputed_of_same (h : ∀ l, heldCue t l = heldCue s l ∧ computedCue t l = computedCue s l)
    (hs : CuesComputed s) : CuesComputed t := by
  intro l hl
  rw [(h l).1, (h l).2]
  exact hs l hl

/-- The inputs of cue states and key statuses stay, and so do the cue states and the keys but for status pending
flags. -/
theorem DerivedKept.of_inputs (htally : t.tally = s.tally)
    (hlinks : ∀ l, entryShown (entry t l) = entryShown (entry s l))
    (hholder : ∀ l, (arbiterAt t l).holder = (arbiterAt s l).holder)
    (hkeys : ∀ k, keyAt t k = { keyAt s k with statusPending := (keyAt t k).statusPending }) : DerivedKept s t where
  cues := cuesComputed_of_same fun l => by
    refine ⟨by rw [heldCue, heldCue, htally], computedCue_of_inputs (hlinks l) (hholder l) ?_⟩
    funext flag
    simp only [anyMapped, mappedSources, mapEntry, sourceFlags, htally]
  keys := keysInRange_of_keys fun k => by rw [hkeys k]; exact ⟨rfl, rfl⟩
  statuses hs k hk := by
    have hstatus : computedStatus t k = computedStatus s k :=
      computedStatus_of_inputs (by rw [hkeys k]) (by rw [hkeys k]) (isCamera_of_shown hlinks) hholder
    rw [hstatus, ← hs k hk, hkeys k]

theorem DerivedKept.of_display (h : display t = display s) : DerivedKept s t := by
  have hkeys (k : Nat) : keyAt t k = keyAt s k := congrArg (fun d : Display => look d.keys k) h
  have harbiters (l : Nat) : arbiterAt t l = arbiterAt s l := congrArg (fun d : Display => look d.arbiters l) h
  have hlinks (l : Nat) : entryShown (entry t l) = entryShown (entry s l) := congrArg (fun d : Display => d.links l) h
  have hmapped (l : Nat) : anyMapped t l = anyMapped s l :=
    anyMapped_congr (fun a => by rw [show mapEntry t a = mapEntry s a from congrArg (fun d : Display => look d.map a) h])
      fun a _ => congrArg (fun d : Display => look d.sources a) h
  constructor
  case cues =>
    exact cuesComputed_of_same fun l => ⟨congrArg (fun d : Display => look d.cues l) h,
      computedCue_of_inputs (hlinks l) (by rw [harbiters]) (hmapped l)⟩
  case keys => exact keysInRange_of_keys fun k => by rw [hkeys]; exact ⟨rfl, rfl⟩
  case statuses =>
    intro hs k hk
    rw [hkeys, computedStatus_of_inputs (s := s) (by rw [hkeys]) (by rw [hkeys]) (isCamera_of_shown hlinks)
      fun l => by rw [harbiters]]
    exact hs k hk

theorem DerivedKept.after (h : DerivedKept t u) (ht : display t = display s) : DerivedKept s u :=
  (of_display ht).trans h

theorem DerivedKept.then_display (h : DerivedKept s t) (hu : display u = display t) : DerivedKept s u :=
  h.trans (.of_display hu)

theorem DerivedKept.refl (s : State) : DerivedKept s s := .of_display rfl

/-- Where every status is recomputed, what the event made of the statuses does not matter. -/
theorem DerivedKept.of_refresh (hcues : CuesComputed s → CuesComputed v) (hkeys : KeysInRange s → KeysInRange v) :
    DerivedKept s (refreshStatuses v) where
  cues hs := cuesComputed_of_same (cues_refreshStatuses v) (hcues hs)
  keys hs := keysInRange_of_keys (s := v) (fun k => by rw [keyAt_refreshStatuses_eq]; exact ⟨rfl, rfl⟩) (hkeys hs)
  statuses _ := statusesComputed_refreshStatuses v

/-- A request keeps the laws that its rule keeps. -/
theorem derivedKept_takeRequest {p : Port} {c : RequestCode} {rule : State → Verdict}
    (h : ∀ u, DerivedKept u ((rule u).after u)) (s : State) : DerivedKept s (takeRequest p c rule s) := by
  have hframe : DerivedKept s (completeFrame p s) := .of_display (display_completeFrame s p)
  obtain ⟨r, ht | ht⟩ := takeRequest_after s p c rule
  · rw [ht]
    exact (hframe.trans (h _)).then_display (display_respond _ p r)
  · rw [ht]
    exact hframe.then_display (display_respond _ p r)

/-! ## Writers of cue inputs (R120, R121, R123) -/

/-- Only cue states and their inputs change: the keys keep their statuses, whose inputs stay. -/
theorem CuesFollow.derivedKept (h : CuesFollow ls u t) (htalk : u.talk = s.talk) (hcamera : isCamera u = isCamera s)
    (hcues : u.tally.cues = s.tally.cues) (hsame : ∀ j, j ∉ ls → computedCue u j = computedCue s j) :
    DerivedKept s t := by
  have htalk' : t.talk = s.talk := h.talk.trans htalk
  have hkeys (k : Nat) : keyAt t k = keyAt s k := by rw [keyAt, keyAt, htalk']
  have hcamera' : isCamera t = isCamera s := by
    rw [← hcamera]
    funext l
    exact isCamera_of_entry (congrFun h.entries l)
  constructor
  case cues => exact fun hs => h.cuesComputed hs hcues hsame
  case keys => exact keysInRange_of_keys fun k => by rw [hkeys]; exact ⟨rfl, rfl⟩
  case statuses =>
    intro hs k hk
    rw [hkeys, computedStatus_of_inputs (s := s) (by rw [hkeys]) (by rw [hkeys]) hcamera'
      fun l => by rw [arbiterAt, arbiterAt, htalk']]
    exact hs k hk

theorem computedCue_takeTally {a j : Nat} {f : SourceFlags}
    (hj : j ∉ if f = sourceFlags s a then [] else (mapEntry s a).toList) :
    computedCue { s with tally := { s.tally with sources := put s.tally.sources a f } } j = computedCue s j := by
  refine computedCue_putSource ?_
  split at hj
  · next h => exact .inl h
  · exact .inr fun h => hj (by rw [h]; exact List.mem_singleton_self j)

theorem derivedKept_takeTally (a : Nat) (f : SourceFlags) (s : State) : DerivedKept s (takeTally a f s) := by
  rw [takeTally_eq]
  exact (cuesFollow_recomputeCues _ _).derivedKept rfl rfl rfl fun j hj => computedCue_takeTally hj

theorem computedCue_tallyMap {a j : Nat} {m : Option Nat} (hj : j ∉ (mapEntry s a).toList ++ m.toList) :
    computedCue { s with tally := { s.tally with map := put s.tally.map a m } } j = computedCue s j := by
  refine computedCue_putMap (fun h => hj ?_) fun h => hj ?_
  · rw [h]; exact List.mem_append_left _ (List.mem_singleton_self j)
  · rw [h]; exact List.mem_append_right _ (List.mem_singleton_self j)

theorem derivedKept_tallyMapRule (a l : Nat) (s : State) : DerivedKept s ((tallyMapRule a l s).after s) := by
  unfold tallyMapRule
  dsimp only
  split
  · exact .refl s
  · exact (cuesFollow_recomputeCues _ _).derivedKept rfl rfl rfl fun j hj => computedCue_tallyMap hj

/-- A link's entry is an input of its own cue state alone. -/
theorem computedCue_setEntry_ne {x : LinkEntry} {j : Nat} (hj : j ≠ l) :
    computedCue (setEntry l x s) j = computedCue s j := by
  refine computedCue_of_inputs ?_ rfl rfl
  rw [entry_setEntry, if_neg fun h => hj h.1.symm]

theorem isCamera_setOverride (o : TallyOverride) (he : entry s l = .enrolled e) :
    isCamera (setEntry l (.enrolled { e with tally := o }) s) = isCamera s := by
  funext j
  rw [← updateLink_enrolled s (fun e => { e with tally := o }) he]
  exact congrArg Option.isSome (cameraOutput_updateLink fun _ => rfl)

theorem derivedKept_tallyOverrideRule (l o : Nat) (s : State) : DerivedKept s ((tallyOverrideRule l o s).after s) := by
  unfold tallyOverrideRule
  split
  · exact .refl s
  · split
    · exact .refl s
    · split
      · next e he =>
        exact (cuesFollow_recomputeCue l _).derivedKept rfl (isCamera_setOverride _ he) rfl
          fun j hj => computedCue_setEntry_ne (by simpa using hj)
      · exact .refl s

/-! ## Keys (R138 to R141) -/

/-- A key is written that keeps its level and destinations in range, and its active state. -/
theorem derivedKept_keySetRule (k v m lk src : Nat) (ds : List Nat) (s : State) :
    DerivedKept s ((keySetRule k v m lk src ds s).after s) := by
  unfold keySetRule
  split
  · exact .refl s
  · split
    · next mode locked _ _ =>
      dsimp only
      split
      · exact .refl s
      · next hidle =>
        rw [after_accept]
        generalize hkey : ({ keyAt s k with
          level := min 7 v, mode := mode, locked := locked, source := src
          destinations := (List.range 64).filter ds.contains } : Key) = key
        have hactive : key.active = false := by rw [← hkey]; simpa using hidle
        have hstatus : key.status = (keyAt s k).status := by rw [← hkey]
        refine ⟨cuesComputed_of_same fun l => ⟨rfl, rfl⟩, fun hs j => ?_, fun hs j hj => ?_⟩
        · rw [keyAt_setKey]
          split
          · rw [← hkey]
            refine ⟨Nat.min_le_left 7 v, List.Pairwise.filter _ List.pairwise_lt_range, fun x hx => ?_⟩
            exact List.mem_range.1 (List.mem_filter.1 hx).1
          · exact hs j
        · by_cases hjk : k = j
          · subst hjk
            have hnow : keyAt (setKey k key s) k = key := by rw [keyAt_setKey, if_pos ⟨rfl, hj⟩]
            have hheld := hs k hj
            rw [computedStatus, if_neg hidle] at hheld
            rw [computedStatus, hnow, hactive, hstatus, hheld]
            rfl
          · have hsame : keyAt (setKey k key s) j = keyAt s j := by rw [keyAt_setKey, if_neg fun h => hjk h.1]
            rw [hsame, computedStatus_of_inputs (t := setKey k key s) (s := s) (by rw [hsame]) (by rw [hsame]) rfl
              fun _ => rfl]
            exact hs j hj
    · exact .refl s

/-- What follows an event at the arbiters of some links: the cue states of these links, and the key statuses (R125,
R152). -/
theorem FeedsChanged.derivedKept (h : FeedsChanged ls u v) (htally : u.tally = s.tally)
    (hsame : ∀ j, j ∉ ls → Machine.computedCue u j = Machine.computedCue s j)
    (hkeys : KeysInRange s → KeysInRange u) : DerivedKept s (refreshStatuses (recomputeCues ls v)) := by
  have hfollow := cuesFollow_recomputeCues ls v
  refine .of_refresh (fun hs => hfollow.cuesComputed hs (by rw [h.tally, htally]) fun j hj =>
    (h.computedCue hj).trans (hsame j hj)) fun hs => keysInRange_of_keys (s := u) (fun k => ?_) (hkeys hs)
  rw [show keyAt (recomputeCues ls v) k = keyAt v k by rw [keyAt, keyAt, hfollow.talk], h.keys]
  exact ⟨rfl, rfl⟩

/-- A key's active state is no matter of its range. -/
theorem keysInRange_setActive (b : Bool) (hs : KeysInRange s) :
    KeysInRange (setKey k { keyAt s k with active := b } s) := by
  refine keysInRange_of_keys (fun j => ?_) hs
  rw [keyAt_setKey]
  split
  · next h => rw [h.1]; exact ⟨rfl, rfl⟩
  · exact ⟨rfl, rfl⟩

theorem derivedKept_activateKey (k : Nat) (s : State) : DerivedKept s (activateKey k s) :=
  (feedsChanged_foldl (fun _ hl s => feedsChanged_requestFeed k hl s) _).derivedKept rfl (fun _ _ => rfl)
    (keysInRange_setActive true)

theorem derivedKept_deactivateKey (k : Nat) (s : State) : DerivedKept s (deactivateKey k s) :=
  (feedsChanged_foldl (fun _ hl s => feedsChanged_withdrawFeed k hl s) _).derivedKept rfl (fun _ _ => rfl)
    (keysInRange_setActive false)

theorem derivedKept_pressKey (k : Nat) (s : State) : DerivedKept s (pressKey k s) := by
  unfold pressKey
  dsimp only
  split
  · exact derivedKept_activateKey k s
  · exact derivedKept_deactivateKey k s
  · exact .refl s

theorem derivedKept_liftKey (k : Nat) (s : State) : DerivedKept s (liftKey k s) := by
  unfold liftKey
  dsimp only
  split
  · exact derivedKept_deactivateKey k s
  · exact .refl s

theorem derivedKept_keyPressRule (k : Nat) (s : State) : DerivedKept s ((keyPressRule k s).after s) := by
  unfold keyPressRule
  split
  · exact .refl s
  · exact derivedKept_pressKey k s

theorem derivedKept_keyLiftRule (k : Nat) (s : State) : DerivedKept s ((keyLiftRule k s).after s) := by
  unfold keyLiftRule
  split
  · exact .refl s
  · exact derivedKept_liftKey k s

/-- A default input is no holder. -/
theorem derivedKept_feedDefaultRule (l i : Nat) (s : State) : DerivedKept s ((feedDefaultRule l i s).after s) := by
  unfold feedDefaultRule
  dsimp only
  split
  · exact .refl s
  · rw [after_accept]
    have hset : DerivedKept s (setArbiter l { arbiterAt s l with defaultInput := optIndex i } s) := by
      refine .of_inputs rfl (fun _ => rfl) (fun j => ?_) fun _ => rfl
      rw [arbiterAt_setArbiter]
      split
      · next h => rw [h.1]
      · rfl
    split
    · exact hset.then_display (display_orderFeed _ l)
    · exact hset

/-- A status pending flag is an input of no status. -/
theorem derivedKept_startKeyStatus (s : State) : DerivedKept s (startKeyStatus s) := by
  unfold startKeyStatus
  split
  · next k _ _ =>
    have hset : DerivedKept s (setKey k { keyAt s k with statusPending := false } s) := by
      refine .of_inputs rfl (fun _ => rfl) (fun _ => rfl) fun j => ?_
      rw [keyAt_setKey]
      split
      · next h => rw [h.1]
      · rfl
    exact hset.then_display rfl
  · exact .refl s

/-! ## Links (R73, R75, R76) -/

/-- The statuses are recomputed where a CAMERA comes or goes; otherwise they keep their inputs. -/
theorem derivedKept_statusesAfter (camera : Bool) (hcues : CuesComputed s → CuesComputed v) (hkeys : keyAt v = keyAt s)
    (hkept : camera = false → isCamera v = isCamera s ∧ ∀ j, arbiterAt v j = arbiterAt s j) :
    DerivedKept s (statusesAfter camera v) := by
  have hrange : KeysInRange s → KeysInRange v := keysInRange_of_keys fun k => by rw [hkeys]; exact ⟨rfl, rfl⟩
  cases camera with
  | true =>
    rw [show statusesAfter true v = refreshStatuses v from rfl]
    exact .of_refresh hcues hrange
  | false =>
    obtain ⟨hcamera, harbiters⟩ := hkept rfl
    refine ⟨hcues, hrange, fun hs k hk => ?_⟩
    rw [show statusesAfter false v = v from rfl, hkeys, computedStatus_of_inputs (t := v) (s := s) (by rw [hkeys])
      (by rw [hkeys]) hcamera fun j => by rw [harbiters]]
    exact hs k hk

/-- R73, R126, R148: an entry that was not ENROLLED is enrolled, and what depends on it follows. -/
theorem derivedKept_enroll (e : EnrolledLink) (hfree : (entry s l).isEnrolled = false) :
    DerivedKept s (enroll l e s) := by
  unfold enroll
  dsimp only
  generalize hu : markChanged l (setEntry l (.enrolled e) s) = u
  have hother (j : Nat) (hj : j ≠ l) : entry u j = entry s j := by
    rw [← hu, entry_markChanged, entry_setEntry, if_neg fun h => hj h.1.symm]
  have hcue (j : Nat) (hj : j ∉ [l]) : computedCue u j = computedCue s j := by
    rw [← hu]
    exact computedCue_setEntry_ne (by simpa using hj)
  have hseed := feedsChanged_becomeDestination l u
  have hfollow := cuesFollow_recomputeCue l (becomeDestination l u)
  have htally : u.tally = s.tally := by rw [← hu]; rfl
  have hkeys : keyAt u = keyAt s := by rw [← hu]; rfl
  refine derivedKept_statusesAfter _ (fun hs => ?_) ?_ fun hmic => ⟨?_, fun j => ?_⟩
  · refine hfollow.cuesComputed hs (by rw [hseed.tally, htally]) fun j hj => ?_
    exact (hseed.computedCue hj).trans (hcue j hj)
  · funext k
    rw [keyAt, hfollow.talk]
    exact congrFun (hseed.keys.trans hkeys) k
  · funext j
    refine Eq.trans (b := isCamera u j) (isCamera_of_entry (by rw [hfollow.entries, hseed.entries])) ?_
    by_cases hj : j = l
    · rw [hj, hmic, isCamera, cameraOutput_shown, entryShown_of_not_enrolled hfree]
      rfl
    · exact isCamera_of_entry (hother j hj)
  · have hunseeded : becomeDestination l u = u := by
      rw [becomeDestination, hmic]
      rfl
    rw [arbiterAt, hfollow.talk, hunseeded, ← hu]
    rfl

theorem derivedKept_linkEnrollRule (l x k i : Nat) (q : LinkParams) (o : Nat) (s : State) :
    DerivedKept s ((linkEnrollRule l x k i q o s).after s) := by
  unfold linkEnrollRule
  split
  · exact .refl s
  · split
    · split_ifs with hfree
      · exact .refl s
      · exact .refl s
      · exact .refl s
      · split
        · exact .refl s
        · next hbind =>
          obtain ⟨c, -, rfl⟩ := bindRecord_eq_some.1 hbind
          refine DerivedKept.after (derivedKept_enroll _ ?_) (t := markStale (setRecord i (.active c l) s)) (by simp)
          simpa using hfree
    · exact .refl s

theorem unbind_blocks (l : Nat) (s : State) : (unbind l s).tally = s.tally ∧ (unbind l s).talk = s.talk := by
  unfold unbind
  split
  · unfold releaseRecord
    split <;> exact ⟨rfl, rfl⟩
  · exact ⟨rfl, rfl⟩

/-- R75, R126, R149: a link's entry leaves ENROLLED, its cue state becomes all off and its arbiter is cleared. -/
theorem derivedKept_leave (l : Nat) (s : State) : DerivedKept s (statusesAfter (cameraOutput s l).isSome
    (removePasses l (removeCuePending l (leaveDestination l (cameraOutput s l) (darken l (unbind l s)))))) := by
  obtain ⟨htally, htalk⟩ := unbind_blocks l s
  have hfree : (entry (unbind l s) l).isEnrolled = false := isEnrolled_unbind s l
  have hleave := feedsChanged_leaveDestination l (cameraOutput s l) (darken l (unbind l s))
  have hmic : (cameraOutput s l).isSome = false →
      leaveDestination l (cameraOutput s l) (darken l (unbind l s)) = darken l (unbind l s) := fun h => by
    rw [Option.isSome_eq_false_iff, Option.isNone_iff_eq_none] at h
    rw [h]
    rfl
  generalize leaveDestination l (cameraOutput s l) (darken l (unbind l s)) = v at hleave hmic ⊢
  have hcues : v.tally = { s.tally with cues := put s.tally.cues l .allOff } := by
    rw [hleave.tally, ← htally]
    rfl
  have hentry (j : Nat) : entry v j = entry (unbind l s) j := congrFun hleave.entries j
  have harbiter (j : Nat) : arbiterAt (unbind l s) j = arbiterAt s j := by rw [arbiterAt, arbiterAt, htalk]
  have hheld (j : Nat) : heldCue v j = if l = j ∧ l < 64 then .allOff else heldCue s j := by
    rw [heldCue, hcues]
    exact look_put ..
  refine derivedKept_statusesAfter _ (fun hs => ?cues) ?keys fun h => ⟨?cameras, fun j => ?arbiters⟩
  case cues =>
    have hv : CuesComputed v := by
      intro j hj
      rw [hheld]
      by_cases hjl : l = j
      · rw [if_pos ⟨hjl, hjl ▸ hj⟩, ← hjl, computedCue_not_enrolled (by rw [hentry, hfree])]
      · have hcomputed : computedCue v j = computedCue s j := by
          refine computedCue_of_inputs ?_ ?_ ?_
          · rw [hentry, entry_unbind_ne (Ne.symm hjl)]
          · rw [hleave.others j (by simpa using Ne.symm hjl)]
            exact congrArg Arbiter.holder (harbiter j)
          · funext flag
            simp only [anyMapped, mappedSources, mapEntry, sourceFlags, hcues]
        rw [if_neg fun h => hjl h.1, hcomputed]
        exact hs j hj
    exact hv
  case keys =>
    funext k
    refine (congrFun hleave.keys k).trans ?_
    exact (congrArg (fun x : Talkback => look x.keys k) htalk :)
  case cameras =>
    funext j
    refine Eq.trans (b := isCamera (unbind l s) j) (isCamera_of_entry (hentry j)) ?_
    by_cases hj : j = l
    · rw [hj, isCamera, cameraOutput_shown, entryShown_of_not_enrolled hfree]
      exact h.symm
    · exact isCamera_of_entry (entry_unbind_ne hj)
  case arbiters =>
    rw [hmic h]
    exact harbiter j

theorem derivedKept_retire (l : Nat) (s : State) : DerivedKept s (retire l s) := by
  have hdisplay : display (abortRetune .retired l s) = display s := display_abortRetune s .retired l
  have hout : cameraOutput s l = cameraOutput (abortRetune .retired l s) l := by
    rw [cameraOutput_shown, cameraOutput_shown]
    exact congrArg (fun d : Display => (d.links l).bind Prod.snd) hdisplay.symm
  unfold retire
  dsimp only
  rw [hout]
  exact ((derivedKept_leave l _).after hdisplay).then_display (display_markChanged _ l)

theorem display_vacate (h : (entry s l).isEnrolled = false) : display (vacate l s) = display s :=
  (display_markChanged _ l).trans (display_setEntry s (entryShown_of_not_enrolled h).symm)

theorem derivedKept_linkRetireRule (l : Nat) (s : State) : DerivedKept s ((linkRetireRule l s).after s) := by
  unfold linkRetireRule
  split_ifs
  · exact .refl s
  · exact derivedKept_retire l s
  · exact .refl s

theorem derivedKept_linkEraseRule (l : Nat) (s : State) : DerivedKept s ((linkEraseRule l s).after s) := by
  unfold linkEraseRule
  split
  · exact .refl s
  · split
    · exact .refl s
    · next hn => exact .of_display (display_vacate (by rw [hn]; rfl))
    · exact (derivedKept_retire l s).then_display (display_vacate (isEnrolled_retire s l))

/-! ## The resets (R126, R150, R185) -/

theorem derivedKept_warmRestart (s : State) : DerivedKept s (warmRestart s) where
  cues _ := cuesComputed_warmRestart s
  keys := by
    refine keysInRange_of_keys fun k => ?_
    by_cases hk : k < 32
    · rw [keyAt_warmRestart s hk]; exact ⟨rfl, rfl⟩
    · rw [keyAt_out _ (not_lt.1 hk), keyAt_out _ (not_lt.1 hk)]; exact ⟨rfl, rfl⟩
  statuses _ k hk := by
    have hidle : (keyAt (warmRestart s) k).active = false := by rw [keyAt_warmRestart s hk]; rfl
    rw [computedStatus, hidle, keyAt_warmRestart s hk]
    rfl

theorem derivedKept_hardwareReset (s : State) :
    DerivedKept s { State.reset with pending := s.pending, arriving := s.arriving } := by
  have h := Proofs.lawsHoldAtReset
  unfold Obligations.LawsHoldAtReset at h
  obtain ⟨-, -, -, -, -, -, -, -, -, -, -, -, -, -, hcues, -, hkeys, hstatuses⟩ := h
  exact ⟨fun _ => hcues, fun _ => hkeys, fun _ => hstatuses⟩

/-! ## Every command and every step -/

theorem exec_touching_derivedKept {c : Instr} (htouch : touchesDisplay c = true) (h : exec c s = .next t) :
    DerivedKept s t := by
  cases c <;> cases htouch <;> cases h
  case hardwareReset => exact derivedKept_hardwareReset s
  case runRestart p => exact derivedKept_takeRequest (rule := runRestartRule) derivedKept_warmRestart s
  case linkEnroll p l x k i q o => exact derivedKept_takeRequest (derivedKept_linkEnrollRule l x k i q o) s
  case linkRetire p l => exact derivedKept_takeRequest (derivedKept_linkRetireRule l) s
  case linkErase p l => exact derivedKept_takeRequest (derivedKept_linkEraseRule l) s
  case mixerTallyMessage a f =>
    split
    · exact .of_display (display_discardMalformed s _)
    · exact (derivedKept_takeTally _ _ _).after (display_completeMessage s .mixer)
  case tallyMap p a l => exact derivedKept_takeRequest (derivedKept_tallyMapRule a l) s
  case tallyOverride p l o => exact derivedKept_takeRequest (derivedKept_tallyOverrideRule l o) s
  case keySet p k v m lk src ds => exact derivedKept_takeRequest (derivedKept_keySetRule k v m lk src ds) s
  case keyDown k =>
    split
    · exact .of_display (display_discardMalformed s _)
    · exact (derivedKept_pressKey k _).after (display_completeMessage s .keypanel)
  case keyPress p k => exact derivedKept_takeRequest (derivedKept_keyPressRule k) s
  case keyUp k =>
    split
    · exact .of_display (display_discardMalformed s _)
    · exact (derivedKept_liftKey k _).after (display_completeMessage s .keypanel)
  case keyLift p k => exact derivedKept_takeRequest (derivedKept_keyLiftRule k) s
  case feedDefault p l i => exact derivedKept_takeRequest (derivedKept_feedDefaultRule l i) s
  case keyStatusSendStart => exact derivedKept_startKeyStatus s

theorem exec_derivedKept {c : Instr} (h : exec c s = .next t) : DerivedKept s t := by
  cases htouch : touchesDisplay c with
  | false => exact .of_display (exec_display s htouch h)
  | true => exact exec_touching_derivedKept htouch h

/-- A law that every `DerivedKept` carries over, every step keeps. -/
theorem step_derivedKept {P : State → Prop} (hP : ∀ {s t}, DerivedKept s t → P s → P t) (h : step s = .next t)
    (hs : P s) : P t :=
  step_keeps (P := P) (fun _ _ => hP (.of_display rfl)) (fun _ _ _ he => hP (exec_derivedKept he))
    (fun s => hP (.of_display (display_idle s))) h hs

end

end Sys2Proof.Machine
end

section
namespace Sys2Proof.Proofs
open Sys2Proof.Machine

/-- Settles O58: every command that writes an input of a cue state or of a key status recomputes what depends on it, and
no other command writes any of these. -/
theorem stepsKeepDerivedState : Obligations.StepsKeepDerivedState := by
  unfold Obligations.StepsKeepDerivedState
  refine ⟨fun s t hs h => ?_, fun s t h => ⟨?_, ?_⟩⟩
  · exact step_derivedKept (P := CuesComputed) (fun hk => hk.cues) h hs
  · exact step_derivedKept (P := KeysInRange) (fun hk => hk.keys) h
  · exact step_derivedKept (P := StatusesComputed) (fun hk => hk.statuses) h

end Sys2Proof.Proofs
end

section
/-! SUPPORT. The echo comparison by its three outcomes, and that HEARD makes it last (R65, R86, R111, R129, R130). -/

namespace Sys2Proof.Machine

section
variable {s : State} {l o count : Nat} {e : EnrolledLink} {r : HeardReport} {echo : Cue}

/-! ## The three outcomes (R130) -/

theorem setMismatch_camera (n : Nat) (he : entry s l = .enrolled e) (hr : e.role = .camera o count) :
    setMismatch l n s = setEntry l (.enrolled { e with role := .camera o n }) s := by
  rw [setMismatch, updateLink_enrolled s _ he, hr]

/-- What the comparison does to a CAMERA of mismatch count `count`. -/
theorem compareEcho_camera (he : entry s l = .enrolled e) (hr : e.role = .camera o count) :
    compareEcho l (some echo) s =
      let role (n : Nat) : State := setEntry l (.enrolled { e with role := .camera o n }) s
      let n := min 255 (count + 1)
      if echo = heldCue s l then role 0
      else if cueOnTheWay s l then s
      else if n = 8 then raise .tallyFault (setCuePending l (role n)) else setCuePending l (role n) := by
  simp only [compareEcho, enrolledLink_eq_some.2 he, hr, setMismatch_camera _ he hr, Config.countStop,
    Config.tallyFaultCount]

/-! ## The echo of a report (R129, R189) -/

/-- The echo byte that shows a cue state (R189). -/
def echoByte (c : Cue) : Nat :=
  (match c.colour with
    | .off => 0
    | .preview => 1
    | .program => 2) + (if c.iso then 4 else 0) + (if c.talk then 8 else 0)

theorem echoByte_lt (c : Cue) : echoByte c < 16 := by
  obtain ⟨colour, iso, talk⟩ := c
  cases colour <;> cases iso <;> cases talk <;> decide

theorem cueOfByte_echoByte (c : Cue) : cueOfByte (echoByte c) = c := by
  obtain ⟨colour, iso, talk⟩ := c
  cases colour <;> cases iso <;> cases talk <;> rfl

theorem reportEcho_echoByte (hk : r.kind = 0) (hecho : r.echo = some (echoByte echo)) :
    reportEcho r = some echo := by
  have hne : echoByte echo ≠ 255 := by have := echoByte_lt echo; omega
  simp only [reportEcho, hk, hecho, if_true, hne, if_false, cueOfByte_echoByte]

/-- The same report without an echo: its echo byte is FFh. -/
def withoutEcho (r : HeardReport) : HeardReport := { r with echo := some 255 }

theorem reportEcho_withoutEcho (r : HeardReport) : reportEcho (withoutEcho r) = none := by
  unfold reportEcho withoutEcho
  split <;> rfl

theorem malformed_withoutEcho (hm : r.malformed = false) : (withoutEcho r).malformed = false := by
  simp only [HeardReport.malformed, Bool.or_eq_false_iff] at hm ⊢
  exact ⟨hm.1, by simp [withoutEcho]⟩

/-! ## The last step of HEARD -/

/-- A report that lies on a carrier of its link does what it does without its echo, and then the comparison. -/
theorem reportEnrolled_compares (h : whereLies s e r.freq ≠ .mistuned) :
    reportEnrolled l e r s = compareEcho l (reportEcho r) (reportEnrolled l e (withoutEcho r) s) := by
  have hquiet : reportEnrolled l e (withoutEcho r) s = match whereLies s e r.freq with
      | .mistuned => capture .mistuned (withoutEcho r) s
      | .onCarrier => applyPresence l e r s
      | .onNewCarrier rec_ n =>
        if completes e r then completeRetune rec_ n l (applyPresence l e r s) else applyPresence l e r s := by
    unfold reportEnrolled
    rw [reportEcho_withoutEcho, show (withoutEcho r).freq = r.freq from rfl]
    cases whereLies s e r.freq <;> simp only [compareEcho_none] <;> rfl
  rw [hquiet, reportEnrolled]
  cases hlies : whereLies s e r.freq with
  | mistuned => exact absurd hlies h
  | _ => rfl

theorem whereLies_ne_mistuned (h : liesOn r.freq (planRecord s e.carrier) = true ∨
    ∃ rec_ n, e.phase = .ordered rec_ n ∧ liesOn r.freq (planRecord s n) = true) :
    whereLies s e r.freq ≠ .mistuned := by
  by_cases hnew : ∃ rec_ n, e.phase = .ordered rec_ n ∧ liesOn r.freq (planRecord s n) = true
  · obtain ⟨rec_, n, hp, hn⟩ := hnew
    rw [whereLies_onNewCarrier hp hn]
    exact nofun
  · have hold := h.resolve_right hnew
    rw [whereLies_eq, hold, if_pos rfl]
    · exact nofun
    · exact fun rec_ n hp => Bool.eq_false_iff.2 fun hn => hnew ⟨rec_, n, hp, hn⟩

theorem setMismatch_moveRover (n : Nat) (s : State) : setMismatch l n (moveRover s) = moveRover (setMismatch l n s) := by
  have hentry : entry (moveRover s) l = entry s l := rfl
  unfold setMismatch updateLink
  rw [hentry]
  cases entry s l <;> rfl

/-- The rover's step and the comparison touch nothing of each other. -/
theorem moveRover_compareEcho (l : Nat) (echo : Option Cue) (s : State) :
    moveRover (compareEcho l echo s) = compareEcho l echo (moveRover s) := by
  have hlink : enrolledLink (moveRover s) l = enrolledLink s l := rfl
  have hcue : heldCue (moveRover s) l = heldCue s l := rfl
  have hway : cueOnTheWay (moveRover s) l = cueOnTheWay s l := rfl
  unfold compareEcho
  rw [hlink]
  cases enrolledLink s l with
  | none => rfl
  | some e =>
    cases echo with
    | none => rfl
    | some c =>
      dsimp only
      cases e.role with
      | mic => rfl
      | camera o count =>
        dsimp only
        rw [hcue, hway, setMismatch_moveRover, setMismatch_moveRover]
        split_ifs <;> rfl

end

end Sys2Proof.Machine
end

section
namespace Sys2Proof.Proofs
open Sys2Proof.Machine

/-- Settles O28: the report with its echo taken away does all that the report does but the comparison, which commutes
with the rover's step; the comparison itself is one equation. -/
theorem echoComparison : Obligations.EchoComparison := by
  unfold Obligations.EchoComparison
  constructor
  · intro r l echo e s hm hs he hid hk hecho hlies
    have heu : entry (completeMessage .receiver s) l = .enrolled e := (entry_completeMessage ..).trans he
    have hsu := identsDistinct_completeMessage .receiver hs
    have hnear : whereLies (completeMessage .receiver s) e r.freq ≠ .mistuned := by
      rw [whereLies_completeMessage]
      exact whereLies_ne_mistuned hlies
    have hquiet := exec_heard (s := s) (malformed_withoutEcho hm)
    rw [handleReport_enrolled hsu heu (show e.ident = (withoutEcho r).ident from hid)] at hquiet
    refine ⟨_, hquiet, ?_⟩
    rw [exec_heard hm, handleReport_enrolled hsu heu hid, reportEnrolled_compares hnear, reportEcho_echoByte hk hecho,
      moveRover_compareEcho]
  · intro l o count echo e s he hr role
    have hcompare := compareEcho_camera (echo := echo) he hr
    refine ⟨fun hmatch => ?matching, fun hdiff hway => ?onTheWay, fun hdiff hway => ?counted, compareEcho_none⟩
    case matching => exact hcompare.trans (if_pos hmatch)
    case onTheWay => exact hcompare.trans ((if_neg hdiff).trans (if_pos hway))
    case counted => exact hcompare.trans ((if_neg hdiff).trans (if_neg (by rw [hway]; exact Bool.false_ne_true)))

end Sys2Proof.Proofs
end

section
/-! SUPPORT. The cue state of an ENROLLED link flag by flag (R124). -/

namespace Sys2Proof.Machine

section
variable {s : State} {l : Nat} {e : EnrolledLink}

theorem computedCue_talk (he : entry s l = .enrolled e) :
    (computedCue s l).talk = (arbiterAt s l).holder.isSome := by
  simp only [computedCue, he]
  cases e.tally <;> rfl

theorem computedCue_iso (he : entry s l = .enrolled e) :
    (computedCue s l).iso = true ↔ e.tally ≠ .dark ∧ anyMapped s l SourceFlags.iso = true := by
  simp only [computedCue, he]
  cases e.tally <;> simp

/-- The colour by the override: under AUTO programme goes before preview. -/
theorem computedCue_colour (he : entry s l = .enrolled e) :
    (e.tally = .dark → (computedCue s l).colour = .off) ∧
    (e.tally = .program → (computedCue s l).colour = .program) ∧
    (e.tally = .preview → (computedCue s l).colour = .preview) ∧
    (e.tally = .auto → (computedCue s l).colour =
      if anyMapped s l SourceFlags.programme then .program
      else if anyMapped s l SourceFlags.preview then .preview else .off) := by
  simp only [computedCue, he]
  refine ⟨fun h => ?_, fun h => ?_, fun h => ?_, fun h => ?_⟩ <;> rw [h]

theorem computedCue_program (he : entry s l = .enrolled e) : (computedCue s l).colour = .program ↔
    e.tally = .program ∨ e.tally = .auto ∧ anyMapped s l SourceFlags.programme = true := by
  obtain ⟨hdark, hprogram, hpreview, hauto⟩ := computedCue_colour he
  cases ht : e.tally with
  | dark => simp [hdark ht]
  | program => simp [hprogram ht]
  | preview => simp [hpreview ht]
  | auto =>
    rw [hauto ht]
    split_ifs with hp hv <;> simp [hp]

theorem computedCue_preview (he : entry s l = .enrolled e) : (computedCue s l).colour = .preview ↔
    e.tally = .preview ∨ e.tally = .auto ∧ ¬ anyMapped s l SourceFlags.programme = true ∧
      anyMapped s l SourceFlags.preview = true := by
  obtain ⟨hdark, hprogram, hpreview, hauto⟩ := computedCue_colour he
  cases ht : e.tally with
  | dark => simp [hdark ht]
  | program => simp [hprogram ht]
  | preview => simp [hpreview ht]
  | auto =>
    rw [hauto ht]
    split_ifs <;> simp [*]

end

end Sys2Proof.Machine
end

section
namespace Sys2Proof.Proofs
open Sys2Proof.Machine

/-- Settles O34: the cue state flag by flag, by the override. -/
theorem cueOfALink : Obligations.CueOfALink := by
  unfold Obligations.CueOfALink
  intro l s mapped talk
  refine ⟨computedCue_not_enrolled, fun e he => ⟨computedCue_talk he, ?_, ?_, ?_⟩⟩
  · exact (computedCue_iso he).trans (and_congr_right' anyMapped_iff)
  · exact (computedCue_program he).trans (or_congr_right (and_congr_right' anyMapped_iff))
  · exact (computedCue_preview he).trans
      (or_congr_right (and_congr_right' (and_congr (not_congr anyMapped_iff) anyMapped_iff)))

end Sys2Proof.Proofs
end

section
/-! SUPPORT. The events that write an input of the cue states, and what they do to the CUEs pending (R120, R121, R123,
R125, R127). -/

namespace Sys2Proof.Machine

section
variable {s t u : State} {p : Port} {a l o : Nat} {ls : List Nat} {e : EnrolledLink} {m : Option Nat}

/-- The cue states held are the computed ones, and a CUE has been set pending exactly for the delivered changes (R125,
R127). -/
def CuesPended (s t : State) : Prop :=
  CuesComputed t ∧ ∀ l < 64, l ∈ t.ret.cuePending ↔
    l ∈ s.ret.cuePending ∨ heldCue t l ≠ heldCue s l ∧ cueDelivered s l = true

/-- Inputs of the cue states of some links are written, and these cue states recomputed. -/
theorem CuesFollow.cuesPended (h : CuesFollow ls u t) (hs : CuesComputed s) (hcues : u.tally.cues = s.tally.cues)
    (hret : u.ret = s.ret) (hsame : ∀ j, j ∉ ls → computedCue u j = computedCue s j)
    (hdelivered : ∀ j, cueDelivered u j = cueDelivered s j) : CuesPended s t := by
  refine ⟨h.cuesComputed hs hcues hsame, fun j _ => ?_⟩
  rw [h.pending_iff, hret, hdelivered, show heldCue u j = heldCue s j by rw [heldCue, heldCue, hcues]]

theorem cuesComputed_completeFrame (p : Port) (hs : CuesComputed s) : CuesComputed (completeFrame p s) := by
  cases p <;> exact hs

theorem cuesPended_of_completeFrame (h : CuesPended (completeFrame p s) t) : CuesPended s t := by
  cases p <;> exact h

/-! ## Mixer tally messages (R120) -/

/-- The flags of a mixer tally message bit by bit (R191). -/
theorem flagsOfByte_eq : ∀ f ≤ 7, flagsOfByte f = ⟨f % 2 == 1, f / 2 % 2 == 1, f / 4 == 1⟩ := by decide

theorem cuesFollow_takeTally (a : Nat) (f : SourceFlags) (s : State) :
    CuesFollow (if f = sourceFlags s a then [] else (mapEntry s a).toList)
      { s with tally := { s.tally with sources := put s.tally.sources a f } } (takeTally a f s) := by
  rw [takeTally_eq]
  exact cuesFollow_recomputeCues _ _

theorem cuesPended_takeTally (a : Nat) (f : SourceFlags) (hs : CuesComputed s) : CuesPended s (takeTally a f s) :=
  (cuesFollow_takeTally a f s).cuesPended hs rfl rfl (fun _ => computedCue_takeTally) fun _ => rfl

theorem sourceFlags_takeTally (ha : a ≤ 63) (f : SourceFlags) (b : Nat) :
    sourceFlags (takeTally a f s) b = if b = a then f else sourceFlags s b := by
  rw [sourceFlags, (cuesFollow_takeTally a f s).frame]
  dsimp only
  split
  · next h => rw [h]; exact look_put_self _ _ _ (by omega)
  · next h => exact look_put_ne _ _ _ _ h

theorem exec_mixerTallyMessage_wellFormed {f : Nat} (ha : a ≤ 63) (hf : f ≤ 7) (s : State) :
    exec (.mixerTallyMessage a f) s = .next (takeTally a (flagsOfByte f) (completeMessage .mixer s)) := by
  refine congrArg _ (if_neg ?_)
  rw [contentMalformed, Bool.or_eq_true, decide_eq_true_iff, decide_eq_true_iff]
  omega

/-! ## TALLY.MAP (R121) -/

theorem tallyMapRule_badField (h : 63 < a ∨ (63 < l ∧ l ≠ 255)) (s : State) :
    tallyMapRule a l s = .refuse .badField := by
  unfold tallyMapRule
  refine if_pos ?_
  rcases h with h | ⟨h, hne⟩
  · simp [h]
  · simp [optIndex_of_ne hne, h]

/-- A map entry is written, and the cue states of the links it names before and after are recomputed. -/
def mapSource (a : Nat) (m : Option Nat) (s : State) : State :=
  recomputeCues ((mapEntry s a).toList ++ m.toList) { s with tally := { s.tally with map := put s.tally.map a m } }

theorem tallyMapRule_map (ha : a ≤ 63) (hl : l ≤ 63 ∨ l = 255) (s : State) :
    tallyMapRule a l s = .accept [.one (optIndexField (optIndex l))] (mapSource a (optIndex l) s) := by
  unfold tallyMapRule
  refine if_neg ?_
  rcases hl with hl | rfl
  · simp [optIndex_of_ne (show l ≠ 255 by omega), ha, hl]
  · simp [optIndex, ha]

theorem cuesFollow_mapSource (a : Nat) (m : Option Nat) (s : State) :
    CuesFollow ((mapEntry s a).toList ++ m.toList) { s with tally := { s.tally with map := put s.tally.map a m } }
      (mapSource a m s) := cuesFollow_recomputeCues _ _

theorem cuesPended_mapSource (a : Nat) (m : Option Nat) (hs : CuesComputed s) : CuesPended s (mapSource a m s) :=
  (cuesFollow_mapSource a m s).cuesPended hs rfl rfl (fun _ => computedCue_tallyMap) fun _ => rfl

theorem mapEntry_mapSource (ha : a ≤ 63) (m : Option Nat) (b : Nat) :
    mapEntry (mapSource a m s) b = if b = a then m else mapEntry s b := by
  rw [mapEntry, (cuesFollow_mapSource a m s).frame]
  dsimp only
  split
  · next h => rw [h]; exact look_put_self _ _ _ (by omega)
  · next h => exact look_put_ne _ _ _ _ h

theorem optIndexField_optIndex (l : Nat) : optIndexField (optIndex l) = .index l := by
  unfold optIndexField optIndex
  split
  · next h => rw [h]; rfl
  · rfl

/-! ## TALLY.OVERRIDE (R123) -/

/-- The numbers of the overrides (R186; log entry 9). -/
theorem overrideChoice_of_le (ho : o ≤ 3) : ∃ c, overrideChoice o = some c ∧ overrideNumber c = o ∧
    c = if o = 0 then .auto else if o = 1 then .dark else if o = 2 then .program else .preview := by
  interval_cases o <;> exact ⟨_, rfl, rfl, rfl⟩

theorem overrideChoice_of_gt (ho : 3 < o) : overrideChoice o = none := by
  obtain ⟨n, rfl⟩ := Nat.exists_eq_add_of_lt ho
  rw [show 3 + n + 1 = n + 4 by omega]
  rfl

theorem tallyOverrideRule_badField (h : 63 < l ∨ 3 < o) (s : State) : tallyOverrideRule l o s = .refuse .badField := by
  unfold tallyOverrideRule
  by_cases hl : 63 < l
  · exact if_pos hl
  · rw [if_neg hl, overrideChoice_of_gt (h.resolve_left hl)]

theorem tallyOverrideRule_badState (hl : l ≤ 63) (ho : o ≤ 3) (he : (entry s l).isEnrolled = false) :
    tallyOverrideRule l o s = .refuse .badState := by
  obtain ⟨c, hc, -, -⟩ := overrideChoice_of_le ho
  rw [tallyOverrideRule, if_neg (by omega), hc]
  cases hx : entry s l with
  | enrolled e => rw [hx] at he; cases he
  | _ => rfl

/-- An ENROLLED link's override is written, and its cue state recomputed. -/
def overrideLink (l : Nat) (e : EnrolledLink) (c : TallyOverride) (s : State) : State :=
  recomputeCue l (setEntry l (.enrolled { e with tally := c }) s)

theorem tallyOverrideRule_override {c : TallyOverride} (he : entry s l = .enrolled e) (hc : overrideChoice o = some c) :
    tallyOverrideRule l o s = .accept [.one (.choice (overrideNumber c)), .one (.cue (heldCue (overrideLink l e c s) l))]
      (overrideLink l e c s) := by
  have hl := le_of_enrolled he
  rw [tallyOverrideRule, if_neg (by omega), hc, he]
  rfl

theorem cuesFollow_overrideLink (l : Nat) (e : EnrolledLink) (c : TallyOverride) (s : State) :
    CuesFollow [l] (setEntry l (.enrolled { e with tally := c }) s) (overrideLink l e c s) :=
  cuesFollow_recomputeCue _ _

theorem cueDelivered_setOverride (c : TallyOverride) (he : entry s l = .enrolled e) (j : Nat) :
    cueDelivered (setEntry l (.enrolled { e with tally := c }) s) j = cueDelivered s j := by
  rw [cueDelivered, cueDelivered, isCamera_setOverride c he, enrolledLink, enrolledLink, entry_setEntry]
  by_cases hj : l = j
  · subst hj
    rw [if_pos ⟨rfl, enrolled_lt s he⟩, he]
  · rw [if_neg fun h => hj h.1]

theorem cuesPended_overrideLink (c : TallyOverride) (he : entry s l = .enrolled e) (hs : CuesComputed s) :
    CuesPended s (overrideLink l e c s) :=
  (cuesFollow_overrideLink l e c s).cuesPended hs rfl rfl
    (fun _ hj => computedCue_setEntry_ne (by simpa using hj)) (cueDelivered_setOverride c he)

theorem entry_overrideLink (c : TallyOverride) (he : entry s l = .enrolled e) (j : Nat) :
    entry (overrideLink l e c s) j = if j = l then .enrolled { e with tally := c } else entry s j := by
  rw [(cuesFollow_overrideLink l e c s).entries, entry_setEntry]
  by_cases hj : j = l
  · rw [if_pos ⟨hj.symm, enrolled_lt s he⟩, if_pos hj]
  · rw [if_neg fun h => hj h.1.symm, if_neg hj]

end

end Sys2Proof.Machine
end

section
namespace Sys2Proof.Proofs
open Sys2Proof.Machine

/-- Settles O35: each event writes one input and recomputes the cue states of the links that the input belongs to. -/
theorem tallyWrites : Obligations.TallyWrites := by
  unfold Obligations.TallyWrites
  constructor
  case left =>
    refine fun p s => ⟨fun a l hm h => ?_, fun l o hm h => ?_, fun l o hm hl ho he => ?_⟩
    · exact congrArg _ (takeRequest_refused hm (tallyMapRule_badField h _))
    · exact congrArg _ (takeRequest_refused hm (tallyOverrideRule_badField h _))
    · exact congrArg _ (takeRequest_refused hm (tallyOverrideRule_badState hl ho (by rw [entry_completeFrame, he])))
  case right =>
  intro s hs pended
  refine ⟨?message, ?map, ?override⟩
  case message =>
    intro a f ha hf
    have hfollow := cuesFollow_takeTally a (flagsOfByte f) (completeMessage .mixer s)
    have hread := sourceFlags_takeTally (s := completeMessage .mixer s) ha (flagsOfByte f)
    refine ⟨_, exec_mixerTallyMessage_wellFormed ha hf s, (hread a).trans ?_, fun b hb => (hread b).trans (if_neg hb),
      cuesPended_takeTally (s := completeMessage .mixer s) a (flagsOfByte f) hs, ?_⟩
    · rw [if_pos rfl, flagsOfByte_eq f hf]
    · rw [hfollow.frame]
      exact ⟨rfl, rfl, rfl, rfl⟩
  case map =>
    intro p a l hm ha hl link
    have hfollow := cuesFollow_mapSource a (optIndex l) (completeFrame p s)
    have hread := mapEntry_mapSource (s := completeFrame p s) ha (optIndex l)
    refine ⟨mapSource a (optIndex l) (completeFrame p s), congrArg _ (takeRequest_answered hm ?_),
      (hread a).trans (if_pos rfl), fun b hb => (hread b).trans ?_,
      cuesPended_of_completeFrame (cuesPended_mapSource a _ (cuesComputed_completeFrame p hs)), ?_⟩
    · rw [tallyMapRule_map ha hl, optIndexField_optIndex]
    · rw [if_neg hb, mapEntry, mapEntry, completeFrame_tally]
    · rw [hfollow.frame]
      exact ⟨by rw [completeFrame_tally], completeFrame_dir .., completeFrame_talk ..⟩
  case override =>
    intro p l o e hm he ho setting
    obtain ⟨c, hc, hnumber, hsetting⟩ := overrideChoice_of_le ho
    have he' : entry (completeFrame p s) l = .enrolled e := (entry_completeFrame ..).trans he
    have hfollow := cuesFollow_overrideLink l e c (completeFrame p s)
    have hread := entry_overrideLink c he'
    refine ⟨overrideLink l e c (completeFrame p s), congrArg _ (takeRequest_answered hm ?_),
      (hread l).trans ?_, fun b hb => (hread b).trans ?_,
      cuesPended_of_completeFrame (cuesPended_overrideLink c he' (cuesComputed_completeFrame p hs)), ?_⟩
    · rw [tallyOverrideRule_override he' hc, hnumber]
    · rw [if_pos rfl, hsetting]
    · rw [if_neg hb, entry_completeFrame]
    · rw [hfollow.frame]
      show (completeFrame p s).tally.sources = _ ∧ (completeFrame p s).tally.map = _ ∧ (completeFrame p s).talk = _
      rw [completeFrame_tally, completeFrame_talk]
      exact ⟨rfl, rfl, rfl⟩

end Sys2Proof.Proofs
end

section
/-! SUPPORT. Lamp lines and the reads of the tally unit (R122, R133, R134, R136). -/

namespace Sys2Proof.Machine

section
variable {s : State} {p : Port} {n l c d v : Nat} {e : EnrolledLink}

/-! ## LAMP.SET (R133) -/

/-- The numbers of the lamp colours (R186; log entry 9). -/
theorem lampColourChoice_of_le (h : c ≤ 3) : lampColourChoice c =
    some (if c = 0 then .program else if c = 1 then .preview else if c = 2 then .iso else .talk) := by
  interval_cases c <;> rfl

theorem lampColourChoice_of_gt (h : 3 < c) : lampColourChoice c = none := by
  match c, h with
  | c + 4, _ => rfl

theorem driveChoice_of_le (h : d ≤ 2) :
    driveChoice d = some (if d = 0 then .off else if d = 1 then .pushPull else .openDrain) := by
  interval_cases d <;> rfl

theorem driveChoice_of_gt (h : 2 < d) : driveChoice d = none := by
  match d, h with
  | d + 3, _ => rfl

theorem pinLevelChoice_of_le (h : v ≤ 1) : pinLevelChoice v = some (if v = 0 then .high else .low) := by
  interval_cases v <;> rfl

theorem pinLevelChoice_of_gt (h : 1 < v) : pinLevelChoice v = none := by
  match v, h with
  | v + 2, _ => rfl

theorem optIndex_any_badLink : (optIndex l).any (63 < ·) = true ↔ 63 < l ∧ l ≠ 255 := by
  by_cases h : l = 255
  · subst h; decide
  · simp [optIndex_of_ne h, h]

theorem lampSetRule_badField (h : 15 < n ∨ (63 < l ∧ l ≠ 255) ∨ 3 < c ∨ 2 < d ∨ 1 < v) (s : State) :
    lampSetRule n l c d v s = .refuse .badField := by
  unfold lampSetRule
  dsimp only
  by_cases hguard : (decide (15 < n) || (optIndex l).any (63 < ·)) = true
  · exact if_pos hguard
  · rw [if_neg hguard]
    rw [Bool.or_eq_true, decide_eq_true_iff, optIndex_any_badLink] at hguard
    have hchoice : 3 < c ∨ 2 < d ∨ 1 < v := (h.resolve_left fun h => hguard (.inl h)).resolve_left
      fun h => hguard (.inr h)
    rcases hchoice with h | h | h
    · rw [lampColourChoice_of_gt h]
    · rw [driveChoice_of_gt h]
      cases lampColourChoice c <;> rfl
    · rw [pinLevelChoice_of_gt h]
      cases lampColourChoice c <;> cases driveChoice d <;> rfl

/-- A lamp line record is written. -/
def writeLamp (n : Nat) (r : LampLine) (s : State) : State :=
  { s with tally.lamps := put s.tally.lamps n r }

theorem lampSetRule_write {colour : LampColour} {drive : LampDrive} {level : PinLevel} (hn : n ≤ 15)
    (hl : l ≤ 63 ∨ l = 255) (hc : lampColourChoice c = some colour) (hd : driveChoice d = some drive)
    (hv : pinLevelChoice v = some level) (s : State) :
    let r : LampLine := ⟨optIndex l, colour, drive, level⟩
    let t := writeLamp n r s
    lampSetRule n l c d v s = .accept (lampItems r (lampLit t n) (lampPin t n)) t := by
  unfold lampSetRule
  dsimp only
  rw [if_neg, hc, hd, hv]
  · rfl
  · rw [Bool.or_eq_true, decide_eq_true_iff, optIndex_any_badLink]
    omega

/-! ## Lit states and pins (R134) -/

theorem showsColour_iff (cue : Cue) (colour : LampColour) : showsColour cue colour = true ↔
    match colour with
    | .program => cue.colour = .program
    | .preview => cue.colour = .preview
    | .iso => cue.iso = true
    | .talk => cue.talk = true := by
  cases colour <;> simp [showsColour]

theorem lampLit_iff (s : State) (n : Nat) : lampLit s n = true ↔ ∃ l e, (lampLine s n).link = some l ∧
    entry s l = .enrolled e ∧ showsColour (heldCue s l) (lampLine s n).colour = true := by
  rw [lampLit]
  cases hlink : (lampLine s n).link with
  | none => simp
  | some l =>
    simp only [Option.some.injEq, Bool.and_eq_true, exists_and_left, exists_eq_left', exists_and_right]
    refine and_congr_left' ?_
    cases entry s l <;> simp [LinkEntry.isEnrolled]

/-! ## Reads (R122, R136) -/

theorem tallySourcesRule_badField {a b : Nat} (h : 63 < a ∨ 63 < b ∨ b < a) (s : State) :
    tallySourcesRule a b s = .refuse .badField := if_pos (by simpa [or_assoc] using h)

theorem tallySourcesRule_eq {a b : Nat} (hab : a ≤ b) (hb : b ≤ 63) (s : State) : tallySourcesRule a b s =
    .accept ((List.range' a (b + 1 - a)).flatMap fun n =>
      [.one (.flags (sourceFlags s n)), .one (.index ((mapEntry s n).getD 255))]) s := by
  rw [tallySourcesRule, if_neg (by simp; omega), indexRun_eq_range']
  rfl

theorem cueInFlight_iff : cueInFlight s l = true ↔
    ∃ m c, s.ret.inFlight = some m ∧ m.link = l ∧ m.content = .cue c := by
  unfold cueInFlight
  cases s.ret.inFlight with
  | none => simp
  | some m =>
    dsimp only
    rw [Bool.and_eq_true, beq_iff_eq]
    cases hc : m.content with
    | cue c => simp [hc]
    | _ => simp [hc]

end

end Sys2Proof.Machine
end

section
namespace Sys2Proof.Proofs
open Sys2Proof.Machine

/-- Settles O36: lamp lines by link, colour and drive; the reads by what a link's entry is. -/
theorem lampLinesAndTallyReads : Obligations.LampLinesAndTallyReads := by
  unfold Obligations.LampLinesAndTallyReads
  refine ⟨?refusals, ⟨?set, ?pins⟩, ?reads, ?items, ?layout⟩
  case refusals =>
    refine fun p s => ⟨fun n l c d v hm h => ?_, fun a b h => ?_, fun l h => ?_⟩
    · exact congrArg _ (takeRequest_refused hm (lampSetRule_badField h _))
    · exact congrArg _ (takeRequest_refused (maySend_read rfl) (tallySourcesRule_badField h _))
    · exact congrArg _ (takeRequest_refused (maySend_read rfl) (if_pos h))
  case set =>
    intro p n l c d v s hm hn hl hc hd hv r t
    have ht : writeLamp n r (completeFrame p s) = t := by cases p <;> rfl
    refine ⟨congrArg _ (takeRequest_answered hm ?_), look_put_self _ _ _ (by omega)⟩
    rw [← ht]
    exact lampSetRule_write hn hl (lampColourChoice_of_le hc) (driveChoice_of_le hd) (pinLevelChoice_of_le hv) _
  case pins =>
    intro n s
    refine ⟨(lampLit_iff s n).trans (exists₂_congr fun l e => and_congr_right' (and_congr_right'
      (showsColour_iff _ _))), ?_⟩
    unfold lampPin
    dsimp only
    generalize lampLit s n = lit
    generalize (lampLine s n).activeLevel = level
    refine ⟨fun h => ?_, fun h => ?_, fun h => ?_⟩
    · rw [h, pinOf]
    · rw [h]
      cases level <;> cases lit <;> decide
    · rw [h]
      cases level <;> cases lit <;> decide
  case reads =>
    refine fun p s => ⟨fun a b hab hb => ?_, fun l hl => ?_⟩
    · refine congrArg _ (takeRequest_answered (maySend_read rfl) ((tallySourcesRule_eq hab hb _).trans ?_))
      simp only [sourceFlags, mapEntry, completeFrame_tally]
    · refine congrArg _ (takeRequest_answered (maySend_read rfl) ?_)
      rw [tallyGetRule, if_neg (by omega)]
      cases p <;> rfl
  case items =>
    intro l s sources items
    refine ⟨fun h => ?_, fun n h => ?_, fun hs hl he => ?_, fun e he => ?_⟩
    · rw [tallyItems, enrolledLink, h]; rfl
    · rw [tallyItems, enrolledLink, h]; rfl
    · rw [hs l (by omega), computedCue_not_enrolled he]; rfl
    · intro setting
      have hsetting : setting = [.choice (overrideNumber e.tally)] := by
        cases h : e.tally <;> simp [setting, h, overrideNumber]
      refine ⟨fun hr => ?_, fun o n hr => ⟨s.ret.cuePending.contains l, cueInFlight s l, ?_, by simp, cueInFlight_iff⟩⟩
      · rw [hsetting, tallyItems, enrolledLink, he]
        simp only [Option.bind_some, hr]
        rfl
      · rw [hsetting, tallyItems, enrolledLink, he]
        simp only [Option.bind_some, hr]
        rfl
  case layout =>
    intro r lit pin
    obtain ⟨link, colour, drive, level⟩ := r
    cases level <;> rfl

end Sys2Proof.Proofs
end

section
/-! SUPPORT. What a request and a withdrawal make of an arbiter's roles, and what a run of them over a key's destinations
does (R144, R145, R147). -/

namespace Sys2Proof.Machine

section
variable {a : Arbiter} {k l o j : Nat} {active : Bool} {s t u : State} {ls : List Nat} {keys : Nat → Key}
  {out : Arbiter → Arbiter × Bool} {ws : List Waiter} {x : Arbiter × Bool}

/-! ## Roles -/

theorem waits_iff : waits k ws = true ↔ k ∈ ws.map Waiter.key := by
  simp [waits]

theorem hasRole_iff : hasRole k a = true ↔ k ∈ roleKeys a := by
  simp only [hasRole, roleKeys, Bool.or_eq_true, waits_iff, beq_iff_eq, List.mem_append, Option.mem_toList]

theorem mem_map_addWaiter (w : Waiter) : j ∈ (addWaiter w ws).map Waiter.key ↔ j = w.key ∨ j ∈ ws.map Waiter.key := by
  induction ws with
  | nil => simp [addWaiter]
  | cons v vs ih =>
    unfold addWaiter
    split
    · rw [List.map_cons, List.mem_cons]
    · rw [List.map_cons, List.mem_cons, ih, List.map_cons, List.mem_cons, or_left_comm]

theorem mem_map_dropWaiter : j ∈ (dropWaiter k ws).map Waiter.key ↔ j ∈ ws.map Waiter.key ∧ j ≠ k := by
  simp only [dropWaiter, List.mem_map, List.mem_filter, bne_iff_ne]
  constructor
  · rintro ⟨w, ⟨hw, hne⟩, rfl⟩
    exact ⟨⟨w, hw, rfl⟩, hne⟩
  · rintro ⟨⟨w, hw, rfl⟩, hne⟩
    exact ⟨w, ⟨hw, hne⟩, rfl⟩

theorem cyclicNext_mem {last : Option Nat} (h : cyclicNext last ls = some j) : j ∈ ls := by
  cases last with
  | none => exact List.mem_of_head? h
  | some g =>
    rcases Option.or_eq_some_iff.1 h with h | ⟨-, h⟩
    · exact List.mem_of_find?_eq_some h
    · exact List.mem_of_head? h

theorem waitingWinner_mem {level : Nat} (h : waitingWinner a level = some j) : j ∈ a.waiting.map Waiter.key := by
  obtain ⟨w, hw, rfl⟩ := List.mem_map.1 (cyclicNext_mem h)
  exact List.mem_map_of_mem (List.mem_filter.1 hw).1

/-- Selection gives the roles to the saved and pending keys alone (R146). -/
theorem roleKeys_selectHolder (h : j ∈ roleKeys (selectHolder a)) :
    j ∈ a.saved.map Waiter.key ++ a.waiting.map Waiter.key := by
  have hgrant (level : Nat) (h : j ∈ roleKeys (selectHolder.grantWaiting a level)) :
      j ∈ a.saved.map Waiter.key ++ a.waiting.map Waiter.key := by
    unfold selectHolder.grantWaiting at h
    cases hwin : waitingWinner a level with
    | none =>
      rw [hwin] at h
      exact h
    | some w =>
      rw [hwin] at h
      simp only [roleKeys, List.mem_append, mem_map_dropWaiter, Option.toList_some, List.mem_singleton] at h
      rcases h with (rfl | h) | h
      · exact List.mem_append_right _ (waitingWinner_mem hwin)
      · exact List.mem_append_left _ h
      · exact List.mem_append_right _ h.1
  unfold selectHolder at h
  cases hbest : bestLevel a with
  | none =>
    rw [hbest] at h
    exact h
  | some level =>
    rw [hbest] at h
    cases hsaved : a.saved with
    | nil =>
      rw [← hsaved]
      simp only [hsaved] at h
      exact hgrant level h
    | cons top rest =>
      simp only [hsaved] at h
      split at h
      · exact h
      · rw [← hsaved]
        exact hgrant level h

/-- An outcome gives or takes key `k`'s role at an arbiter, and the same event again changes nothing. -/
structure RoleTurned (k : Nat) (active : Bool) (out : Arbiter → Arbiter × Bool) (a : Arbiter) : Prop where
  role : hasRole k (out a).1 = active
  again : out (out a).1 = ((out a).1, false)

/-- A request leaves the key with a role, and where it has one nothing is done (R144). -/
theorem roleTurned_requestOutcome (keys : Nat → Key) (k : Nat) (a : Arbiter) :
    RoleTurned k true (requestOutcome keys k) a := by
  have hrole : hasRole k (requestOutcome keys k a).1 = true := by
    unfold requestOutcome
    split
    · next h => exact h
    · cases hh : a.holder with
      | none => simp [hasRole]
      | some h =>
        dsimp only
        split
        · simp [hasRole]
        · exact hasRole_iff.2 (List.mem_append_right _ ((mem_map_addWaiter _).2 (.inl rfl)))
  exact ⟨hrole, if_pos hrole⟩

theorem withdrawOutcome_of_no_role (h : hasRole k a = false) : withdrawOutcome k a = (a, false) := by
  simp only [hasRole, Bool.or_eq_false_iff, beq_eq_false_iff_ne] at h
  obtain ⟨⟨hholder, hsaved⟩, hwaiting⟩ := h
  rw [withdrawOutcome, if_neg hholder, if_neg (Bool.eq_false_iff.1 hsaved), if_neg (Bool.eq_false_iff.1 hwaiting)]

/-- A withdrawal leaves a key that had at most one role without any, and without one nothing is done (R145). -/
theorem roleTurned_withdrawOutcome (h : (roleKeys a).Nodup) : RoleTurned k false (withdrawOutcome k) a := by
  suffices hno : k ∉ roleKeys (withdrawOutcome k a).1 by
    have hrole : hasRole k (withdrawOutcome k a).1 = false := Bool.eq_false_iff.2 fun h => hno (hasRole_iff.1 h)
    exact ⟨hrole, withdrawOutcome_of_no_role hrole⟩
  rw [roleKeys, List.append_assoc, List.nodup_append'] at h
  obtain ⟨-, hrest, hholder⟩ := h
  obtain ⟨-, -, hsaved⟩ := List.nodup_append'.1 hrest
  unfold withdrawOutcome
  split
  · next hh =>
    exact fun hk => hholder (Option.mem_toList.2 hh) (roleKeys_selectHolder hk)
  · next hh =>
    have hnot : k ∉ a.holder.toList := fun hk => hh (Option.mem_toList.1 hk)
    simp only [waits_iff]
    split
    · next hs =>
      simp only [roleKeys, List.mem_append, mem_map_dropWaiter, not_or]
      exact ⟨⟨hnot, fun hk => hk.2 rfl⟩, hsaved hs⟩
    · next hs =>
      split
      · simp only [roleKeys, List.mem_append, mem_map_dropWaiter, not_or]
        exact ⟨⟨hnot, hs⟩, fun hk => hk.2 rfl⟩
      · next hw =>
        simp only [roleKeys, List.mem_append, not_or]
        exact ⟨⟨hnot, hs⟩, hw⟩

/-! ## The orders of an event at an arbiter (R147) -/

theorem look_feedOrders (x : Arbiter × Bool) (o : Nat) : look (feedOrders l x s) o =
    if x.2 = true ∧ cameraOutput s l = some o ∧ o < 128 then some (feedInput s x.1) else look s.talk.orders o := by
  unfold feedOrders
  cases cameraOutput s l with
  | none => simp
  | some p =>
    dsimp only
    cases x.2 with
    | false => simp
    | true =>
      rw [if_pos rfl, look_put]
      refine if_congr ?_ rfl rfl
      rw [Option.some.injEq]
      constructor
      · rintro ⟨rfl, h⟩; exact ⟨rfl, rfl, h⟩
      · rintro ⟨-, rfl, h⟩; exact ⟨rfl, h⟩

/-! ## Events at the arbiters of several links -/

/-- An event with one outcome, at the arbiters of several links one after another. -/
def turnFeeds (out : Arbiter → Arbiter × Bool) (ls : List Nat) (s : State) : State :=
  ls.foldl (fun s l => writeFeed l (out (arbiterAt s l)) s) s

/-- From `s` to `t` the event happened once at the arbiter of each of the links. -/
structure FeedsTurned (out : Arbiter → Arbiter × Bool) (ls : List Nat) (s t : State) : Prop
    extends FeedsChanged ls s t where
  arbiters : ∀ l ∈ ls, arbiterAt t l = (out (arbiterAt s l)).1
  orders : ∀ l ∈ ls, ∀ o, cameraOutput s l = some o →
    look t.talk.orders o = look (feedOrders l (out (arbiterAt s l)) s) o
  otherOrders : ∀ o, (∀ l ∈ ls, cameraOutput s l ≠ some o) → look t.talk.orders o = look s.talk.orders o

/-- The first link's event may be repeated by the others' (a destination that stands twice), where it does nothing, and
their orders are for other outputs. -/
theorem FeedsTurned.cons (hl : l < 64) (hagain : out (out (arbiterAt s l)).1 = ((out (arbiterAt s l)).1, false))
    (hd : OutputsDistinct s) (h : FeedsTurned out ls (writeFeed l (out (arbiterAt s l)) s) t) :
    FeedsTurned out (l :: ls) s t := by
  have hself : arbiterAt (writeFeed l (out (arbiterAt s l)) s) l = (out (arbiterAt s l)).1 := by
    rw [arbiterAt_writeFeed, if_pos ⟨rfl, hl⟩]
  have hother {j : Nat} (hj : j ≠ l) : arbiterAt (writeFeed l (out (arbiterAt s l)) s) j = arbiterAt s j := by
    rw [arbiterAt_writeFeed, if_neg fun h => hj h.1.symm]
  have horders : (writeFeed l (out (arbiterAt s l)) s).talk.orders = feedOrders l (out (arbiterAt s l)) s := rfl
  have houtput : cameraOutput (writeFeed l (out (arbiterAt s l)) s) = cameraOutput s := rfl
  have hinput : feedInput (writeFeed l (out (arbiterAt s l)) s) = feedInput s := rfl
  constructor
  case toFeedsChanged =>
    exact (feedsChanged_writeFeed _ List.mem_cons_self).trans
      ⟨h.frame, fun j hj => h.others j fun hm => hj (List.mem_cons_of_mem l hm)⟩
  case arbiters =>
    intro j hj
    by_cases hmem : j ∈ ls
    · rw [h.arbiters j hmem]
      by_cases hjl : j = l
      · rw [hjl, hself, hagain]
      · rw [hother hjl]
    · obtain rfl := (List.mem_cons.1 hj).resolve_right hmem
      rw [h.others j hmem, hself]
  case orders =>
    intro j hj o ho
    by_cases hmem : j ∈ ls
    · rw [h.orders j hmem o (by rw [houtput, ho]), look_feedOrders, houtput, hinput, horders]
      by_cases hjl : j = l
      · rw [hjl, hself, hagain, if_neg fun h => nomatch h.1]
      · have hlo : cameraOutput s l ≠ some o := fun h => hjl (hd j l o ho h)
        rw [hother hjl, look_feedOrders, look_feedOrders, if_neg (c := _ ∧ cameraOutput s l = some o ∧ _)
          fun h => hlo h.2.1]
    · obtain rfl := (List.mem_cons.1 hj).resolve_right hmem
      refine (h.otherOrders o fun m hm hmo => hmem ?_).trans (by rw [horders])
      rw [hd j m o ho hmo]
      exact hm
  case otherOrders =>
    intro o ho
    rw [h.otherOrders o fun m hm => ho m (List.mem_cons_of_mem l hm), horders, look_feedOrders,
      if_neg fun h => ho l List.mem_cons_self h.2.1]

theorem feedsTurned_turnFeeds (hls : ∀ l ∈ ls, l < 64) (hd : OutputsDistinct s)
    (hagain : ∀ l, out (out (arbiterAt s l)).1 = ((out (arbiterAt s l)).1, false)) :
    FeedsTurned out ls s (turnFeeds out ls s) := by
  induction ls generalizing s with
  | nil => exact ⟨.refl [] s, nofun, nofun, fun _ _ => rfl⟩
  | cons l ls ih =>
    refine .cons (hls l List.mem_cons_self) (hagain l) hd
      (ih (fun m hm => hls m (List.mem_cons_of_mem l hm)) hd fun m => ?_)
    rw [arbiterAt_writeFeed]
    split
    · rw [hagain l, hagain l]
    · exact hagain m

end

end Sys2Proof.Machine
end

section
/-! SUPPORT. A key's activation and deactivation (R139 to R141, R147, R152). -/

namespace Sys2Proof.Machine

section
variable {k l o j : Nat} {active : Bool} {s t u v : State} {ls : List Nat} {out : Arbiter → Arbiter × Bool} {p : Port}

/-! ## The key that turns -/

theorem keyAt_setActive (hk : k < 32) (j : Nat) : keyAt (setKey k { keyAt s k with active := active } s) j =
    { keyAt s j with active := if j = k then active else (keyAt s j).active } := by
  rw [keyAt_setKey]
  by_cases hj : j = k
  · subst hj
    rw [if_pos ⟨rfl, hk⟩, if_pos rfl]
  · rw [if_neg fun h => hj h.1.symm, if_neg hj]

theorem eligibleDestinations_setActive (hk : k < 32) :
    eligibleDestinations (setKey k { keyAt s k with active := active } s) k = eligibleDestinations s k := by
  rw [eligibleDestinations, keyAt_setActive hk]
  rfl

/-- An arbiter's order carries a key's source, whatever is active (R147). -/
theorem feedOrders_setActive (hk : k < 32) (x : Arbiter × Bool) :
    feedOrders l x (setKey k { keyAt s k with active := active } s) = feedOrders l x s := by
  have hinput : feedInput (setKey k { keyAt s k with active := active } s) x.1 = feedInput s x.1 := by
    simp only [feedInput, keyAt_setActive hk]
  unfold feedOrders
  rw [hinput]
  rfl

theorem mem_eligible_lt (h : l ∈ eligibleDestinations s k) : l < 64 := by
  obtain ⟨o, ho⟩ := Option.isSome_iff_exists.1 (show (cameraOutput s l).isSome = true from (List.mem_filter.1 h).2)
  exact cameraOutput_lt ho

/-- Key `k` turns active or inactive: an event at each eligible destination; then the cue states there, and the key
statuses (R141). -/
def turnKey (k : Nat) (active : Bool) (out : Arbiter → Arbiter × Bool) (s : State) : State :=
  refreshStatuses (recomputeCues (eligibleDestinations s k) (turnFeeds out (eligibleDestinations s k)
    (setKey k { keyAt s k with active := active } s)))

theorem requestOutcome_congr {keys keys' : Nat → Key} (h : ∀ j, (keys j).level = (keys' j).level ∧
    (keys j).locked = (keys' j).locked) : requestOutcome keys k = requestOutcome keys' k := by
  funext a
  unfold requestOutcome
  simp only [(h _).1, (h _).2]

theorem foldl_requestFeed (k : Nat) (ls : List Nat) (s : State) :
    ls.foldl (fun s l => requestFeed k l s) s = turnFeeds (requestOutcome (keyAt s) k) ls s := by
  induction ls generalizing s with
  | nil => rfl
  | cons l ls ih =>
    rw [List.foldl_cons, ih, requestFeed_eq]
    rfl

theorem activateKey_eq (hk : k < 32) (s : State) :
    activateKey k s = turnKey k true (requestOutcome (keyAt s) k) s := by
  have hkeys : requestOutcome (keyAt (setKey k { keyAt s k with active := true } s)) k = requestOutcome (keyAt s) k :=
    requestOutcome_congr fun j => by rw [keyAt_setActive hk]; exact ⟨rfl, rfl⟩
  unfold activateKey turnKey
  dsimp only
  rw [foldl_requestFeed, hkeys, eligibleDestinations_setActive hk]

theorem deactivateKey_eq (hk : k < 32) (s : State) : deactivateKey k s = turnKey k false (withdrawOutcome k) s := by
  unfold deactivateKey turnKey turnFeeds
  simp only [withdrawFeed_eq, eligibleDestinations_setActive hk]

/-! ## What an event of a key does -/

/-- From `s` to `t` key `k` turned, and the event of its turn happened at each eligible destination. -/
structure KeyTurned (k : Nat) (active : Bool) (out : Arbiter → Arbiter × Bool) (s t : State) : Prop where
  frame : t = { s with
    talk := { s.talk with keys := t.talk.keys, arbiters := t.talk.arbiters, orders := t.talk.orders }
    tally := { s.tally with cues := t.tally.cues }, ret := { s.ret with cuePending := t.ret.cuePending } }
  keys : ∀ j, keyAt t j = { keyAt s j with
    active := if j = k then active else (keyAt s j).active
    status := (keyAt t j).status, statusPending := (keyAt t j).statusPending }
  statuses : StatusesFollow s t
  arbiters : ∀ l ∈ eligibleDestinations s k, arbiterAt t l = (out (arbiterAt s l)).1
  otherArbiters : ∀ l, l ∉ eligibleDestinations s k → arbiterAt t l = arbiterAt s l
  orders : ∀ l ∈ eligibleDestinations s k, ∀ o, cameraOutput s l = some o →
    look t.talk.orders o = look (feedOrders l (out (arbiterAt s l)) s) o
  otherOrders : ∀ o, (∀ l ∈ eligibleDestinations s k, cameraOutput s l ≠ some o) →
    look t.talk.orders o = look s.talk.orders o
  cues : ∀ l, heldCue t l = if l ∈ eligibleDestinations s k then computedCue t l else heldCue s l
  pending : ∀ l, l ∈ t.ret.cuePending ↔
    l ∈ s.ret.cuePending ∨ heldCue t l ≠ heldCue s l ∧ cueDelivered s l = true

/-- The recomputation of the statuses sees the keys with the new active state. -/
theorem statusesFollow_setActive (hk : k < 32) (h : StatusesFollow (setKey k { keyAt s k with active := active } s) t) :
    StatusesFollow s t := by
  intro j hj
  have hfollow := h j hj
  rw [keyAt_setActive hk] at hfollow
  exact hfollow

theorem keyTurned_turnKey (hk : k < 32) (hd : OutputsDistinct s) (hout : ∀ l, RoleTurned k active out (arbiterAt s l)) :
    KeyTurned k active out s (turnKey k active out s) := by
  have hturned : FeedsTurned out (eligibleDestinations s k) (setKey k { keyAt s k with active := active } s) _ :=
    feedsTurned_turnFeeds (fun l hl => mem_eligible_lt hl) hd fun l => (hout l).again
  have hfollow := cuesFollow_recomputeCues (eligibleDestinations s k)
    (turnFeeds out (eligibleDestinations s k) (setKey k { keyAt s k with active := active } s))
  unfold turnKey
  generalize turnFeeds out (eligibleDestinations s k) (setKey k { keyAt s k with active := active } s) = v
    at hturned hfollow
  generalize recomputeCues (eligibleDestinations s k) v = w at hfollow
  have hkeys : w.talk.keys = (setKey k { keyAt s k with active := active } s).talk.keys := by
    rw [hfollow.talk, hturned.frame]
  have hframe := refreshStatuses_frame w
  have hheld := fun l => (cues_refreshStatuses w l).1
  have hcomputed := fun l => (cues_refreshStatuses w l).2
  have hstatuses := statusesFollow_refreshStatuses hkeys
  have hkept := keysKept_refreshStatuses hkeys
  generalize refreshStatuses w = t at hframe hheld hcomputed hstatuses hkept
  have harbiters : t.talk.arbiters = v.talk.arbiters := by rw [hframe, hfollow.talk]
  have horders : t.talk.orders = v.talk.orders := by rw [hframe, hfollow.talk]
  have hcues (l : Nat) : heldCue v l = heldCue s l := by rw [heldCue, hturned.tally]; rfl
  constructor
  case frame => rw [hframe, hfollow.frame, hturned.frame]; rfl
  case keys =>
    intro j
    rw [hkept j, keyAt_setActive hk]
  case statuses => exact statusesFollow_setActive hk hstatuses
  case arbiters =>
    intro l hl
    rw [arbiterAt, harbiters]
    exact hturned.arbiters l hl
  case otherArbiters =>
    intro l hl
    rw [arbiterAt, harbiters]
    exact hturned.others l hl
  case orders =>
    intro l hl o ho
    rw [horders, hturned.orders l hl o ho, feedOrders_setActive hk]
    rfl
  case otherOrders =>
    intro o ho
    rw [horders]
    exact hturned.otherOrders o ho
  case cues =>
    intro l
    rw [hheld, hcomputed, hfollow.computed, hfollow.held, hcues]
  case pending =>
    intro l
    rw [hheld, ← hcues, ← show cueDelivered v l = cueDelivered s l by rw [hturned.frame]; rfl,
      show t.ret = w.ret by rw [hframe], hfollow.pending_iff, show v.ret = s.ret by rw [hturned.frame]; rfl]

theorem keyTurned_activateKey (hk : k < 32) (hd : OutputsDistinct s) :
    KeyTurned k true (requestOutcome (keyAt s) k) s (activateKey k s) := by
  rw [activateKey_eq hk]
  exact keyTurned_turnKey hk hd fun l => roleTurned_requestOutcome _ k _

theorem keyTurned_deactivateKey (hk : k < 32) (hlaw : ArbiterLaw s) (hd : OutputsDistinct s) :
    KeyTurned k false (withdrawOutcome k) s (deactivateKey k s) := by
  rw [deactivateKey_eq hk]
  refine keyTurned_turnKey hk hd fun l => roleTurned_withdrawOutcome ?_
  obtain ⟨-, -, -, -, hnodup⟩ := hlaw l
  exact hnodup

/-! ## Presses and lifts (R139, R140) -/

theorem pressKey_inactive (h : (keyAt s k).active = false) : pressKey k s = activateKey k s := by
  simp only [pressKey, h]

theorem pressKey_latch (h : (keyAt s k).active = true) (hm : (keyAt s k).mode = .latch) :
    pressKey k s = deactivateKey k s := by
  simp only [pressKey, h, hm]

theorem pressKey_momentary (h : (keyAt s k).active = true) (hm : (keyAt s k).mode = .momentary) : pressKey k s = s := by
  simp only [pressKey, h, hm]

theorem liftKey_momentary (h : (keyAt s k).active = true) (hm : (keyAt s k).mode = .momentary) :
    liftKey k s = deactivateKey k s := by
  simp only [liftKey, h, hm]

theorem liftKey_latch (hm : (keyAt s k).mode = .latch) : liftKey k s = s := by
  simp only [liftKey, hm]

theorem liftKey_inactive (h : (keyAt s k).active = false) : liftKey k s = s := by
  simp only [liftKey, h]
  cases (keyAt s k).mode <;> rfl

theorem exec_keyDown_wellFormed (hk : k ≤ 31) (s : State) :
    exec (.keyDown k) s = .next (pressKey k (completeMessage .keypanel s)) :=
  congrArg _ (if_neg (by rw [contentMalformed, decide_eq_true_iff]; omega))

theorem exec_keyUp_wellFormed (hk : k ≤ 31) (s : State) :
    exec (.keyUp k) s = .next (liftKey k (completeMessage .keypanel s)) :=
  congrArg _ (if_neg (by rw [contentMalformed, decide_eq_true_iff]; omega))

theorem exec_keyPress_answered (hk : k ≤ 31) (hm : MaySend p .keyPress s) : exec (.keyPress p k) s =
    .next (answered p .keyPress (pressedItems (pressKey k (completeFrame p s)) k) (pressKey k (completeFrame p s))) := by
  refine congrArg _ (takeRequest_answered hm ?_)
  rw [keyPressRule, if_neg (by omega)]

theorem exec_keyLift_answered (hk : k ≤ 31) (hm : MaySend p .keyLift s) : exec (.keyLift p k) s =
    .next (answered p .keyLift (pressedItems (liftKey k (completeFrame p s)) k) (liftKey k (completeFrame p s))) := by
  refine congrArg _ (takeRequest_answered hm ?_)
  rw [keyLiftRule, if_neg (by omega)]

/-! ## States that differ in their ports alone -/

/-- The states differ in nothing but what is held of messages and frames. -/
def SameUnits (s u : State) : Prop :=
  ∃ ports held, u = { s with ports := ports, ctl := { s.ctl with servicePartial := held } }

theorem sameUnits_completeMessage (line : InPort) (s : State) : SameUnits s (completeMessage line s) := by
  cases line <;> exact ⟨_, _, rfl⟩

theorem sameUnits_completeFrame (p : Port) (s : State) : SameUnits s (completeFrame p s) := by
  cases p <;> exact ⟨_, _, rfl⟩

theorem SameUnits.keyAt (h : SameUnits s u) : keyAt u = Machine.keyAt s := by
  obtain ⟨ports, held, rfl⟩ := h
  rfl

theorem SameUnits.outputsDistinct (h : SameUnits s u) (hd : OutputsDistinct s) : OutputsDistinct u := by
  obtain ⟨ports, held, rfl⟩ := h
  exact hd

theorem SameUnits.arbiterLaw (h : SameUnits s u) (hlaw : ArbiterLaw s) : ArbiterLaw u := by
  obtain ⟨ports, held, rfl⟩ := h
  exact hlaw

/-! ## The feed that an event gives at one arbiter -/

/-- At each link `feed` is the state after the outcome there. -/
structure FeedGives (out : Arbiter → Arbiter × Bool) (s : State) (feed : Nat → State) : Prop where
  arbiter : ∀ l < 64, arbiterAt (feed l) l = (out (arbiterAt s l)).1
  orders : ∀ l, (feed l).talk.orders = feedOrders l (out (arbiterAt s l)) s

theorem feedGives_writeFeed {feed : Nat → State} (h : ∀ l, feed l = writeFeed l (out (arbiterAt s l)) s) :
    FeedGives out s feed where
  arbiter l hl := by rw [h, arbiterAt_writeFeed, if_pos ⟨rfl, hl⟩]
  orders l := by rw [h]; rfl

theorem feedGives_requestFeed (k : Nat) (s : State) : FeedGives (requestOutcome (keyAt s) k) s (requestFeed k · s) :=
  feedGives_writeFeed fun l => requestFeed_eq k l s

theorem feedGives_withdrawFeed (k : Nat) (s : State) : FeedGives (withdrawOutcome k) s (withdrawFeed k · s) :=
  feedGives_writeFeed fun l => withdrawFeed_eq k l s

end

end Sys2Proof.Machine
end

section
namespace Sys2Proof.Proofs
open Sys2Proof.Machine

/-- Settles O38: each key event is `turnKey` with the outcome of a request or of a withdrawal, or nothing. -/
theorem keyEvents : Obligations.KeyEvents := by
  unfold Obligations.KeyEvents
  constructor
  case right =>
    intro p k s hk
    exact ⟨fun hm => congrArg _ (takeRequest_refused hm (if_pos hk)),
      fun hm => congrArg _ (takeRequest_refused hm (if_pos hk))⟩
  case left =>
  intro k s hk hlaw hd key become items accepted ignored
  obtain ⟨harbiters, hroles⟩ := hlaw
  have hk' : k < 32 := by omega
  have becomes {active out feed u t} (hu : SameUnits s u) (hfeed : FeedGives out s feed)
      (hout : ∀ l, RoleTurned k active out (arbiterAt s l)) (h : KeyTurned k active out u t) : become active feed t := by
    obtain ⟨ports, held, rfl⟩ := hu
    refine ⟨h.keys, h.statuses, fun l hl => ⟨?_, ?_, ?_, ?_⟩, fun hoff l => ?_, fun l hl => ⟨?_, ?_⟩,
      h.otherOrders, h.pending, ?_⟩
    · rw [h.arbiters l hl]; exact (hout l).role
    · rw [h.arbiters l hl, hfeed.arbiter l (mem_eligible_lt hl)]; rfl
    · rw [h.cues]; exact if_pos hl
    · intro o ho
      rw [h.orders l hl o ho, hfeed.orders]; rfl
    · by_cases hl : l ∈ eligibleDestinations s k
      · rw [h.arbiters l hl, ← hoff]; exact (hout l).role
      · rw [h.otherArbiters l hl]
        refine Bool.eq_false_iff.2 fun hrole => hl ?_
        obtain ⟨-, hcamera, hdest⟩ := hroles l k hrole
        exact List.mem_filter.2 ⟨hdest, hcamera⟩
    · exact h.otherArbiters l hl
    · rw [h.cues]; exact if_neg hl
    · rw [h.frame]
      exact ⟨rfl, rfl, rfl, rfl, rfl, rfl, rfl, rfl, rfl, rfl, rfl, rfl, rfl⟩
  have activated {u} (hu : SameUnits s u) :
      become true (requestFeed k · s) (activateKey k u) ∧ (activateKey k u).ports = u.ports := by
    have hturned := keyTurned_activateKey hk' (hu.outputsDistinct hd)
    rw [hu.keyAt] at hturned
    exact ⟨becomes hu (feedGives_requestFeed k s) (fun l => roleTurned_requestOutcome _ k _) hturned,
      by rw [hturned.frame]⟩
  have deactivated {u} (hu : SameUnits s u) :
      become false (withdrawFeed k · s) (deactivateKey k u) ∧ (deactivateKey k u).ports = u.ports := by
    have hturned := keyTurned_deactivateKey hk' (hu.arbiterLaw harbiters) (hu.outputsDistinct hd)
    refine ⟨becomes hu (feedGives_withdrawFeed k s) (fun l => roleTurned_withdrawOutcome ?_) hturned,
      by rw [hturned.frame]⟩
    obtain ⟨-, -, -, -, hnodup⟩ := harbiters l
    exact hnodup
  have hmessage : SameUnits s (completeMessage .keypanel s) := sameUnits_completeMessage _ s
  have hframe (p : Port) : SameUnits s (completeFrame p s) := sameUnits_completeFrame p s
  have accepted_of {message code request active feed} {event : State → State}
      (hmessage : exec message s = .next (event (completeMessage .keypanel s)))
      (hrequest : ∀ p, MaySend p code s → exec (request p) s =
        .next (answered p code (pressedItems (event (completeFrame p s)) k) (event (completeFrame p s))))
      (h : ∀ u, SameUnits s u → become active feed (event u) ∧ (event u).ports = u.ports) :
      accepted message code request active feed := by
    obtain ⟨hbecome, hports⟩ := h _ (sameUnits_completeMessage .keypanel s)
    exact ⟨⟨_, hmessage, hbecome, hports⟩, fun p hm => ⟨_, (h _ (sameUnits_completeFrame p s)).1, hrequest p hm⟩⟩
  have ignored_of {message code request} {event : State → State}
      (hmessage : exec message s = .next (event (completeMessage .keypanel s)))
      (hrequest : ∀ p, MaySend p code s → exec (request p) s =
        .next (answered p code (pressedItems (event (completeFrame p s)) k) (event (completeFrame p s))))
      (h : ∀ u, SameUnits s u → event u = u) : ignored message code request := by
    refine ⟨hmessage.trans (by rw [h _ (sameUnits_completeMessage .keypanel s)]; rfl), fun p hm => ?_⟩
    rw [hrequest p hm, h _ (sameUnits_completeFrame p s), pressedItems, (sameUnits_completeFrame p s).keyAt]
  have down {active feed} := accepted_of (active := active) (feed := feed) (exec_keyDown_wellFormed hk s)
    fun p => exec_keyPress_answered (p := p) hk
  have up {active feed} := accepted_of (active := active) (feed := feed) (exec_keyUp_wellFormed hk s)
    fun p => exec_keyLift_answered (p := p) hk
  have noDown := ignored_of (exec_keyDown_wellFormed hk s) fun p => exec_keyPress_answered (p := p) hk
  have noUp := ignored_of (exec_keyUp_wellFormed hk s) fun p => exec_keyLift_answered (p := p) hk
  have hkey {u} (hu : SameUnits s u) : keyAt u k = key := by rw [hu.keyAt]
  refine ⟨fun hidle => ⟨down fun u hu => ?_, noUp fun u hu => ?_⟩,
    fun hactive hmode => ⟨down fun u hu => ?_, noUp fun u hu => ?_⟩,
    fun hactive hmode => ⟨noDown fun u hu => ?_, up fun u hu => ?_⟩⟩
  · rw [pressKey_inactive (by rw [hkey hu, hidle])]
    exact activated hu
  · exact liftKey_inactive (by rw [hkey hu, hidle])
  · rw [pressKey_latch (by rw [hkey hu, hactive]) (by rw [hkey hu, hmode])]
    exact deactivated hu
  · exact liftKey_latch (by rw [hkey hu, hmode])
  · exact pressKey_momentary (by rw [hkey hu, hactive]) (by rw [hkey hu, hmode])
  · rw [liftKey_momentary (by rw [hkey hu, hactive]) (by rw [hkey hu, hmode])]
    exact deactivated hu

end Sys2Proof.Proofs
end

section
/-! SUPPORT. The law of one feed arbiter and of the keys that hold its roles (R142, R145), through requests, withdrawals
and selections (R144 to R146). -/

namespace Sys2Proof.Machine

/-- The law of one feed arbiter, with the level of each key (R142, R145). -/
structure ArbiterLawful (level : Nat → Nat) (a : Arbiter) : Prop where
  vacant : a.holder = none → a.saved = [] ∧ a.waiting = []
  below : ∀ h, a.holder = some h → ∀ w ∈ a.saved, level h < w.level
  rising : (a.saved.map Waiter.level).Pairwise (· < ·)
  levels : ∀ w ∈ a.saved ++ a.waiting, w.level = level w.key
  once : (roleKeys a).Nodup

section
variable {a : Arbiter} {k g j v : Nat} {level : Nat → Nat} {keys : Nat → Key} {last : Option Nat} {ls : List Nat}
  {w : Waiter} {ws saved waiting : List Waiter}

/-! ## Sets and stacks of keys -/

theorem addWaiter_perm (w : Waiter) (ws : List Waiter) : (addWaiter w ws).Perm (w :: ws) := by
  induction ws with
  | nil => exact .refl _
  | cons v vs ih =>
    unfold addWaiter
    split
    · exact .refl _
    · exact (ih.cons v).trans (.swap w v vs)

theorem dropWaiter_sublist (k : Nat) (ws : List Waiter) : (dropWaiter k ws).Sublist ws := List.filter_sublist

/-- A set that is not empty has a first index in cyclic order. -/
theorem exists_cyclicNext (last : Option Nat) (h : ls ≠ []) : ∃ x, cyclicNext last ls = some x := by
  obtain ⟨x, xs, rfl⟩ := List.exists_cons_of_ne_nil h
  cases last with
  | none => exact ⟨x, rfl⟩
  | some g =>
    cases hfind : (x :: xs).find? (g < ·) with
    | none => exact ⟨x, by rw [cyclicNext, hfind]; rfl⟩
    | some y => exact ⟨y, by rw [cyclicNext, hfind]; rfl⟩

/-! ## Selection (R146) -/

/-- The pending keys at a level that one of them has: the winner among them is granted. -/
theorem grantWaiting_of_mem (h : ∃ x ∈ a.waiting, x.level = v) : ∃ w ∈ a.waiting, w.level = v ∧
    waitingWinner a v = some w.key ∧ selectHolder.grantWaiting a v =
      { a with
        holder := some w.key, waiting := dropWaiter w.key a.waiting
        lastGranted := put a.lastGranted v (some w.key) } := by
  obtain ⟨x, hx, hlevel⟩ := h
  have hcandidate : x.key ∈ (a.waiting.filter fun w => w.level == v).map Waiter.key :=
    List.mem_map_of_mem (List.mem_filter.2 ⟨hx, by simpa using hlevel⟩)
  obtain ⟨k, hk⟩ := exists_cyclicNext (look a.lastGranted v) (List.ne_nil_of_mem hcandidate)
  obtain ⟨w, hw, rfl⟩ := List.mem_map.1 (cyclicNext_mem hk)
  obtain ⟨hmem, hbest⟩ := List.mem_filter.1 hw
  have hwin : waitingWinner a v = some w.key := hk
  exact ⟨w, hmem, by simpa using hbest, hwin, by rw [selectHolder.grantWaiting, hwin]⟩

/-- What a selection can do, once for all: nobody is left, the saved top has the best level, or a pending key has it
and wins its turn. -/
theorem selectHolder_cases (a : Arbiter) :
    (a.saved = [] ∧ a.waiting = [] ∧ selectHolder a = { a with holder := none }) ∨
    (∃ top rest, a.saved = top :: rest ∧ (∀ w ∈ a.waiting, top.level ≤ w.level) ∧
      selectHolder a = { a with holder := some top.key, saved := rest }) ∨
    ∃ w ∈ a.waiting, (∀ x ∈ a.waiting, w.level ≤ x.level) ∧ (∀ top, a.saved.head? = some top → w.level < top.level) ∧
      waitingWinner a w.level = some w.key ∧ selectHolder a =
        { a with
          holder := some w.key, waiting := dropWaiter w.key a.waiting
          lastGranted := put a.lastGranted w.level (some w.key) } := by
  cases hbest : bestLevel a with
  | none =>
    have hnone : a.saved = [] ∧ a.waiting = [] := by
      rw [bestLevel, List.min?_eq_none_iff, List.map_eq_nil_iff, List.append_eq_nil_iff] at hbest
      exact ⟨by simpa using hbest.1, hbest.2⟩
    exact .inl ⟨hnone.1, hnone.2, by rw [selectHolder, hbest]⟩
  | some v =>
    obtain ⟨hv, hleast⟩ := List.min?_eq_some_iff.1 hbest
    obtain ⟨x, hx, rfl⟩ := List.mem_map.1 hv
    have hwaiting : ∀ y ∈ a.waiting, x.level ≤ y.level := fun y hy =>
      hleast _ (List.mem_map_of_mem (List.mem_append_right _ hy))
    have hsaved : ∀ top, a.saved.head? = some top → x.level ≤ top.level := fun top ht =>
      hleast _ (List.mem_map_of_mem (List.mem_append_left _ (Option.mem_toList.2 ht)))
    by_cases htop : ∃ top, a.saved.head? = some top ∧ top.level = x.level
    · obtain ⟨top, htop, hlevel⟩ := htop
      obtain ⟨rest, hs⟩ := List.head?_eq_some_iff.1 htop
      refine .inr (.inl ⟨top, rest, hs, fun w hw => hlevel ▸ hwaiting w hw, ?_⟩)
      simp only [selectHolder, hbest, hs, hlevel, if_true]
    · have hgrant : selectHolder a = selectHolder.grantWaiting a x.level := by
        cases hs : a.saved with
        | nil => simp only [selectHolder, hbest, hs]
        | cons top rest =>
          have hne : top.level ≠ x.level := fun h => htop ⟨top, by rw [hs]; rfl, h⟩
          simp only [selectHolder, hbest, hs, hne, if_false]
      have hx : x ∈ a.waiting := (List.mem_append.1 hx).resolve_left fun h => htop ⟨x, Option.mem_toList.1 h, rfl⟩
      obtain ⟨w, hw, hlevel, hwin, heq⟩ := grantWaiting_of_mem ⟨x, hx, rfl⟩
      rw [← hlevel] at hwaiting hsaved htop hwin heq
      refine .inr (.inr ⟨w, hw, hwaiting, fun top ht => ?_, hwin, by rw [hgrant, ← hlevel, heq]⟩)
      exact lt_of_le_of_ne (hsaved top ht) fun h => htop ⟨top, ht, h.symm⟩

/-! ## The law of an arbiter (R142) -/

/-- Keys leave the stack and the pending set. -/
theorem ArbiterLawful.sublist (h : ArbiterLawful level a) (hs : saved.Sublist a.saved)
    (hw : waiting.Sublist a.waiting) : ArbiterLawful level { a with saved := saved, waiting := waiting } where
  vacant hn := by
    obtain ⟨hsaved, hwaiting⟩ := h.vacant hn
    exact ⟨List.sublist_nil.1 (hsaved ▸ hs), List.sublist_nil.1 (hwaiting ▸ hw)⟩
  below g hg w hw' := h.below g hg w (hs.subset hw')
  rising := h.rising.sublist (hs.map _)
  levels w hw' := h.levels w ((hs.append hw).subset hw')
  once := h.once.sublist (((List.Sublist.refl _).append (hs.map _)).append (hw.map _))

/-- A selection keeps the law: the saved top lies above the rest of its stack, and a pending key that wins above the
whole of it. -/
theorem ArbiterLawful.selectHolder (h : ArbiterLawful level a) : ArbiterLawful level (selectHolder a) := by
  obtain ⟨-, honce, -⟩ := List.nodup_append'.1 (by simpa only [roleKeys, List.append_assoc] using h.once)
  rcases selectHolder_cases a with ⟨hsaved, hwaiting, heq⟩ | ⟨top, rest, hsaved, -, heq⟩ |
    ⟨w, hw, -, hbelow, -, heq⟩
  · rw [heq]
    exact ⟨fun _ => ⟨hsaved, hwaiting⟩, nofun, h.rising, h.levels, honce⟩
  · have hlevels := h.levels
    have hrising := h.rising
    rw [hsaved] at hlevels hrising honce
    obtain ⟨htop, hrest⟩ := List.pairwise_cons.1 hrising
    rw [heq]
    refine ⟨nofun, ?belowTop, hrest, fun x hx => hlevels x (List.mem_cons_of_mem top hx), honce⟩
    rintro _ ⟨⟩ x hx
    rw [← hlevels top List.mem_cons_self]
    exact htop _ (List.mem_map_of_mem hx)
  · have hdrop := dropWaiter_sublist w.key a.waiting
    have hkey : w.level = level w.key := h.levels w (List.mem_append_right _ hw)
    rw [heq]
    refine ⟨nofun, ?below, h.rising, fun x hx => h.levels x (((List.Sublist.refl _).append hdrop).subset hx), ?once⟩
    case below =>
      rintro _ ⟨⟩ x hx
      obtain ⟨top, rest, hsaved⟩ := List.exists_cons_of_ne_nil (List.ne_nil_of_mem hx)
      have htop : w.level < top.level := hbelow top (by rw [hsaved]; rfl)
      have hrising := h.rising
      rw [hsaved] at hx hrising
      rw [← hkey]
      rcases List.mem_cons.1 hx with rfl | hx
      · exact htop
      · exact htop.trans ((List.pairwise_cons.1 hrising).1 _ (List.mem_map_of_mem hx))
    case once =>
      show (w.key :: (a.saved.map Waiter.key ++ (dropWaiter w.key a.waiting).map Waiter.key)).Nodup
      refine List.nodup_cons.2 ⟨fun hmem => ?_, honce.sublist ((List.Sublist.refl _).append (hdrop.map _))⟩
      rcases List.mem_append.1 hmem with hmem | hmem
      · exact (List.nodup_append'.1 honce).2.2 hmem (List.mem_map_of_mem hw)
      · exact (mem_map_dropWaiter.1 hmem).2 rfl

/-- A withdrawal keeps the law (R145). -/
theorem ArbiterLawful.withdrawOutcome (h : ArbiterLawful level a) (k : Nat) :
    ArbiterLawful level (withdrawOutcome k a).1 := by
  unfold Machine.withdrawOutcome
  split
  · exact h.selectHolder
  · split
    · exact h.sublist (dropWaiter_sublist k a.saved) (.refl _)
    · split
      · exact h.sublist (.refl _) (dropWaiter_sublist k a.waiting)
      · exact h

/-! ## Requests (R144) -/

theorem requestOutcome_of_role (keys : Nat → Key) (h : hasRole k a = true) : requestOutcome keys k a = (a, false) :=
  if_pos h

theorem requestOutcome_vacant (keys : Nat → Key) (h : hasRole k a = false) (hh : a.holder = none) :
    requestOutcome keys k a = ({ a with holder := some k }, true) := by
  rw [requestOutcome, if_neg (Bool.eq_false_iff.1 h), hh]

theorem requestOutcome_preempts (h : hasRole k a = false) (hh : a.holder = some g)
    (hlevel : (keys k).level < (keys g).level) (hlocked : (keys g).locked = false) :
    requestOutcome keys k a = ({ a with holder := some k, saved := ⟨g, (keys g).level⟩ :: a.saved }, true) := by
  rw [requestOutcome, if_neg (Bool.eq_false_iff.1 h), hh]
  exact if_pos (by simp [hlevel, hlocked])

theorem requestOutcome_waits (h : hasRole k a = false) (hh : a.holder = some g)
    (hwaits : (keys g).level ≤ (keys k).level ∨ (keys g).locked = true) :
    requestOutcome keys k a = ({ a with waiting := addWaiter ⟨k, (keys k).level⟩ a.waiting }, false) := by
  rw [requestOutcome, if_neg (Bool.eq_false_iff.1 h), hh]
  refine if_neg fun hpreempts => ?_
  obtain ⟨hlower, hunlocked⟩ := Bool.and_eq_true_iff.1 hpreempts
  rcases hwaits with hlevel | hlocked
  · exact absurd (of_decide_eq_true hlower) (not_lt.2 hlevel)
  · rw [hlocked] at hunlocked
    cases hunlocked

/-- What a request of a key without a role can do, once for all. -/
theorem requestOutcome_cases (keys : Nat → Key) (h : hasRole k a = false) :
    (a.holder = none ∧ requestOutcome keys k a = ({ a with holder := some k }, true)) ∨
    (∃ g, a.holder = some g ∧ (keys k).level < (keys g).level ∧
      requestOutcome keys k a = ({ a with holder := some k, saved := ⟨g, (keys g).level⟩ :: a.saved }, true)) ∨
    ∃ g, a.holder = some g ∧
      requestOutcome keys k a = ({ a with waiting := addWaiter ⟨k, (keys k).level⟩ a.waiting }, false) := by
  rcases Option.eq_none_or_eq_some a.holder with hh | ⟨g, hh⟩
  · exact .inl ⟨hh, requestOutcome_vacant keys h hh⟩
  · by_cases hp : (keys k).level < (keys g).level ∧ (keys g).locked = false
    · exact .inr (.inl ⟨g, hh, hp.1, requestOutcome_preempts h hh hp.1 hp.2⟩)
    · rw [not_and_or, not_lt, Bool.not_eq_false] at hp
      exact .inr (.inr ⟨g, hh, requestOutcome_waits h hh hp⟩)

/-- A request gives its key a role, and the other roles stay with their keys. -/
theorem roleKeys_requestOutcome (keys : Nat → Key) (h : hasRole k a = false) :
    (roleKeys (requestOutcome keys k a).1).Perm (k :: roleKeys a) := by
  rcases requestOutcome_cases keys h with ⟨hh, heq⟩ | ⟨g, hh, -, heq⟩ | ⟨g, hh, heq⟩
  · simp only [heq, roleKeys, hh]
    exact .refl _
  · simp only [heq, roleKeys, hh]
    exact .refl _
  · rw [heq]
    exact (((addWaiter_perm ⟨k, (keys k).level⟩ a.waiting).map Waiter.key).append_left _).trans List.perm_middle

theorem mem_roleKeys_requestOutcome (keys : Nat → Key) (k : Nat) (a : Arbiter) :
    j ∈ roleKeys (requestOutcome keys k a).1 ↔ j = k ∨ j ∈ roleKeys a := by
  cases hrole : hasRole k a with
  | true =>
    rw [requestOutcome_of_role keys hrole]
    refine (or_iff_right_of_imp ?_).symm
    rintro rfl
    exact hasRole_iff.1 hrole
  | false => rw [(roleKeys_requestOutcome keys hrole).mem_iff, List.mem_cons]

/-- A request keeps the law: a key is pushed only beneath a holder of lower level (R142). -/
theorem ArbiterLawful.requestOutcome (h : ArbiterLawful (fun j => (keys j).level) a) (k : Nat) :
    ArbiterLawful (fun j => (keys j).level) (requestOutcome keys k a).1 := by
  cases hrole : hasRole k a with
  | true =>
    rw [requestOutcome_of_role keys hrole]
    exact h
  | false =>
    have honce : (roleKeys (Machine.requestOutcome keys k a).1).Nodup := by
      refine (roleKeys_requestOutcome keys hrole).nodup_iff.2 (List.nodup_cons.2 ⟨fun hk => ?_, h.once⟩)
      rw [hasRole_iff.2 hk] at hrole
      cases hrole
    rcases requestOutcome_cases keys hrole with ⟨hh, heq⟩ | ⟨g, hh, hlower, heq⟩ | ⟨g, hh, heq⟩
    all_goals rw [heq] at honce ⊢
    · obtain ⟨hsaved, -⟩ := h.vacant hh
      refine ⟨nofun, fun _ _ w hw => ?_, h.rising, h.levels, honce⟩
      rw [hsaved] at hw
      cases hw
    · refine ⟨nofun, ?below, List.pairwise_cons.2 ⟨?rising, h.rising⟩, List.forall_mem_cons.2 ⟨rfl, h.levels⟩, honce⟩
      case below =>
        rintro _ ⟨⟩
        exact List.forall_mem_cons.2 ⟨hlower, fun w hw => hlower.trans (h.below g hh w hw)⟩
      case rising =>
        intro _ hx
        obtain ⟨w, hw, rfl⟩ := List.mem_map.1 hx
        exact h.below g hh w hw
    · refine ⟨fun hn => ?_, h.below, h.rising, fun w hw => ?levels, honce⟩
      · cases hh.symm.trans hn
      · rcases List.mem_append.1 hw with hw | hw
        · exact h.levels w (List.mem_append_left _ hw)
        · rcases List.mem_cons.1 ((addWaiter_perm _ _).subset hw) with rfl | hw
          · rfl
          · exact h.levels w (List.mem_append_right _ hw)

end

end Sys2Proof.Machine
end

section
/-! SUPPORT. The law of the feed arbiters link by link, and what keeps it: the keys' requests and withdrawals, the
enrollment and the retirement of a link (R137, R141, R142, R145, R148, R149). -/

namespace Sys2Proof.Machine

/-- The law of the arbiter of link `l`, and of the keys that hold its roles (R142, R145). -/
structure FeedLawAt (keys : Nat → Key) (eligible : Bool) (l : Nat) (a : Arbiter) : Prop where
  lawful : ArbiterLawful (fun k => (keys k).level) a
  belong : ∀ k ∈ roleKeys a, (keys k).active = true ∧ eligible = true ∧ l ∈ (keys k).destinations

section
variable {s t u v : State} {a b : Arbiter} {k l j : Nat} {ks ls : List Nat} {keys keys' : Nat → Key} {eligible : Bool}
  {level level' : Nat → Nat} {active : Bool} {out : Arbiter → Arbiter × Bool} {e : EnrolledLink}

theorem feedLaw_iff : FeedLaw s ↔ ∀ l, FeedLawAt (keyAt s) (isCamera s l) l (arbiterAt s l) := by
  constructor
  · rintro ⟨hlaw, hbelong⟩ l
    obtain ⟨hvacant, hbelow, hrising, hlevels, honce⟩ := hlaw l
    exact ⟨⟨hvacant, hbelow, hrising, hlevels, honce⟩, fun k hk => hbelong l k (hasRole_iff.2 hk)⟩
  · intro h
    refine ⟨fun l => ?_, fun l k hk => (h l).belong k (hasRole_iff.1 hk)⟩
    obtain ⟨hvacant, hbelow, hrising, hlevels, honce⟩ := (h l).lawful
    exact ⟨hvacant, hbelow, hrising, hlevels, honce⟩

/-! ## One arbiter -/

/-- The law asks for the levels of the keys with a role alone. -/
theorem ArbiterLawful.of_levels (h : ArbiterLawful level a) (hsame : ∀ k ∈ roleKeys a, level' k = level k) :
    ArbiterLawful level' a where
  vacant := h.vacant
  below g hg w hw := by
    rw [hsame g (by simp [roleKeys, hg])]
    exact h.below g hg w hw
  rising := h.rising
  levels w hw := by
    rw [hsame w.key (by
      rw [roleKeys, List.append_assoc, ← List.map_append]
      exact List.mem_append_right _ (List.mem_map_of_mem hw))]
    exact h.levels w hw
  once := h.once

/-- The keys with a role keep what the law asks of them. -/
theorem FeedLawAt.of_keys (h : FeedLawAt keys eligible l a) (hsame : ∀ k ∈ roleKeys a,
    (keys' k).level = (keys k).level ∧ (keys' k).active = true ∧ (keys' k).destinations = (keys k).destinations) :
    FeedLawAt keys' eligible l a where
  lawful := h.lawful.of_levels fun k hk => (hsame k hk).1
  belong k hk := by
    obtain ⟨-, hactive, hdest⟩ := hsame k hk
    obtain ⟨-, heligible, hl⟩ := h.belong k hk
    exact ⟨hactive, heligible, hdest ▸ hl⟩

/-- No key holds a role where the link is no eligible destination, so that the link may become one. -/
theorem FeedLawAt.of_not_eligible (h : FeedLawAt keys false l a) : FeedLawAt keys eligible l a :=
  ⟨h.lawful, fun k hk => by obtain ⟨-, hf, -⟩ := h.belong k hk; cases hf⟩

theorem feedLawAt_of_empty (hh : a.holder = none) (hs : a.saved = []) (hw : a.waiting = []) :
    FeedLawAt keys eligible l a := by
  have hroles : roleKeys a = [] := by rw [roleKeys, hh, hs, hw]; rfl
  refine ⟨⟨fun _ => ⟨hs, hw⟩, fun g hg => ?_, by rw [hs]; exact .nil, by rw [hs, hw]; exact nofun, ?_⟩, ?_⟩
  · cases hh.symm.trans hg
  · rw [hroles]; exact .nil
  · rw [hroles]; exact nofun

/-- A default input is no matter of the law (R143). -/
theorem FeedLawAt.of_defaultInput (h : FeedLawAt keys eligible l a)
    (hb : b = { a with defaultInput := b.defaultInput }) : FeedLawAt keys eligible l b := by
  obtain ⟨⟨hvacant, hbelow, hrising, hlevels, honce⟩, hbelong⟩ := h
  rw [hb]
  exact ⟨⟨hvacant, hbelow, hrising, hlevels, honce⟩, hbelong⟩

/-- An active key requests one of its destinations (R144). -/
theorem FeedLawAt.requestOutcome (h : FeedLawAt keys true l a) (hactive : (keys k).active = true)
    (hdest : l ∈ (keys k).destinations) : FeedLawAt keys true l (requestOutcome keys k a).1 where
  lawful := h.lawful.requestOutcome k
  belong j hj := by
    rcases (mem_roleKeys_requestOutcome keys k a).1 hj with rfl | hj
    · exact ⟨hactive, rfl, hdest⟩
    · exact h.belong j hj

theorem roleKeys_withdrawOutcome_subset (k : Nat) (a : Arbiter) :
    roleKeys (withdrawOutcome k a).1 ⊆ roleKeys a := by
  intro j hj
  unfold withdrawOutcome at hj
  split at hj
  · rw [roleKeys, List.append_assoc]
    exact List.mem_append_right _ (roleKeys_selectHolder hj)
  · split at hj
    · exact (((List.Sublist.refl _).append ((dropWaiter_sublist k a.saved).map _)).append (.refl _)).subset hj
    · split at hj
      · exact ((List.Sublist.refl _).append ((dropWaiter_sublist k a.waiting).map _)).subset hj
      · exact hj

/-- A withdrawal leaves no role to a key but those it had (R145). -/
theorem FeedLawAt.withdrawOutcome (h : FeedLawAt keys eligible l a) (k : Nat) :
    FeedLawAt keys eligible l (withdrawOutcome k a).1 :=
  ⟨h.lawful.withdrawOutcome k, fun j hj => h.belong j (roleKeys_withdrawOutcome_subset k a hj)⟩

/-! ## States with the same feeds -/

/-- The keys keep all but their statuses, and the arbiters all but their default inputs. -/
theorem feedLaw_of_kept (hkeys : KeysKept s t) (hcamera : isCamera t = isCamera s)
    (harbiters : ∀ l, arbiterAt t l = { arbiterAt s l with defaultInput := (arbiterAt t l).defaultInput })
    (hs : FeedLaw s) : FeedLaw t := by
  refine feedLaw_iff.2 fun l => ?_
  have hl := feedLaw_iff.1 hs l
  rw [hcamera]
  refine (hl.of_keys fun k hk => ?_).of_defaultInput (harbiters l)
  rw [hkeys k]
  exact ⟨rfl, (hl.belong k hk).1, rfl⟩

theorem keysKept_of_keys (h : t.talk.keys = s.talk.keys) : KeysKept s t := fun k => by rw [keyAt, keyAt, h]

/-- The feed unit keeps its keys and arbiters, and the entries what is shown of them. -/
theorem feedLaw_of_talk (hkeys : t.talk.keys = s.talk.keys) (harbiters : t.talk.arbiters = s.talk.arbiters)
    (hcamera : isCamera t = isCamera s) : FeedLaw s → FeedLaw t :=
  feedLaw_of_kept (keysKept_of_keys hkeys) hcamera fun l => by rw [arbiterAt, arbiterAt, harbiters]

theorem feedLaw_of_display (h : display t = display s) : FeedLaw s → FeedLaw t :=
  feedLaw_of_talk (congrArg Display.keys h) (congrArg Display.arbiters h)
    (isCamera_of_shown fun l => congrArg (fun d : Display => d.links l) h)

theorem feedLaw_refreshStatuses (hs : FeedLaw s) : FeedLaw (refreshStatuses s) := by
  have hframe := refreshStatuses_frame s
  have hkept : KeysKept s (refreshStatuses s) := keysKept_refreshStatuses (y := s) rfl
  generalize refreshStatuses s = t at hframe hkept
  refine feedLaw_of_kept hkept ?_ (fun l => ?_) hs
  · rw [hframe]; rfl
  · rw [hframe]; rfl

theorem feedLaw_statusesAfter (camera : Bool) (hs : FeedLaw s) : FeedLaw (statusesAfter camera s) := by
  cases camera with
  | false => exact hs
  | true =>
    rw [show statusesAfter true s = refreshStatuses s from rfl]
    exact feedLaw_refreshStatuses hs

theorem CuesFollow.feedLaw (h : CuesFollow ls s t) (hs : FeedLaw s) : FeedLaw t :=
  feedLaw_of_talk (by rw [h.talk]) (by rw [h.talk]) (funext fun l => isCamera_of_entry (congrFun h.entries l)) hs

/-! ## Key events (R141) -/

/-- An event that happens once at each arbiter, however often its link stands in the run. -/
theorem arbiterAt_turnFeeds (hls : ∀ l ∈ ls, l < 64)
    (hagain : ∀ l, out (out (arbiterAt s l)).1 = ((out (arbiterAt s l)).1, false)) (j : Nat) :
    arbiterAt (turnFeeds out ls s) j = if j ∈ ls then (out (arbiterAt s j)).1 else arbiterAt s j := by
  induction ls generalizing s with
  | nil => rfl
  | cons l ls ih =>
    have hfirst (m : Nat) : arbiterAt (writeFeed l (out (arbiterAt s l)) s) m =
        if m = l then (out (arbiterAt s m)).1 else arbiterAt s m := by
      rw [arbiterAt_writeFeed]
      by_cases hm : m = l
      · subst hm
        rw [if_pos ⟨rfl, hls m List.mem_cons_self⟩, if_pos rfl]
      · rw [if_neg fun h => hm h.1.symm, if_neg hm]
    refine (ih (fun m hm => hls m (List.mem_cons_of_mem l hm)) fun m => ?_).trans ?_
    · rw [hfirst]
      split
      · rw [hagain, hagain]
      · exact hagain m
    · simp only [hfirst, List.mem_cons]
      by_cases hj : j = l
      · simp only [hj, if_true, true_or, hagain, ite_self]
      · simp only [hj, if_false, false_or]

/-- A key turns: the law asks it of the arbiters after the event at the key's eligible destinations. -/
theorem feedLaw_turnKey (hk : k < 32) (hout : ∀ l, RoleTurned k active out (arbiterAt s l))
    (h : ∀ l, FeedLawAt (fun j => { keyAt s j with active := if j = k then active else (keyAt s j).active })
      (isCamera s l) l (if l ∈ eligibleDestinations s k then (out (arbiterAt s l)).1 else arbiterAt s l)) :
    FeedLaw (turnKey k active out s) := by
  have hkeys := funext (keyAt_setActive (s := s) (active := active) hk)
  have hcamera : isCamera (setKey k { keyAt s k with active := active } s) = isCamera s := rfl
  have hsame : arbiterAt (setKey k { keyAt s k with active := active } s) = arbiterAt s := rfl
  unfold turnKey
  generalize setKey k { keyAt s k with active := active } s = u at hkeys hcamera hsame
  refine feedLaw_refreshStatuses ((cuesFollow_recomputeCues _ _).feedLaw (feedLaw_iff.2 fun l => ?_))
  have hchanged : FeedsChanged (eligibleDestinations s k) u (turnFeeds out (eligibleDestinations s k) u) :=
    feedsChanged_foldl (fun l hl v => feedsChanged_writeFeed (out (arbiterAt v l)) hl) u
  have harbiter := arbiterAt_turnFeeds (s := u) (out := out) (ls := eligibleDestinations s k)
    (fun l hl => mem_eligible_lt hl) (fun l => by rw [hsame]; exact (hout l).again) l
  rw [harbiter, hchanged.keys, isCamera_of_entry (congrFun hchanged.entries l), hkeys, hcamera, hsame]
  exact h l

theorem feedLaw_activateKey (hk : k < 32) (hs : FeedLaw s) : FeedLaw (activateKey k s) := by
  rw [activateKey_eq hk]
  refine feedLaw_turnKey hk (fun l => roleTurned_requestOutcome _ k _) fun l => ?_
  have hl := feedLaw_iff.1 hs l
  have hkept := hl.of_keys
    (keys' := fun j => { keyAt s j with active := if j = k then true else (keyAt s j).active }) fun j hj =>
      ⟨rfl, by dsimp only; rw [(hl.belong j hj).1, ite_self], rfl⟩
  split
  · next hmem =>
    obtain ⟨hdest, hcamera⟩ := List.mem_filter.1 hmem
    rw [hcamera] at hkept ⊢
    rw [requestOutcome_congr (keys := keyAt s) fun _ => ⟨rfl, rfl⟩]
    exact hkept.requestOutcome (if_pos rfl) hdest
  · exact hkept

theorem feedLaw_deactivateKey (hk : k < 32) (hs : FeedLaw s) : FeedLaw (deactivateKey k s) := by
  have hturned (l : Nat) : RoleTurned k false (withdrawOutcome k) (arbiterAt s l) :=
    roleTurned_withdrawOutcome (feedLaw_iff.1 hs l).lawful.once
  rw [deactivateKey_eq hk]
  refine feedLaw_turnKey hk hturned fun l => ?_
  have hl := feedLaw_iff.1 hs l
  have hnow : FeedLawAt (keyAt s) (isCamera s l) l
      (if l ∈ eligibleDestinations s k then (withdrawOutcome k (arbiterAt s l)).1 else arbiterAt s l) := by
    split
    · exact hl.withdrawOutcome k
    · exact hl
  refine hnow.of_keys fun j hj => ⟨rfl, ?_, rfl⟩
  have hne : j ≠ k := by
    rintro rfl
    split at hj
    · have hrole := (hturned l).role
      rw [hasRole_iff.2 hj] at hrole
      cases hrole
    · next hmem =>
      obtain ⟨-, hcamera, hdest⟩ := hl.belong j hj
      exact hmem (List.mem_filter.2 ⟨hdest, hcamera⟩)
  dsimp only
  rw [if_neg hne]
  exact (hnow.belong j hj).1

theorem feedLaw_pressKey (hk : k < 32) (hs : FeedLaw s) : FeedLaw (pressKey k s) := by
  unfold pressKey
  dsimp only
  split
  · exact feedLaw_activateKey hk hs
  · exact feedLaw_deactivateKey hk hs
  · exact hs

theorem feedLaw_liftKey (hk : k < 32) (hs : FeedLaw s) : FeedLaw (liftKey k s) := by
  unfold liftKey
  dsimp only
  split
  · exact feedLaw_deactivateKey hk hs
  · exact hs

/-- An inactive key holds no role, whatever is written of it (R137, R138). -/
theorem feedLaw_setKey_inactive {key : Key} (hidle : (keyAt s k).active = false) (hs : FeedLaw s) :
    FeedLaw (setKey k key s) := by
  refine feedLaw_iff.2 fun l => (feedLaw_iff.1 hs l).of_keys fun j hj => ?_
  obtain ⟨hactive, -, -⟩ := (feedLaw_iff.1 hs l).belong j hj
  have hne : k ≠ j := by
    rintro rfl
    rw [hidle] at hactive
    cases hactive
  rw [keyAt_setKey, if_neg fun h => hne h.1]
  exact ⟨rfl, hactive, rfl⟩

/-! ## Links (R148, R149) -/

/-- Requests of several keys at one link's arbiter, one after another. -/
theorem arbiterAt_requestFeeds (hl : l < 64) (ks : List Nat) (s : State) :
    arbiterAt (ks.foldl (fun s k => requestFeed k l s) s) l =
      ks.foldl (fun a k => (requestOutcome (keyAt s) k a).1) (arbiterAt s l) := by
  induction ks generalizing s with
  | nil => rfl
  | cons k ks ih =>
    rw [List.foldl_cons, ih, requestFeed_eq, arbiterAt_writeFeed, if_pos ⟨rfl, hl⟩]
    rfl

/-- The active keys whose destinations contain the link, in ascending order (R148). -/
def requesters (l : Nat) (s : State) : List Nat :=
  indicesWhere s.talk.keys fun key => key.active && key.destinations.contains l

theorem mem_requesters : k ∈ requesters l s ↔ k < 32 ∧ (keyAt s k).active = true ∧ l ∈ (keyAt s k).destinations := by
  simp [requesters, mem_indicesWhere, keyAt]

/-- A seeding orders the default input and then makes the requests (R148). -/
theorem seedArbiter_eq (l : Nat) (s : State) : seedArbiter l s = (requesters l s).foldl
    (fun s k => requestFeed k l s) (writeFeed l (clearedArbiter (arbiterAt s l), true) s) := by
  unfold seedArbiter
  dsimp only
  rw [orderFeed_setArbiter]
  rfl

/-- The arbiter of a new CAMERA (R148). -/
theorem arbiterAt_seedArbiter (hl : l < 64) (s : State) : arbiterAt (seedArbiter l s) l =
    (requesters l s).foldl (fun a k => (requestOutcome (keyAt s) k a).1) (clearedArbiter (arbiterAt s l)) := by
  rw [seedArbiter_eq, arbiterAt_requestFeeds hl, arbiterAt_writeFeed, if_pos ⟨rfl, hl⟩]
  rfl

theorem FeedLawAt.requests (h : FeedLawAt keys true l a)
    (hks : ∀ k ∈ ks, (keys k).active = true ∧ l ∈ (keys k).destinations) :
    FeedLawAt keys true l (ks.foldl (fun a k => (Machine.requestOutcome keys k a).1) a) := by
  induction ks generalizing a with
  | nil => exact h
  | cons k ks ih =>
    obtain ⟨hactive, hdest⟩ := hks k List.mem_cons_self
    exact ih (h.requestOutcome hactive hdest) fun j hj => hks j (List.mem_cons_of_mem k hj)

/-- The law is kept at the other links of an event whose feed changes stand at one link alone. -/
theorem FeedsChanged.feedLaw (h : FeedsChanged [l] u v) (hkeys : keyAt u = keyAt s)
    (hcamera : ∀ j, j ≠ l → isCamera u j = isCamera s j) (harbiters : ∀ j, arbiterAt u j = arbiterAt s j)
    (hs : FeedLaw s) (hl : FeedLawAt (keyAt s) (isCamera u l) l (arbiterAt v l)) : FeedLaw v := by
  refine feedLaw_iff.2 fun j => ?_
  rw [h.keys, hkeys, isCamera_of_entry (congrFun h.entries j)]
  by_cases hj : j = l
  · rw [hj]
    exact hl
  · rw [h.others j (by simpa using hj), hcamera j hj, harbiters]
    exact feedLaw_iff.1 hs j

/-- An entry that was not ENROLLED is enrolled: its arbiter, which no key had a role at, is seeded where it is a CAMERA
(R73, R148). -/
theorem feedLaw_enroll (e : EnrolledLink) (hfree : (entry s l).isEnrolled = false) (hs : FeedLaw s) :
    FeedLaw (enroll l e s) := by
  unfold enroll
  dsimp only
  generalize hu : markChanged l (setEntry l (.enrolled e) s) = u
  have hother (j : Nat) (hj : j ≠ l) : entry u j = entry s j := by
    rw [← hu, entry_markChanged, entry_setEntry, if_neg fun h => hj h.1.symm]
  have hkeys : keyAt u = keyAt s := by rw [← hu]; rfl
  have harbiters (j : Nat) : arbiterAt u j = arbiterAt s j := by rw [← hu]; rfl
  refine feedLaw_statusesAfter _ ((cuesFollow_recomputeCue l _).feedLaw ?_)
  refine (feedsChanged_becomeDestination l u).feedLaw hkeys (fun j hj => isCamera_of_entry (hother j hj)) harbiters
    hs ?_
  unfold becomeDestination
  cases hcamera : isCamera u l with
  | false =>
    have hl := feedLaw_iff.1 hs l
    rw [isCamera_of_not_enrolled hfree, ← harbiters] at hl
    exact hl.of_not_eligible
  | true =>
    rw [if_pos rfl, arbiterAt_seedArbiter (lt_of_isCamera hcamera), hkeys]
    refine (feedLawAt_of_empty rfl rfl rfl).requests fun k hk => ?_
    rw [← hkeys]
    exact (mem_requesters.1 hk).2

/-- A link's entry leaves ENROLLED: a CAMERA's arbiter is cleared, a MIC's held no role (R75, R149). -/
theorem feedLaw_leave (l : Nat) (hs : FeedLaw s) :
    FeedLaw (leaveDestination l (cameraOutput s l) (darken l (unbind l s))) := by
  obtain ⟨-, htalk⟩ := unbind_blocks l s
  have hkeys : keyAt (darken l (unbind l s)) = keyAt s := by
    funext k
    exact congrArg (fun x : Talkback => look x.keys k) htalk
  have harbiters (j : Nat) : arbiterAt (darken l (unbind l s)) j = arbiterAt s j :=
    congrArg (fun x : Talkback => look x.arbiters j) htalk
  refine (feedsChanged_leaveDestination l (cameraOutput s l) _).feedLaw hkeys
    (fun j hj => isCamera_of_entry (entry_unbind_ne hj)) harbiters hs ?_
  cases ho : cameraOutput s l with
  | none =>
    have hl := feedLaw_iff.1 hs l
    rw [isCamera, ho, ← harbiters] at hl
    exact hl.of_not_eligible
  | some o =>
    have hcleared : arbiterAt (leaveDestination l (some o) (darken l (unbind l s))) l =
        clearedArbiter (arbiterAt (darken l (unbind l s)) l) :=
      (arbiterAt_setArbiter ..).trans (if_pos ⟨rfl, cameraOutput_lt ho⟩)
    rw [hcleared]
    exact feedLawAt_of_empty rfl rfl rfl

theorem feedLaw_retire (l : Nat) (hs : FeedLaw s) : FeedLaw (retire l s) := by
  have hdisplay : display (abortRetune .retired l s) = display s := display_abortRetune s .retired l
  have hout : cameraOutput s l = cameraOutput (abortRetune .retired l s) l := by
    rw [cameraOutput_shown, cameraOutput_shown]
    exact congrArg (fun d : Display => (d.links l).bind Prod.snd) hdisplay.symm
  unfold retire
  dsimp only
  rw [hout]
  refine feedLaw_of_display (display_markChanged _ l) (feedLaw_statusesAfter _ ?_)
  exact feedLaw_of_display (by simp) (feedLaw_leave l (feedLaw_of_display hdisplay hs))

/-! ## The resets (R142, R150) -/

theorem feedLaw_warmRestart (s : State) : FeedLaw (warmRestart s) := by
  refine feedLaw_iff.2 fun l => ?_
  by_cases hl : l < 64
  · rw [arbiterAt_warmRestart s hl]
    exact feedLawAt_of_empty rfl rfl rfl
  · rw [show arbiterAt (warmRestart s) l = default from look_out _ _ (not_lt.1 hl)]
    exact feedLawAt_of_empty rfl rfl rfl

theorem feedLaw_hardwareReset (s : State) :
    FeedLaw { State.reset with pending := s.pending, arriving := s.arriving } := by
  have h := Proofs.lawsHoldAtReset
  unfold Obligations.LawsHoldAtReset at h
  obtain ⟨-, -, -, -, -, -, -, -, -, -, -, -, -, -, -, hfeeds, -, -⟩ := h
  exact hfeeds

end

end Sys2Proof.Machine
end

section
/-! SUPPORT. Every command keeps the law of the feed arbiters (R142, R145). -/

namespace Sys2Proof.Machine

section
variable {s t : State} {k l : Nat}

/-! ## The requests (R138 to R140, R143, R148, R149) -/

/-- A request keeps the law that its rule keeps. -/
theorem feedLaw_takeRequest {p : Port} {c : RequestCode} {rule : State → Verdict}
    (h : ∀ u, FeedLaw u → FeedLaw ((rule u).after u)) (hs : FeedLaw s) : FeedLaw (takeRequest p c rule s) := by
  have hframe : FeedLaw (completeFrame p s) := feedLaw_of_display (display_completeFrame s p) hs
  obtain ⟨r, ht | ht⟩ := takeRequest_after s p c rule
  · rw [ht]
    exact feedLaw_of_display (display_respond _ p r) (h _ hframe)
  · rw [ht]
    exact feedLaw_of_display (display_respond _ p r) hframe

theorem feedLaw_keySetRule (k v m lk src : Nat) (ds : List Nat) (s : State) (hs : FeedLaw s) :
    FeedLaw ((keySetRule k v m lk src ds s).after s) := by
  unfold keySetRule
  split
  · exact hs
  · split
    · dsimp only
      split
      · exact hs
      · next hidle => exact feedLaw_setKey_inactive (Bool.eq_false_iff.2 hidle) hs
    · exact hs

/-- A key that a message names is in the table unless its content is malformed (R191). -/
theorem lt_of_not_keyMalformed (h : ¬ decide (31 < k) = true) : k < 32 := by
  rw [decide_eq_true_eq] at h
  omega

theorem feedLaw_keyPressRule (k : Nat) (s : State) (hs : FeedLaw s) : FeedLaw ((keyPressRule k s).after s) := by
  unfold keyPressRule
  split
  · exact hs
  · next hk => exact feedLaw_pressKey (by omega) hs

theorem feedLaw_keyLiftRule (k : Nat) (s : State) (hs : FeedLaw s) : FeedLaw ((keyLiftRule k s).after s) := by
  unfold keyLiftRule
  split
  · exact hs
  · next hk => exact feedLaw_liftKey (by omega) hs

theorem feedLaw_feedDefaultRule (l i : Nat) (s : State) (hs : FeedLaw s) :
    FeedLaw ((feedDefaultRule l i s).after s) := by
  unfold feedDefaultRule
  dsimp only
  split
  · exact hs
  · rw [after_accept]
    have hset : FeedLaw (setArbiter l { arbiterAt s l with defaultInput := optIndex i } s) := by
      refine feedLaw_of_kept (s := s) (keysKept_of_keys rfl) rfl (fun j => ?_) hs
      rw [arbiterAt_setArbiter]
      split
      · next h => rw [h.1]
      · rfl
    split
    · exact feedLaw_of_display (display_orderFeed _ l) hset
    · exact hset

theorem feedLaw_linkEnrollRule (l x k i : Nat) (q : LinkParams) (o : Nat) (s : State) (hs : FeedLaw s) :
    FeedLaw ((linkEnrollRule l x k i q o s).after s) := by
  unfold linkEnrollRule
  split
  · exact hs
  · split
    · split_ifs with hfree
      · exact hs
      · exact hs
      · exact hs
      · split
        · exact hs
        · next hbind =>
          obtain ⟨c, -, rfl⟩ := bindRecord_eq_some.1 hbind
          exact feedLaw_enroll _ (Bool.eq_false_iff.2 hfree)
            (feedLaw_of_display (t := markStale (setRecord i (.active c l) s)) (by simp) hs)
    · exact hs

theorem feedLaw_linkRetireRule (l : Nat) (s : State) (hs : FeedLaw s) : FeedLaw ((linkRetireRule l s).after s) := by
  unfold linkRetireRule
  split_ifs
  · exact hs
  · exact feedLaw_retire l hs
  · exact hs

theorem feedLaw_linkEraseRule (l : Nat) (s : State) (hs : FeedLaw s) : FeedLaw ((linkEraseRule l s).after s) := by
  unfold linkEraseRule
  split
  · exact hs
  · split
    · exact hs
    · next hn => exact feedLaw_of_display (display_vacate (by rw [hn]; rfl)) hs
    · exact feedLaw_of_display (display_vacate (isEnrolled_retire s l)) (feedLaw_retire l hs)

/-! ## The tally unit (R120, R121, R123) -/

theorem feedLaw_takeTally (a : Nat) (f : SourceFlags) (hs : FeedLaw s) : FeedLaw (takeTally a f s) := by
  rw [takeTally_eq]
  exact (cuesFollow_recomputeCues _ _).feedLaw hs

theorem feedLaw_tallyMapRule (a l : Nat) (s : State) (hs : FeedLaw s) : FeedLaw ((tallyMapRule a l s).after s) := by
  unfold tallyMapRule
  dsimp only
  split
  · exact hs
  · exact (cuesFollow_recomputeCues _ _).feedLaw hs

theorem feedLaw_tallyOverrideRule (l o : Nat) (s : State) (hs : FeedLaw s) :
    FeedLaw ((tallyOverrideRule l o s).after s) := by
  unfold tallyOverrideRule
  split
  · exact hs
  · split
    · exact hs
    · split
      · next e he =>
        exact (cuesFollow_recomputeCue l _).feedLaw (feedLaw_of_talk (s := s) rfl rfl (isCamera_setOverride _ he) hs)
      · exact hs

/-! ## The keypanel port (R153) -/

theorem feedLaw_startKeyStatus (hs : FeedLaw s) : FeedLaw (startKeyStatus s) := by
  unfold startKeyStatus
  split
  · next k _ _ =>
    refine feedLaw_of_kept (s := s) (fun j => ?_) rfl (fun _ => rfl) hs
    show keyAt (setKey k { keyAt s k with statusPending := false } s) j = { keyAt s j with
      status := (keyAt (setKey k { keyAt s k with statusPending := false } s) j).status
      statusPending := (keyAt (setKey k { keyAt s k with statusPending := false } s) j).statusPending }
    rw [keyAt_setKey]
    split
    · next h => rw [h.1]
    · rfl
  · exact hs

/-! ## Every command -/

theorem exec_touching_feedLaw {c : Instr} (htouch : touchesDisplay c = true) (h : exec c s = .next t)
    (hs : FeedLaw s) : FeedLaw t := by
  cases c <;> cases htouch <;> cases h
  case hardwareReset => exact feedLaw_hardwareReset s
  case runRestart p => exact feedLaw_takeRequest (rule := runRestartRule) (fun u _ => feedLaw_warmRestart u) hs
  case linkEnroll p l x k i q o => exact feedLaw_takeRequest (feedLaw_linkEnrollRule l x k i q o) hs
  case linkRetire p l => exact feedLaw_takeRequest (feedLaw_linkRetireRule l) hs
  case linkErase p l => exact feedLaw_takeRequest (feedLaw_linkEraseRule l) hs
  case mixerTallyMessage a f =>
    split
    · exact feedLaw_of_display (display_discardMalformed s _) hs
    · exact feedLaw_takeTally _ _ (feedLaw_of_display (display_completeMessage s .mixer) hs)
  case tallyMap p a l => exact feedLaw_takeRequest (feedLaw_tallyMapRule a l) hs
  case tallyOverride p l o => exact feedLaw_takeRequest (feedLaw_tallyOverrideRule l o) hs
  case keySet p k v m lk src ds => exact feedLaw_takeRequest (feedLaw_keySetRule k v m lk src ds) hs
  case keyDown k =>
    split
    · exact feedLaw_of_display (display_discardMalformed s _) hs
    · next hk =>
      have hmessage := feedLaw_of_display (display_completeMessage s .keypanel) hs
      exact feedLaw_pressKey (lt_of_not_keyMalformed hk) hmessage
  case keyPress p k => exact feedLaw_takeRequest (feedLaw_keyPressRule k) hs
  case keyUp k =>
    split
    · exact feedLaw_of_display (display_discardMalformed s _) hs
    · next hk =>
      have hmessage := feedLaw_of_display (display_completeMessage s .keypanel) hs
      exact feedLaw_liftKey (lt_of_not_keyMalformed hk) hmessage
  case keyLift p k => exact feedLaw_takeRequest (feedLaw_keyLiftRule k) hs
  case feedDefault p l i => exact feedLaw_takeRequest (feedLaw_feedDefaultRule l i) hs
  case keyStatusSendStart => exact feedLaw_startKeyStatus hs

theorem exec_feedLaw {c : Instr} (h : exec c s = .next t) (hs : FeedLaw s) : FeedLaw t := by
  cases htouch : touchesDisplay c with
  | false => exact feedLaw_of_display (exec_display s htouch h) hs
  | true => exact exec_touching_feedLaw htouch h hs

end

end Sys2Proof.Machine
end

section
namespace Sys2Proof.Proofs
open Sys2Proof.Machine

/-- Settles O59: the law, read link by link (`feedLaw_iff`), is kept by requests, withdrawals and selections at an
arbiter, and an arbiter is seeded or cleared where its link becomes an eligible destination or stops being one. -/
theorem stepsKeepFeedLaw : Obligations.StepsKeepFeedLaw := by
  unfold Obligations.StepsKeepFeedLaw
  intro s t hs h
  exact step_keeps (P := FeedLaw) (fun _ _ => feedLaw_of_display rfl) (fun _ _ _ => exec_feedLaw)
    (fun s => feedLaw_of_display (display_idle s)) h hs

end Sys2Proof.Proofs
end

section
/-! SUPPORT. What a request and a withdrawal at an arbiter write, and the choice among the pending keys (R144 to
R147). -/

namespace Sys2Proof.Machine

section
variable {s : State} {a : Arbiter} {k l o : Nat} {w : Waiter} {ws : List Waiter}

/-! ## Writes -/

/-- Without an order the arbiter alone is written. -/
theorem writeFeed_kept (l : Nat) (a : Arbiter) (s : State) :
    writeFeed l (a, false) s = { s with talk.arbiters := put s.talk.arbiters l a } := (setArbiter_eq l a s).symm

/-- With an order, what the arbiter feeds is ordered for the output of an eligible destination (R147). -/
theorem writeFeed_ordered (a : Arbiter) (ho : cameraOutput s l = some o) :
    writeFeed l (a, true) s = { s with
      talk.arbiters := put s.talk.arbiters l a, talk.orders := put s.talk.orders o (some (feedInput s a)) } := by
  simp only [writeFeed, feedOrders, ho, if_true]

/-! ## Withdrawals (R145) -/

theorem withdrawOutcome_holder (h : a.holder = some k) : withdrawOutcome k a = (selectHolder a, true) := if_pos h

theorem waits_of_mem (h : ∃ w ∈ ws, w.key = k) : waits k ws = true := by
  obtain ⟨w, hw, rfl⟩ := h
  exact waits_iff.2 (List.mem_map_of_mem hw)

theorem not_waits_of_forall (h : ∀ w ∈ ws, w.key ≠ k) : ¬ waits k ws = true := by
  rw [waits_iff, List.mem_map]
  rintro ⟨w, hw, hk⟩
  exact h w hw hk

theorem withdrawOutcome_saved (hh : a.holder ≠ some k) (hs : ∃ w ∈ a.saved, w.key = k) :
    withdrawOutcome k a = ({ a with saved := dropWaiter k a.saved }, false) := by
  rw [withdrawOutcome, if_neg hh, if_pos (waits_of_mem hs)]

theorem withdrawOutcome_pending (hh : a.holder ≠ some k) (hs : ∀ w ∈ a.saved, w.key ≠ k)
    (hw : ∃ w ∈ a.waiting, w.key = k) :
    withdrawOutcome k a = ({ a with waiting := dropWaiter k a.waiting }, false) := by
  rw [withdrawOutcome, if_neg hh, if_neg (not_waits_of_forall hs), if_pos (waits_of_mem hw)]

/-! ## Selection (R146) -/

theorem selectHolder_defaultInput (a : Arbiter) : (selectHolder a).defaultInput = a.defaultInput := by
  rcases selectHolder_cases a with ⟨-, -, heq⟩ | ⟨top, rest, -, -, heq⟩ | ⟨w, -, -, -, -, heq⟩ <;> rw [heq]

theorem selectHolder_vacant (hs : a.saved = []) (hw : a.waiting = []) :
    selectHolder a = { a with holder := none } := by
  rcases selectHolder_cases a with ⟨-, -, heq⟩ | ⟨top, rest, hs', -, -⟩ | ⟨w, hw', -⟩
  · exact heq
  · cases hs.symm.trans hs'
  · rw [hw] at hw'
    cases hw'

/-- The saved top wins ties at its level. -/
theorem selectHolder_saved {top : Waiter} {rest : List Waiter} (hs : a.saved = top :: rest)
    (hbest : ∀ w ∈ a.waiting, top.level ≤ w.level) :
    selectHolder a = { a with holder := some top.key, saved := rest } := by
  rcases selectHolder_cases a with ⟨hs', -, -⟩ | ⟨top', rest', hs', -, heq⟩ | ⟨w, hw, -, hbelow, -⟩
  · cases hs.symm.trans hs'
  · cases hs.symm.trans hs'
    exact heq
  · exact absurd (hbest w hw) (not_le.2 (hbelow top (by rw [hs]; rfl)))

/-- Of the pending keys at a level the first in cyclic order wins. -/
theorem waitingWinner_eq_some (hw : w ∈ a.waiting) (hsorted : (a.waiting.map Waiter.key).Pairwise (· < ·))
    (hfirst : ∀ x ∈ a.waiting, x.level = w.level → comesFirst (look a.lastGranted w.level) w.key x.key) :
    waitingWinner a w.level = some w.key := by
  refine cyclicNext_eq_some _ _ _ (hsorted.sublist (List.filter_sublist.map _)) ?_ fun y hy => ?_
  · exact List.mem_map_of_mem (List.mem_filter.2 ⟨hw, by simp⟩)
  · obtain ⟨x, hx, rfl⟩ := List.mem_map.1 hy
    obtain ⟨hmem, hlevel⟩ := List.mem_filter.1 hx
    exact hfirst x hmem (by simpa using hlevel)

/-- A pending key at the best level whose turn it is wins against the others and against the saved top. -/
theorem selectHolder_pending (hw : w ∈ a.waiting) (hbest : ∀ x ∈ a.waiting, w.level ≤ x.level)
    (habove : ∀ top, a.saved.head? = some top → w.level < top.level)
    (hwin : waitingWinner a w.level = some w.key) :
    selectHolder a = { a with
      holder := some w.key, waiting := dropWaiter w.key a.waiting
      lastGranted := put a.lastGranted w.level (some w.key) } := by
  rcases selectHolder_cases a with ⟨-, hnone, -⟩ | ⟨top, rest, hs, hbelow, -⟩ | ⟨x, hx, hleast, -, hwin', heq⟩
  · rw [hnone] at hw
    cases hw
  · exact absurd (hbelow w hw) (not_le.2 (habove top (by rw [hs]; rfl)))
  · have hlevel : x.level = w.level := le_antisymm (hleast w hw) (hbest x hx)
    rw [hlevel, hwin, Option.some.injEq] at hwin'
    rw [heq, ← hwin', hlevel]

end

end Sys2Proof.Machine
end

section
namespace Sys2Proof.Proofs
open Sys2Proof.Machine

/-- Settles O39: a request and a withdrawal are one write of the feed unit each (`requestFeed_eq`, `withdrawFeed_eq`),
and a selection is what `selectHolder_cases` leaves of its three outcomes. -/
theorem arbiterSteps : Obligations.ArbiterSteps := by
  unfold Obligations.ArbiterSteps
  refine ⟨?request, ?withdrawal, fun a => ?selection⟩
  case request =>
    intro k l o s ho a level granted
    refine ⟨fun hrole => ?_, fun hh hrole => ?_, fun h hrole hh hlevel hlocked => ?_, fun h hrole hh hwaits => ?_⟩
    · rw [requestFeed_eq, requestOutcome_of_role _ hrole, writeFeed_self]
    · rw [requestFeed_eq, requestOutcome_vacant _ hrole hh, writeFeed_ordered _ ho]
      rfl
    · rw [requestFeed_eq, requestOutcome_preempts hrole hh hlevel hlocked, writeFeed_ordered _ ho]
      rfl
    · refine ⟨addWaiter ⟨k, level⟩ a.waiting, ?_, fun x => ?_⟩
      · rw [requestFeed_eq, requestOutcome_waits hrole hh hwaits, writeFeed_kept]
      · rw [(addWaiter_perm _ _).mem_iff, List.mem_cons, or_comm]
  case withdrawal =>
    intro k l s a others
    refine ⟨fun hrole => ?_, fun hh hs => ?_, fun hh hs hw => ?_, fun o hh ho => ?_⟩
    · rw [withdrawFeed_eq, withdrawOutcome_of_no_role hrole, writeFeed_self]
    · rw [withdrawFeed_eq, withdrawOutcome_saved hh hs, writeFeed_kept]
      rfl
    · rw [withdrawFeed_eq, withdrawOutcome_pending hh hs hw, writeFeed_kept]
      rfl
    · intro input
      have hinput : feedInput s (selectHolder a) = input := by
        unfold feedInput input
        rw [selectHolder_defaultInput]
        cases (selectHolder a).holder <;> cases a.defaultInput <;> rfl
      rw [withdrawFeed_eq, withdrawOutcome_holder hh, writeFeed_ordered _ ho, hinput]
  case selection =>
    refine ⟨selectHolder_vacant, fun top rest => selectHolder_saved, fun w hw hbest habove hsorted => ?_⟩
    intro last before hfirst
    exact selectHolder_pending hw hbest habove (waitingWinner_eq_some hw hsorted hfirst)

end Sys2Proof.Proofs
end

section
/-! SUPPORT. The sends of the keypanel and matrix order ports, and the answers to an order (R153, R156 to R158). -/

namespace Sys2Proof.Machine

section
variable {s : State} {k o i : Nat} {input : MatrixInput} {f : FlyingOrder}

/-! ## The keypanel port (R153) -/

theorem startKeyStatus_lowest (hfree : s.talk.sending = none) (hk : k ≤ 31) (hset : (keyAt s k).statusPending = true)
    (hlowest : ∀ j < k, (keyAt s j).statusPending = false) : startKeyStatus s = { s with
      talk.keys := put s.talk.keys k { keyAt s k with statusPending := false }
      talk.sending := some ⟨k, (keyAt s k).status⟩ } := by
  have hhead : (indicesWhere s.talk.keys Key.statusPending).head? = some k := by
    refine head_of_least _ k (indicesWhere_sorted _ _) ((mem_indicesWhere _ _ k).2 ⟨by omega, hset⟩) fun j hj => ?_
    refine not_lt.1 fun hlt => ?_
    exact Bool.eq_false_iff.1 (hlowest j hlt) ((mem_indicesWhere _ _ j).1 hj).2
  rw [startKeyStatus, hfree, hhead]
  rfl

/-! ## The matrix order port (R156 to R158) -/

/-- The pending order of the first output after the last served is sent. -/
theorem startOrder_first (hfree : s.talk.orderInFlight = none) (ho : look s.talk.orders o = some input)
    (hfirst : ∀ x, (look s.talk.orders x).isSome = true → comesFirst s.talk.lastServed o x) :
    startOrder s = { s with
      talk.orders := put s.talk.orders o none
      talk.orderInFlight := some ⟨o, input, s.clock + 50#32⟩
      talk.lastServed := some o } := by
  have hlt : o < 128 := lt_of_look_ne s.talk.orders o (by rw [ho]; exact nofun)
  have hnext : cyclicNext s.talk.lastServed (indicesWhere s.talk.orders Option.isSome) = some o := by
    refine cyclicNext_eq_some _ _ o (indicesWhere_sorted _ _) ((mem_indicesWhere _ _ o).2 ⟨hlt, by rw [ho]; rfl⟩) ?_
    exact fun x hx => hfirst x ((mem_indicesWhere _ _ x).1 hx).2
  simp only [startOrder, hfree, hnext, ho]
  rfl

theorem matrixInputOf_optIndex (i : Nat) : matrixInputOf (optIndex i) = if i = 255 then .mute else .input i := by
  unfold optIndex
  split <;> rfl

/-- An ORDER_ACK of an output of the table and of an input or MUTE is well formed (R191). -/
theorem exec_orderAck_wellFormed (ho : o ≤ 127) (hi : i ≤ 127 ∨ i = 255) (s : State) : exec (.orderAck o i) s =
    .next (takeOrderAck o (if i = 255 then .mute else .input i) { s with ports.matrix := none }) := by
  have hwell : contentMalformed (.orderAck o i) = false := by
    simp only [contentMalformed, Bool.or_eq_false_iff, Bool.and_eq_false_iff, decide_eq_false_iff_not, not_lt,
      bne_eq_false_iff_eq]
    exact ⟨ho, hi⟩
  rw [← matrixInputOf_optIndex]
  exact congrArg _ (if_neg (Bool.eq_false_iff.1 hwell))

theorem takeOrderAck_named (hf : s.talk.orderInFlight = some f) (ho : f.output = o) (hi : f.input = input) :
    takeOrderAck o input s = { s with
      talk.orderInFlight := none, talk.confirmed := put s.talk.confirmed o (some input) } := by
  rw [takeOrderAck, hf]
  exact if_pos ⟨ho, hi⟩

/-- An ORDER ACK that names no order in flight is discarded. -/
theorem takeOrderAck_other (h : ∀ f, s.talk.orderInFlight = some f → ¬ (f.output = o ∧ f.input = input)) :
    takeOrderAck o input s = s := by
  unfold takeOrderAck
  split
  · next f hf => exact if_neg (h f hf)
  · rfl

theorem exec_orderTimeout_reached (hf : s.talk.orderInFlight = some f) (hd : reached f.deadline s.clock = true) :
    exec .orderTimeout s = .next (raise .matrixFault { s with
      talk.orderInFlight := none, talk.confirmed := put s.talk.confirmed f.output none }) := by
  show execOrderTimeout s = _
  rw [execOrderTimeout, hf]
  exact congrArg _ (if_pos hd)

end

end Sys2Proof.Machine
end

section
namespace Sys2Proof.Proofs
open Sys2Proof.Machine

/-- Settles O40: each event of the two ports by the equation of its operation. -/
theorem talkbackPorts : Obligations.TalkbackPorts := by
  unfold Obligations.TalkbackPorts
  refine ⟨fun s => ⟨fun k hfree hk hset hlowest => ?_, rfl⟩,
    fun s => ⟨fun o i hfree ho hfirst => ?_, ?acks, fun f hf hd => ?_⟩⟩
  · exact congrArg _ (startKeyStatus_lowest hfree hk hset hlowest)
  · exact congrArg _ (startOrder_first hfree ho hfirst)
  case acks =>
    intro o i ho hi input taken
    refine ⟨fun f hf hout hin => ?_, fun hother => ?_⟩
    · exact (exec_orderAck_wellFormed ho hi s).trans (congrArg _ (takeOrderAck_named (s := taken) hf hout hin))
    · exact (exec_orderAck_wellFormed ho hi s).trans (congrArg _ (takeOrderAck_other (s := taken) hother))
  · exact exec_orderTimeout_reached hf hd

end Sys2Proof.Proofs
end

section
/-! SUPPORT. KEY.SET and FEED.DEFAULT, and the reads of the feed unit field by field (R138, R143, R151, R154, R159). -/

namespace Sys2Proof.Machine

section
variable {s : State} {p : Port} {k l o i v mode locked src : Nat} {ds : List Nat} {ws : List Waiter}

/-! ## What a request's frame does not change -/

@[simp] theorem keyAt_completeFrame (k : Nat) : keyAt (completeFrame p s) k = keyAt s k := by cases p <;> rfl

@[simp] theorem arbiterAt_completeFrame (l : Nat) : arbiterAt (completeFrame p s) l = arbiterAt s l := by
  cases p <;> rfl

@[simp] theorem cameraOutput_completeFrame (l : Nat) : cameraOutput (completeFrame p s) l = cameraOutput s l := by
  cases p <;> rfl

@[simp] theorem rolesField_completeFrame (k : Nat) : rolesField (completeFrame p s) k = rolesField s k := by
  cases p <;> rfl

@[simp] theorem matrixItems_completeFrame (o : Nat) : matrixItems (completeFrame p s) o = matrixItems s o := by
  cases p <;> rfl

/-! ## KEY.SET (R138) -/

/-- The key that KEY.SET writes. -/
def writtenKey (v mode locked src : Nat) (ds : List Nat) (key : Key) : Key := { key with
  level := min 7 v, mode := if mode = 0 then .momentary else .latch, locked := locked == 1, source := src
  destinations := (List.range 64).filter ds.contains }

theorem keyModeChoice_of_le (h : mode ≤ 1) : keyModeChoice mode = some (if mode = 0 then .momentary else .latch) := by
  match mode, h with
  | 0, _ => rfl
  | 1, _ => rfl

theorem keyModeChoice_of_lt (h : 1 < mode) : keyModeChoice mode = none := by
  match mode, h with
  | _ + 2, _ => rfl

theorem keySetRule_badField (h : 31 < k ∨ 1 < mode ∨ 1 < locked ∨ 127 < src ∨ (∃ d ∈ ds, 63 < d) ∨ 64 < ds.length ∨
    ¬ ds.Nodup) : keySetRule k v mode locked src ds s = .refuse .badField := by
  unfold keySetRule
  split
  · rfl
  · next hfields =>
    have hchoice : 1 < mode ∨ 1 < locked := by
      simp only [Bool.or_eq_true, decide_eq_true_eq, List.any_eq_true, Bool.not_eq_true', decide_eq_false_iff_not,
        not_or, not_not] at hfields
      obtain ⟨⟨⟨⟨hk, hsrc⟩, hdest⟩, hlength⟩, hd⟩ := hfields
      simpa only [hk, hsrc, hdest, hlength, hd, not_true_eq_false, false_or, or_false] using h
    rcases hchoice with hm | hl
    · rw [keyModeChoice_of_lt hm]
    · rw [flagChoice_of_lt hl]
      cases keyModeChoice mode <;> rfl

/-- Distinct link indices are at most 64. -/
theorem length_le_of_nodup (hd : ds.Nodup) (hds : ∀ d ∈ ds, d ≤ 63) : ds.length ≤ 64 := by
  have hsub : ds ⊆ List.range 64 := fun d hmem => List.mem_range.2 (Nat.lt_succ_of_le (hds d hmem))
  simpa using (List.subperm_of_subset hd hsub).length_le

theorem keySetRule_of_fields (hk : k ≤ 31) (hsrc : src ≤ 127) (hm : mode ≤ 1) (hl : locked ≤ 1) (hd : ds.Nodup)
    (hds : ∀ d ∈ ds, d ≤ 63) : keySetRule k v mode locked src ds s =
      if (keyAt s k).active then .refuse .busy
      else .accept (keyItems (writtenKey v mode locked src ds (keyAt s k)))
        (setKey k (writtenKey v mode locked src ds (keyAt s k)) s) := by
  have hlength := length_le_of_nodup hd hds
  have hany : ds.any (63 < ·) = false := List.any_eq_false.2 fun d hmem => by simpa using hds d hmem
  have hfields : (decide (31 < k) || decide (127 < src) || ds.any (63 < ·) || decide (64 < ds.length) ||
      !decide ds.Nodup) = false := by
    rw [decide_eq_false (by omega), decide_eq_false (by omega), hany, decide_eq_false (by omega), decide_eq_true hd]
    rfl
  rw [keySetRule, if_neg (Bool.eq_false_iff.1 hfields), keyModeChoice_of_le hm, flagChoice_of_le hl]
  rfl

theorem mem_writtenKey_destinations (key : Key) (hds : ∀ d ∈ ds, d ≤ 63) (d : Nat) :
    d ∈ (writtenKey v mode locked src ds key).destinations ↔ d ∈ ds := by
  simp only [writtenKey, List.mem_filter, List.mem_range, List.contains_iff_mem]
  exact and_iff_right_of_imp fun hmem => Nat.lt_succ_of_le (hds d hmem)

theorem indexSet_writtenKey (key : Key) : IndexSet 64 (writtenKey v mode locked src ds key).destinations :=
  ⟨List.Pairwise.filter _ List.pairwise_lt_range, fun _ hx => List.mem_range.1 (List.mem_filter.1 hx).1⟩

/-! ## FEED.DEFAULT (R143) -/

theorem feedDefaultRule_badField (h : 63 < l ∨ (127 < i ∧ i ≠ 255)) :
    feedDefaultRule l i s = .refuse .badField := by
  refine if_pos ?_
  rw [Bool.or_eq_true, decide_eq_true_eq]
  refine h.imp_right fun ⟨hlt, hne⟩ => ?_
  rw [optIndex_of_ne hne]
  simpa using hlt

theorem writeFeed_of_no_output (x : Arbiter × Bool) (ho : cameraOutput s l = none) :
    writeFeed l x s = { s with talk.arbiters := put s.talk.arbiters l x.1 } := by
  rw [writeFeed, feedOrders, ho]

/-- The default input is written, and ordered for an eligible destination that carries it. -/
theorem feedDefaultRule_of_fields (hl : l ≤ 63) (hi : i ≤ 127 ∨ i = 255) : feedDefaultRule l i s =
    .accept (arbiterItems (cameraOutput s l) { arbiterAt s l with defaultInput := optIndex i })
      (writeFeed l ({ arbiterAt s l with defaultInput := optIndex i }, (arbiterAt s l).holder.isNone) s) := by
  have hinput : (optIndex i).any (127 < ·) = false := by
    unfold optIndex
    split
    · rfl
    · simp only [Option.any_some, decide_eq_false_iff_not]
      omega
  unfold feedDefaultRule
  dsimp only
  rw [if_neg (by rw [hinput, Bool.or_false, decide_eq_true_eq]; omega)]
  cases hh : (arbiterAt s l).holder with
  | none =>
    rw [if_pos rfl, orderFeed_setArbiter]
    rfl
  | some g =>
    rw [if_neg nofun, setArbiter_eq]
    rfl

/-! ## MATRIX.GET (R159) -/

theorem matrixItems_mine {f : FlyingOrder} (hf : s.talk.orderInFlight = some f) (ho : f.output = o) :
    matrixItems s o =
      [.optional [maybe matrixField (look s.talk.orders o), maybe matrixField (look s.talk.confirmed o)],
       .one (.flag true), .optional [[matrixField f.input], [.clock f.deadline]],
       .one (.index (s.talk.lastServed.getD 255))] := by
  have hflight : s.talk.orderInFlight.filter (fun f => f.output == o) = some f := by
    rw [hf, Option.filter_some, if_pos (by simpa using ho)]
  rw [matrixItems, hflight]
  rfl

theorem matrixItems_other (h : ∀ f, s.talk.orderInFlight = some f → f.output ≠ o) :
    matrixItems s o =
      [.optional [maybe matrixField (look s.talk.orders o), maybe matrixField (look s.talk.confirmed o)],
       .one (.flag false), .optional [[], []], .one (.index (s.talk.lastServed.getD 255))] := by
  have hflight : s.talk.orderInFlight.filter (fun f => f.output == o) = none :=
    Option.filter_eq_none_iff.2 fun f hf => by simpa using h f hf
  rw [matrixItems, hflight]
  rfl

/-! ## Fields of keys and arbiters (R151, R154) -/

theorem waits_iff_exists : waits k ws = true ↔ ∃ w ∈ ws, w.key = k := by
  simp only [waits, List.any_eq_true, beq_iff_eq]

end

end Sys2Proof.Machine
end

section
namespace Sys2Proof.Proofs
open Sys2Proof.Machine

/-- Settles O37: each request by its rule's verdict, and each read by its items. -/
theorem talkbackRequests : Obligations.TalkbackRequests := by
  unfold Obligations.TalkbackRequests
  refine ⟨fun p s => ⟨fun k level mode locked source ds hm h => ?_, fun l i hm h => ?_, fun k hk => ?_, fun l hl => ?_,
    fun o ho => ?_⟩, fun p k level mode locked source ds s hm hk hsrc hmode hlocked hd hds => ?keySet,
    fun p s => ⟨?feedDefault, fun l hl => ?_, fun k hk => ?_, ?matrixGet⟩, fun key => ?keyItems, ?roles, ?arbiterItems⟩
  · exact congrArg _ (takeRequest_refused hm (keySetRule_badField h))
  · exact congrArg _ (takeRequest_refused hm (feedDefaultRule_badField h))
  · exact congrArg _ (takeRequest_refused (maySend_read rfl) (if_pos hk))
  · exact congrArg _ (takeRequest_refused (maySend_read rfl) (if_pos hl))
  · exact congrArg _ (takeRequest_refused (maySend_read rfl) (if_pos ho))
  case keySet =>
    have hrule := keySetRule_of_fields (v := level) (s := completeFrame p s) hk hsrc hmode hlocked hd hds
    rw [keyAt_completeFrame] at hrule
    refine ⟨fun hidle => ⟨writtenKey level mode locked source ds (keyAt s k), congrArg _ (takeRequest_answered hm ?_),
      rfl, rfl, rfl, rfl, hidle, rfl, rfl, indexSet_writtenKey _, mem_writtenKey_destinations _ hds⟩,
      fun hactive => congrArg _ (takeRequest_refused hm ?_)⟩
    · rw [hrule, hidle]
      cases p <;> rfl
    · rw [hrule, hactive]
      rfl
  case feedDefault =>
    intro l i hm hl hi input a set
    refine congrArg _ ((takeRequest_answered hm (feedDefaultRule_of_fields hl hi)).trans ?_)
    rw [cameraOutput_completeFrame, arbiterAt_completeFrame]
    refine congrArg _ ?_
    have hset : { completeFrame p s with
        talk.arbiters := put (completeFrame p s).talk.arbiters l a } = set := by cases p <;> rfl
    have horders : (completeFrame p s).talk.orders = s.talk.orders := by rw [completeFrame_talk]
    have hinput : matrixInputOf (optIndex i) = if i = 255 then .mute else .input i := matrixInputOf_optIndex i
    cases ho : cameraOutput s l with
    | none => exact (writeFeed_of_no_output _ ((cameraOutput_completeFrame l).trans ho)).trans hset
    | some o =>
      have hout : cameraOutput (completeFrame p s) l = some o := (cameraOutput_completeFrame l).trans ho
      cases hh : (arbiterAt s l).holder with
      | some g => exact (writeFeed_kept l a _).trans hset
      | none =>
        have hfeed : feedInput (completeFrame p s) a = if i = 255 then .mute else .input i := by
          rw [feedInput, show a.holder = none from hh, ← hinput]
          rfl
        refine (writeFeed_ordered a hout).trans ?_
        rw [hfeed, horders, ← hset]
  · exact congrArg _ (takeRequest_answered (maySend_read rfl) (by
      rw [feedGetRule, if_neg (by omega), cameraOutput_completeFrame, arbiterAt_completeFrame]))
  · exact congrArg _ (takeRequest_answered (maySend_read rfl) (by
      rw [keyGetRule, if_neg (by omega), keyAt_completeFrame, rolesField_completeFrame]))
  case matrixGet =>
    intro o ho items
    have hrule : matrixGetRule o (completeFrame p s) = .accept (matrixItems s o) (completeFrame p s) := by
      rw [matrixGetRule, if_neg (by omega), matrixItems_completeFrame]
    refine ⟨fun f hf hout => ?_, fun hother => ?_⟩
    · rw [matrixItems_mine hf hout] at hrule
      exact congrArg _ (takeRequest_answered (maySend_read rfl) hrule)
    · rw [matrixItems_other hother] at hrule
      exact congrArg _ (takeRequest_answered (maySend_read rfl) hrule)
  case keyItems =>
    obtain ⟨_, mode, _, _, _, _, status, _⟩ := key
    cases mode <;> cases status <;> rfl
  case roles =>
    intro k s eligible role
    have hrole (a : Arbiter) : roleNumber k a = role a := by
      simp only [roleNumber, waits_iff_exists, role]
    simp only [rolesField, hrole]
    rfl
  case arbiterItems =>
    intro output a keys
    rw [arbiterItems, toList_eq_map_look, List.map_map]
    rfl

end Sys2Proof.Proofs
end

section
/-! SUPPORT. The seeding of a new CAMERA's arbiter, its orders, and the state that an enrollment leaves (R73, R126,
R147, R148, R152). -/

namespace Sys2Proof.Machine

section
variable {s t u v : State} {a : Arbiter} {k l o j x : Nat} {ks : List Nat} {keys : Nat → Key} {e : EnrolledLink}

/-! ## Requests at one arbiter (R144, R147) -/

/-- A run of requests gives every key of the run a role, and takes none away. -/
theorem mem_roleKeys_requests (keys : Nat → Key) (ks : List Nat) (a : Arbiter) :
    j ∈ roleKeys (ks.foldl (fun a k => (requestOutcome keys k a).1) a) ↔ j ∈ ks ∨ j ∈ roleKeys a := by
  induction ks generalizing a with
  | nil => simp
  | cons k ks ih =>
    rw [List.foldl_cons, ih, mem_roleKeys_requestOutcome, List.mem_cons, or_left_comm, or_assoc]

/-- A request that places no order leaves what the arbiter feeds. -/
theorem feedInput_requestOutcome (s : State) (h : (requestOutcome keys k a).2 = false) :
    feedInput s (requestOutcome keys k a).1 = feedInput s a := by
  cases hrole : hasRole k a with
  | true => rw [requestOutcome_of_role keys hrole]
  | false =>
    rcases requestOutcome_cases keys hrole with ⟨-, heq⟩ | ⟨g, -, -, heq⟩ | ⟨g, -, heq⟩
    · rw [heq] at h; cases h
    · rw [heq] at h; cases h
    · rw [heq]; rfl

/-- The pending order of output `o` is the one for what the arbiter of link `l` feeds. -/
def OrderFits (l o : Nat) (s : State) : Prop := look s.talk.orders o = some (feedInput s (arbiterAt s l))

/-- A write of the arbiter keeps its output's order fitting, where an order is placed if the arbiter feeds something
else. -/
theorem OrderFits.writeFeed {y : Arbiter × Bool} (hout : cameraOutput s l = some o) (ho : o < 128)
    (h : y.2 = false → OrderFits l o s ∧ feedInput s y.1 = feedInput s (arbiterAt s l)) :
    OrderFits l o (writeFeed l y s) := by
  have harbiter : arbiterAt (Machine.writeFeed l y s) l = y.1 := by
    rw [arbiterAt_writeFeed, if_pos ⟨rfl, cameraOutput_lt hout⟩]
  rw [OrderFits, harbiter]
  show look (feedOrders l y s) o = some (feedInput s y.1)
  rw [look_feedOrders]
  cases hy : y.2 with
  | true => exact if_pos ⟨rfl, hout, ho⟩
  | false =>
    obtain ⟨hfits, hsame⟩ := h hy
    rw [if_neg (fun h => nomatch h.1), hsame]
    exact hfits

theorem cameraOutput_requestFeed (k l j : Nat) (s : State) :
    cameraOutput (requestFeed k l s) j = cameraOutput s j := by
  rw [requestFeed_eq]
  rfl

theorem OrderFits.requestFeed (h : OrderFits l o s) (hout : cameraOutput s l = some o) (ho : o < 128) (k : Nat) :
    OrderFits l o (requestFeed k l s) := by
  rw [requestFeed_eq]
  exact .writeFeed hout ho fun hkept => ⟨h, feedInput_requestOutcome s hkept⟩

theorem OrderFits.requests (h : OrderFits l o s) (hout : cameraOutput s l = some o) (ho : o < 128) (ks : List Nat) :
    OrderFits l o (ks.foldl (fun s k => Machine.requestFeed k l s) s) := by
  induction ks generalizing s with
  | nil => exact h
  | cons k ks ih => exact ih (h.requestFeed hout ho k) ((cameraOutput_requestFeed k l l s).trans hout)

/-- The other outputs keep their orders. -/
theorem look_orders_writeFeed (hout : cameraOutput s l = some o) (hx : x ≠ o) (y : Arbiter × Bool) :
    look (writeFeed l y s).talk.orders x = look s.talk.orders x :=
  (look_feedOrders y x).trans (if_neg fun ⟨_, h, _⟩ => hx (Option.some.inj (h.symm.trans hout)))

theorem look_orders_requests (hout : cameraOutput s l = some o) (hx : x ≠ o) (ks : List Nat) :
    look (ks.foldl (fun s k => requestFeed k l s) s).talk.orders x = look s.talk.orders x := by
  induction ks generalizing s with
  | nil => rfl
  | cons k ks ih =>
    rw [List.foldl_cons, ih ((cameraOutput_requestFeed k l l s).trans hout), requestFeed_eq]
    exact look_orders_writeFeed hout hx _

/-! ## The seeding (R148) -/

theorem orderFits_seedArbiter (hout : cameraOutput s l = some o) (ho : o < 128) : OrderFits l o (seedArbiter l s) := by
  rw [seedArbiter_eq]
  exact (OrderFits.writeFeed hout ho fun h => by cases h).requests hout ho _

theorem look_orders_seedArbiter (hout : cameraOutput s l = some o) (hx : x ≠ o) :
    look (seedArbiter l s).talk.orders x = look s.talk.orders x := by
  rw [seedArbiter_eq, look_orders_requests (s := writeFeed l _ s) hout hx]
  exact look_orders_writeFeed hout hx _

/-- The requests that the claim of LINK.ENROLL makes, key by key. -/
theorem requests_eq_foldl_range (l : Nat) (s u : State) :
    (requesters l s).foldl (fun u k => requestFeed k l u) u = (List.range 32).foldl (fun u k =>
      if (keyAt s k).active = true ∧ l ∈ (keyAt s k).destinations then requestFeed k l u else u) u := by
  rw [requesters, indicesWhere, List.foldl_filter]
  simp only [Bool.and_eq_true, List.contains_iff_mem]
  rfl

/-! ## The enrollment (R73) -/

/-- From `v`, in which the record is bound, to `t` link `l` is enrolled as `e`. -/
structure Enrolls (l : Nat) (e : EnrolledLink) (v t : State) : Prop where
  frame : t = { v with
    dir := { v.dir with entries := put v.dir.entries l (.enrolled e) }
    ctl := { v.ctl with changed := setAdd l v.ctl.changed }
    tally := { v.tally with cues := t.tally.cues }
    talk := { v.talk with keys := t.talk.keys, arbiters := t.talk.arbiters, orders := t.talk.orders } }
  cues : ∀ j, heldCue t j = if j = l then computedCue t j else heldCue v j
  keys : KeysKept v t
  others : ∀ j, j ≠ l → arbiterAt t j = arbiterAt v j
  statuses : roleOutput e.role ≠ none → StatusesFollow v t
  seeded : roleOutput e.role ≠ none → arbiterAt t l =
    (requesters l v).foldl (fun a k => (requestOutcome (keyAt v) k a).1) (clearedArbiter (arbiterAt v l))
  order : ∀ o < 128, roleOutput e.role = some o → look t.talk.orders o = some (feedInput t (arbiterAt t l))
  otherOrders : ∀ o, roleOutput e.role = some o → ∀ x, x ≠ o → look t.talk.orders x = look v.talk.orders x
  mic : roleOutput e.role = none → t.talk = v.talk

/-- A link that is not LIVE or FADING has no CUE set pending (R126, R127). -/
theorem recomputeCue_frame (h : cueDelivered s l = false) : recomputeCue l s = { s with
    tally := { s.tally with cues := (recomputeCue l s).tally.cues } } := by
  rw [recomputeCue_eq, if_neg fun hd => by rw [h] at hd; cases hd.2]

theorem cueDelivered_standby (he : entry s l = .enrolled e) (hp : e.presence = .standby) :
    cueDelivered s l = false := by
  rw [cueDelivered, enrolledLink_eq_some.2 he]
  simp [hp]

theorem statusesAfter_true (s : State) : statusesAfter true s = refreshStatuses s := rfl

theorem statusesAfter_false (s : State) : statusesAfter false s = s := rfl

/-- The key statuses that follow write the keys alone. -/
theorem statusesAfter_keys (camera : Bool) (s : State) :
    statusesAfter camera s = { s with talk := { s.talk with keys := (statusesAfter camera s).talk.keys } } := by
  cases camera with
  | false => rfl
  | true => rw [statusesAfter_true, ← refreshStatuses_frame]

theorem keysKept_statusesAfter (camera : Bool) (h : s.talk.keys = v.talk.keys) :
    KeysKept v (statusesAfter camera s) := by
  cases camera with
  | false => exact keysKept_of_keys h
  | true =>
    rw [statusesAfter_true]
    exact keysKept_refreshStatuses h

/-- An order carries a key's source, whatever the statuses are. -/
theorem feedInput_of_keysKept (h : KeysKept s t) (a : Arbiter) : feedInput t a = feedInput s a := by
  unfold feedInput
  cases a.holder with
  | none => rfl
  | some g => dsimp only; rw [h g]

theorem enrolls_enroll (hl : l < 64) (hp : e.presence = .standby) : Enrolls l e v (enroll l e v) := by
  unfold enroll
  dsimp only
  generalize hu : markChanged l (setEntry l (.enrolled e) v) = u
  have htalk : u.talk = v.talk := by rw [← hu]; rfl
  have htally : u.tally = v.tally := by rw [← hu]; rfl
  have hrequesters : requesters l u = requesters l v := by rw [requesters, requesters, htalk]
  have hkeyAt : keyAt u = keyAt v := by funext k; rw [keyAt, keyAt, htalk]
  have harbiterAt (j : Nat) : arbiterAt u j = arbiterAt v j := by rw [arbiterAt, arbiterAt, htalk]
  have hentry : entry u l = .enrolled e := by
    rw [← hu, entry_markChanged, entry_setEntry, if_pos ⟨rfl, hl⟩]
  have hout : cameraOutput u l = roleOutput e.role := by rw [cameraOutput_shown, hentry]; rfl
  have hcamera (h : roleOutput e.role ≠ none) : isCamera u l = true := by
    rw [isCamera, hout, Option.isSome_iff_ne_none]
    exact h
  have hchanged := feedsChanged_becomeDestination l u
  have hseeded (h : isCamera u l = true) : becomeDestination l u = seedArbiter l u := if_pos h
  have hmic (h : isCamera u l = false) : becomeDestination l u = u := if_neg (Bool.eq_false_iff.1 h)
  generalize becomeDestination l u = w at hchanged hseeded hmic
  have hcue := recomputeCue_frame (cueDelivered_standby ((congrFun hchanged.entries l).trans hentry) hp)
  have hfollow := cuesFollow_recomputeCue l w
  generalize recomputeCue l w = y at hcue hfollow
  have hykeys : y.talk.keys = v.talk.keys := by rw [hfollow.talk, hchanged.frame, ← htalk]
  have hframe := statusesAfter_keys (isCamera u l) y
  have hkept : KeysKept v (statusesAfter (isCamera u l) y) := keysKept_statusesAfter _ hykeys
  have hstatuses (h : isCamera u l = true) : StatusesFollow v (statusesAfter (isCamera u l) y) := by
    rw [h, statusesAfter_true]
    exact statusesFollow_refreshStatuses hykeys
  have hlast (h : isCamera u l = false) : statusesAfter (isCamera u l) y = y := by rw [h, statusesAfter_false]
  generalize statusesAfter (isCamera u l) y = t at hframe hkept hstatuses hlast
  have harbiter (j : Nat) : arbiterAt t j = arbiterAt w j := by rw [arbiterAt, arbiterAt, hframe, hfollow.talk]
  have horders : t.talk.orders = w.talk.orders := by rw [hframe, hfollow.talk]
  constructor
  case frame => rw [hframe, hcue, hchanged.frame, ← hu]; rfl
  case cues =>
    intro j
    have hheld : heldCue t j = heldCue y j := by rw [hframe]; rfl
    have hcomputed : computedCue t j = computedCue y j := by rw [hframe]; rfl
    rw [hheld, hcomputed, hfollow.computed, hfollow.held, heldCue, heldCue, hchanged.tally, htally]
    simp only [List.mem_singleton]
  case keys => exact hkept
  case others =>
    intro j hj
    rw [harbiter, hchanged.others j (by simpa using hj), harbiterAt]
  case statuses => exact fun h => hstatuses (hcamera h)
  case seeded =>
    intro h
    rw [harbiter, hseeded (hcamera h), arbiterAt_seedArbiter hl, hrequesters, hkeyAt, harbiterAt]
  case order =>
    intro o ho hrole
    have hfits : OrderFits l o w := by
      rw [hseeded (hcamera (by rw [hrole]; exact nofun))]
      exact orderFits_seedArbiter (hout.trans hrole) ho
    have hinput : feedInput w = feedInput v := by
      funext b
      exact feedInput_of_keysKept (keysKept_of_keys (by rw [hchanged.frame, ← htalk])) b
    rw [horders, harbiter, feedInput_of_keysKept hkept, ← hinput]
    exact hfits
  case otherOrders =>
    intro o hrole x hx
    rw [horders, hseeded (hcamera (by rw [hrole]; exact nofun)),
      look_orders_seedArbiter (hout.trans hrole) hx, htalk]
  case mic =>
    intro h
    have hnot : isCamera u l = false := by rw [isCamera, hout, h]; rfl
    rw [hlast hnot, hfollow.talk, hmic hnot, htalk]

end

end Sys2Proof.Machine
end

section
/-! SUPPORT. The verdicts of LINK.ENROLL (R72). -/

namespace Sys2Proof.Machine

section
variable {s t v : State} {i id kind r o : Nat} {q : LinkParams} {c : Carrier}

/-- The parameters of an enrollment, those omitted at their defaults (R72, R73). -/
def enrolledSettings (q : LinkParams) : LinkSettings :=
  let fade := max 10 (min 10000 (q.fadeTime.getD 300))
  ⟨min 63 (q.floor.getD 12), fade, max (max 100 (min 60000 (q.lossTime.getD 2000))) fade, q.autoRetune == some 0,
    min 10000 (q.retuneDelay.getD 1000)⟩

/-- A default in range may be clamped with the rest. -/
theorem map_getD_eq {f : Nat → Nat} {d : Nat} (hd : f d = d) (n : Option Nat) : (n.map f).getD d = f (n.getD d) := by
  cases n with
  | none => exact hd.symm
  | some n => rfl

theorem applyParams_defaultSettings (h : ∀ a, q.autoRetune = some a → a ≤ 1) :
    applyParams defaultSettings q = some (enrolledSettings q) := by
  have hauto : (q.autoRetune.map (· == 0)).getD false = (q.autoRetune == some 0) := by
    cases q.autoRetune <;> rfl
  rw [applyParams_eq _ h]
  simp only [defaultSettings, enrolledSettings, hauto, map_getD_eq (f := min 63) (d := 12) rfl,
    map_getD_eq (f := clamp 10 10000) (d := 300) rfl, map_getD_eq (f := clamp 100 60000) (d := 2000) rfl,
    map_getD_eq (f := min 10000) (d := 1000) rfl, clamp]

theorem applyParams_none (held : LinkSettings) (h : ∃ a, q.autoRetune = some a ∧ 1 < a) :
    applyParams held q = none := by
  obtain ⟨a, ha, hlt⟩ := h
  rw [applyParams, ha]
  dsimp only
  rw [onOffChoice_of_lt hlt]
  rfl

/-- The role that an enrollment gives (R72). -/
def enrolledRole (kind o : Nat) : Role := if kind = 0 then .camera o 0 else .mic

theorem enrollRole_eq (hk : kind ≤ 1) (ho : kind = 0 → o ≤ 127) : enrollRole kind o = some (enrolledRole kind o) := by
  match kind, hk with
  | 0, _ => exact if_neg (not_lt.2 (ho rfl))
  | 1, _ => rfl

theorem enrollRole_none (h : 1 < kind ∨ (kind = 0 ∧ 127 < o)) : enrollRole kind o = none := by
  rcases h with hk | ⟨rfl, ho⟩
  · match kind, hk with
    | _ + 2, _ => rfl
  · exact if_pos ho

theorem roleOutput_enrolledRole (kind o : Nat) :
    roleOutput (enrolledRole kind o) = if kind = 0 then some o else none := by
  unfold enrolledRole
  split <;> rfl

theorem KeysKept.of_talk (h : KeysKept v t) (hv : v.talk = s.talk) : KeysKept s t := by
  intro k
  have hk := h k
  rwa [show keyAt v k = keyAt s k by rw [keyAt, keyAt, hv]] at hk

theorem StatusesFollow.of_talk (h : StatusesFollow v t) (hv : v.talk = s.talk) : StatusesFollow s t := by
  intro k hk
  have hk := h k hk
  rwa [show keyAt v k = keyAt s k by rw [keyAt, keyAt, hv]] at hk

/-- The fields of LINK.ENROLL are within their values (R72). -/
structure EnrollFields (i kind r o : Nat) (q : LinkParams) : Prop where
  index_le : i ≤ 63
  record_le : r ≤ 95
  kind_le : kind ≤ 1
  output_le : kind = 0 → o ≤ 127
  auto_le : ∀ a, q.autoRetune = some a → a ≤ 1

theorem enrollFields_of_not_badField
    (h : ¬ (63 < i ∨ 95 < r ∨ 1 < kind ∨ (kind = 0 ∧ 127 < o) ∨ ∃ a, q.autoRetune = some a ∧ 1 < a)) :
    EnrollFields i kind r o q := by
  simp only [not_or, not_and, not_lt, not_exists] at h
  obtain ⟨hi, hr, hk, ho, ha⟩ := h
  exact ⟨hi, hr, hk, ho, ha⟩

theorem outputHeldElsewhere_iff (s : State) (i o : Nat) :
    outputHeldElsewhere s i o = true ↔ ∃ j, j ≠ i ∧ cameraOutput s j = some o := by
  simp only [outputHeldElsewhere, List.any_eq_true, List.mem_range, Bool.and_eq_true, bne_iff_ne, beq_iff_eq]
  constructor
  · rintro ⟨j, -, h⟩
    exact ⟨j, h⟩
  · rintro ⟨j, hj, h⟩
    exact ⟨j, cameraOutput_lt h, hj, h⟩

theorem roleOutput_held_iff (s : State) (i kind o : Nat) :
    (roleOutput (enrolledRole kind o)).any (outputHeldElsewhere s i) = true ↔
      kind = 0 ∧ ∃ j, j ≠ i ∧ cameraOutput s j = some o := by
  rw [roleOutput_enrolledRole]
  split
  · next h => rw [Option.any_some, outputHeldElsewhere_iff, and_iff_right h]
  · next h => exact iff_of_false nofun fun hk => h hk.1

theorem linkEnrollRule_badField
    (h : 63 < i ∨ 95 < r ∨ 1 < kind ∨ (kind = 0 ∧ 127 < o) ∨ ∃ a, q.autoRetune = some a ∧ 1 < a) :
    linkEnrollRule i id kind r q o s = .refuse .badField := by
  unfold linkEnrollRule
  split
  · rfl
  · next hfields =>
    rw [Bool.or_eq_true, decide_eq_true_eq, decide_eq_true_eq, not_or] at hfields
    obtain ⟨hi, hr⟩ := hfields
    rw [or_iff_right hi, or_iff_right hr, ← or_assoc] at h
    rcases h with h | h
    · rw [enrollRole_none h]
    · rw [applyParams_none _ h]
      cases enrollRole kind o <;> rfl

/-- With its fields within their values LINK.ENROLL is decided on the directory and the plan. -/
theorem linkEnrollRule_of_fields (h : EnrollFields i kind r o q) : linkEnrollRule i id kind r q o s =
    if (entry s i).isEnrolled then .refuse .inUse
    else if heldElsewhere s i id then .refuse .duplicate
    else if (roleOutput (enrolledRole kind o)).any (outputHeldElsewhere s i) then .refuse .duplicate
    else (bindRecord r i s).elim (.refuse .badState) fun s' =>
      .accept (entryItems (.enrolled (enrolledEntry id (enrolledRole kind o) r (enrolledSettings q))))
        (enroll i (enrolledEntry id (enrolledRole kind o) r (enrolledSettings q)) s') := by
  have hi := h.index_le
  have hr := h.record_le
  have hrange : ¬ (decide (63 < i) || decide (95 < r)) = true := by
    rw [Bool.or_eq_true, decide_eq_true_eq, decide_eq_true_eq]
    omega
  rw [linkEnrollRule, if_neg hrange, enrollRole_eq h.kind_le h.output_le,
    applyParams_defaultSettings h.auto_le]
  cases bindRecord r i s <;> rfl

theorem bindRecord_none (h : ∀ c, planRecord s r ≠ .reserved c) : bindRecord r i s = none := by
  unfold bindRecord
  split
  · next c hc => exact absurd hc (h c)
  · rfl

/-- The conditions after BAD_FIELD in their order (R72). -/
theorem linkEnrollRule_refused (h : EnrollFields i kind r o q) :
    ((entry s i).isEnrolled = true → linkEnrollRule i id kind r q o s = .refuse .inUse) ∧
    ((entry s i).isEnrolled = false → (∃ j, j ≠ i ∧ entryIdent (entry s j) = some id) →
      linkEnrollRule i id kind r q o s = .refuse .duplicate) ∧
    ((entry s i).isEnrolled = false → ¬ (∃ j, j ≠ i ∧ entryIdent (entry s j) = some id) →
      (kind = 0 ∧ ∃ j, j ≠ i ∧ cameraOutput s j = some o) →
      linkEnrollRule i id kind r q o s = .refuse .duplicate) ∧
    ((entry s i).isEnrolled = false → ¬ (∃ j, j ≠ i ∧ entryIdent (entry s j) = some id) →
      ¬ (kind = 0 ∧ ∃ j, j ≠ i ∧ cameraOutput s j = some o) → (∀ c, planRecord s r ≠ .reserved c) →
      linkEnrollRule i id kind r q o s = .refuse .badState) := by
  simp only [← heldElsewhere_iff, ← roleOutput_held_iff]
  rw [linkEnrollRule_of_fields h]
  refine ⟨fun he => if_pos he, fun he hid => ?_, fun he hid hout => ?_, fun he hid hout hr => ?_⟩
  · rw [he, hid]; rfl
  · rw [he, if_neg nofun, if_neg hid, if_pos hout]
  · rw [he, if_neg nofun, if_neg hid, if_neg hout, bindRecord_none hr, Option.elim_none]

theorem linkEnrollRule_accepted (h : EnrollFields i kind r o q) (he : (entry s i).isEnrolled = false)
    (hid : ∀ j, j ≠ i → entryIdent (entry s j) ≠ some id) (hout : kind = 0 → ∀ j, j ≠ i → cameraOutput s j ≠ some o)
    (hr : planRecord s r = .reserved c) : linkEnrollRule i id kind r q o s =
      .accept (entryItems (.enrolled (enrolledEntry id (enrolledRole kind o) r (enrolledSettings q))))
        (enroll i (enrolledEntry id (enrolledRole kind o) r (enrolledSettings q))
          (markStale (setRecord r (.active c i) s))) := by
  have hfree : ¬ heldElsewhere s i id = true := fun hheld => by
    obtain ⟨j, hj, h⟩ := (heldElsewhere_iff s i id).1 hheld
    exact hid j hj h
  have hunheld : ¬ (roleOutput (enrolledRole kind o)).any (outputHeldElsewhere s i) = true := fun hheld => by
    obtain ⟨hk, j, hj, h⟩ := (roleOutput_held_iff s i kind o).1 hheld
    exact hout hk j hj h
  rw [linkEnrollRule_of_fields h, he, if_neg nofun, if_neg hfree, if_neg hunheld,
    bindRecord_eq_some.2 ⟨c, hr, rfl⟩, Option.elim_some]

end

end Sys2Proof.Machine
end

section
namespace Sys2Proof.Proofs
open Sys2Proof.Machine

/-- Settles O21: an accepted LINK.ENROLL binds the record and enrolls the link (`enrolls_enroll`), whose fields are the
parts of the claim; the refusals are the rule's verdicts in their order. -/
theorem linkEnroll : Obligations.LinkEnroll := by
  unfold Obligations.LinkEnroll
  refine ⟨?accepted, ?refusals⟩
  case refusals =>
    intro p i id kind r o q s hm refused badField inUse idHeld outputHeld
    have refusal {st} (h : linkEnrollRule i id kind r q o (completeFrame p s) = .refuse st) : refused st :=
      congrArg _ (takeRequest_refused hm h)
    refine ⟨fun h => refusal (linkEnrollRule_badField h), ?_⟩
    have hverdicts (h : ¬ badField) := linkEnrollRule_refused (id := id) (s := completeFrame p s)
      (enrollFields_of_not_badField h)
    simp only [entry_completeFrame, cameraOutput_completeFrame, planRecord_completeFrame] at hverdicts
    refine ⟨fun h he => ?_, fun h he hid => ?_, fun h he hid hout => ?_, fun h he hid hout hr => ?_⟩
    · obtain ⟨hinUse, -, -, -⟩ := hverdicts h
      exact refusal (hinUse he)
    · obtain ⟨-, hident, -, -⟩ := hverdicts h
      exact refusal (hident (Bool.eq_false_iff.2 he) hid)
    · obtain ⟨-, -, houtput, -⟩ := hverdicts h
      exact refusal (houtput (Bool.eq_false_iff.2 he) hid hout)
    · obtain ⟨-, -, -, hstate⟩ := hverdicts h
      exact refusal (hstate (Bool.eq_false_iff.2 he) hid hout hr)
  case accepted =>
    intro p i id kind r o q c s hm hi hk ho hauto hfree hid hout hr fade loss e
    have hrecord : r < 96 := lt_of_planRecord_ne (by rw [hr]; exact nofun)
    have hfields : EnrollFields i kind r o q := ⟨hi, Nat.le_of_lt_succ hrecord, hk, ho, hauto⟩
    have hrule := linkEnrollRule_accepted (id := id) (s := completeFrame p s) (c := c) hfields
      (by rwa [entry_completeFrame]) (by simpa using hid) (by simpa using hout) (by rwa [planRecord_completeFrame])
    have henrolls := enrolls_enroll (l := i) (e := e) (v := markStale (setRecord r (.active c i) (completeFrame p s)))
      (Nat.lt_succ_of_le hi) rfl
    have hexec : exec (.linkEnroll p i id kind r q o) s = .next (answered p .linkEnroll (entryItems (.enrolled e))
        (enroll i e (markStale (setRecord r (.active c i) (completeFrame p s))))) :=
      congrArg _ (takeRequest_answered hm hrule)
    generalize enroll i e (markStale (setRecord r (.active c i) (completeFrame p s))) = t at henrolls hexec
    have hframe : t = { completeFrame p s with
        plan := { s.plan with records := t.plan.records }
        dir := { s.dir with entries := t.dir.entries }
        engine := { s.engine with running := s.engine.running.map fun q => { q with stale := true } }
        tally := { s.tally with cues := t.tally.cues }
        talk := { s.talk with keys := t.talk.keys, arbiters := t.talk.arbiters, orders := t.talk.orders }
        ctl.changed := setAdd i s.ctl.changed } := by
      rw [henrolls.frame]
      cases p <;> rfl
    generalize hv : markStale (setRecord r (.active c i) (completeFrame p s)) = v at henrolls
    have hvtalk : v.talk = s.talk := by rw [← hv]; simp
    have hvcues (j : Nat) : heldCue v j = heldCue s j := by rw [← hv]; cases p <;> rfl
    have hventry (j : Nat) : entry v j = entry s j := by rw [← hv]; simp
    have hkeyAt : keyAt v = keyAt s := by funext k; rw [keyAt, keyAt, hvtalk]
    have harbiterAt (j : Nat) : arbiterAt v j = arbiterAt s j := by rw [arbiterAt, arbiterAt, hvtalk]
    have hrequesters : requesters i v = requesters i s := by rw [requesters, requesters, hvtalk]
    have hentry (j : Nat) : entry t j = if i = j then .enrolled e else entry s j := by
      rw [henrolls.frame, ← hventry]
      exact (look_put ..).trans (if_congr (and_iff_left (Nat.lt_succ_of_le hi)) rfl rfl)
    have hplan (j : Nat) : planRecord t j = if r = j then .active c i else planRecord s j := by
      have hkept : planRecord t j = planRecord v j := by rw [henrolls.frame]; rfl
      rw [hkept, ← hv, planRecord_markStale, planRecord_setRecord, planRecord_completeFrame]
      exact if_congr (and_iff_left hrecord) rfl rfl
    have hrole : roleOutput e.role = if kind = 0 then some o else none := roleOutput_enrolledRole kind o
    have hcamera (h : kind = 0) : roleOutput e.role = some o := hrole.trans (if_pos h)
    refine ⟨t, hexec, ?entry, fun j hj => ?entries, ?record, fun j hj => ?records, ?changed, ?cue, fun j hj => ?cues,
      fun h => ?order, fun h => ?seeded, fun j hj => (henrolls.others j hj).trans (harbiterAt j), ?keys,
      fun h => ?statuses, fun h x hx => ?orders, fun h => ?mic, hframe⟩
    case entry => rw [hentry, if_pos rfl]
    case entries => rw [hentry, if_neg (Ne.symm hj)]
    case record => rw [hplan, if_pos rfl]
    case records => rw [hplan, if_neg (Ne.symm hj)]
    case changed => rw [hframe]
    case cue => rw [henrolls.cues, if_pos rfl]
    case cues => rw [henrolls.cues, if_neg hj, hvcues]
    case order =>
      have horder := henrolls.order o (Nat.lt_succ_of_le (ho h)) (hcamera h)
      exact ⟨by rw [horder]; rfl, horder⟩
    case seeded =>
      have hseeded := henrolls.seeded (by rw [hcamera h]; exact nofun)
      rw [hrequesters, hkeyAt, harbiterAt] at hseeded
      refine ⟨fun k => ?_, ?_⟩
      · rw [hasRole_iff, hseeded, mem_roleKeys_requests, mem_requesters, or_iff_left (by exact List.not_mem_nil),
          Nat.lt_succ_iff]
      · intro cleared
        have hcleared : arbiterAt cleared i = clearedArbiter (arbiterAt s i) :=
          (arbiterAt_setArbiter ..).trans (if_pos ⟨rfl, Nat.lt_succ_of_le hi⟩)
        rw [hseeded, ← requests_eq_foldl_range i s cleared, arbiterAt_requestFeeds (Nat.lt_succ_of_le hi), hcleared]
        rfl
    case keys => exact henrolls.keys.of_talk hvtalk
    case statuses => exact (henrolls.statuses (by rw [hcamera h]; exact nofun)).of_talk hvtalk
    case orders => rw [henrolls.otherOrders o (hcamera h) x hx, hvtalk]
    case mic => rw [henrolls.mic (by rw [hrole, if_neg (by omega)]), hvtalk]

end Sys2Proof.Proofs
end

section
/-! SUPPORT. The verdicts of RETURN.PASS (R165). -/

namespace Sys2Proof.Machine

section
variable {s : State} {l : Nat} {b : List Byte}

theorem returnPassRule_badField (h : 63 < l ∨ b = [] ∨ 16 < b.length) : returnPassRule l b s = .refuse .badField := by
  refine if_pos ?_
  rw [Bool.or_eq_true, Bool.or_eq_true, decide_eq_true_eq, decide_eq_true_eq, List.isEmpty_iff, or_assoc]
  exact h

/-- With its link and payload in range RETURN.PASS is decided on the link and on the room in the PASS queue. -/
theorem returnPassRule_of_fields (hl : l ≤ 63) (hpos : 1 ≤ b.length) (hlen : b.length ≤ 16) : returnPassRule l b s =
    if isCamera s l = false then .refuse .badState
    else if 16 ≤ s.ret.passQueue.length then .refuse .full
    else .accept [.one (.word s.ret.passQueue.length)]
      { s with ret.passQueue := s.ret.passQueue ++ [⟨l, b⟩] } := by
  have hfields : ¬ (decide (63 < l) || b.isEmpty || decide (Config.passBytes < b.length)) = true := by
    simp only [Bool.or_eq_true, decide_eq_true_eq, List.isEmpty_iff, not_or, not_lt]
    exact ⟨⟨hl, List.length_pos_iff.1 hpos⟩, hlen⟩
  rw [returnPassRule, if_neg hfields]
  cases isCamera s l <;> rfl

end

end Sys2Proof.Machine
end

section
namespace Sys2Proof.Proofs
open Sys2Proof.Machine

/-- Settles O41: RETURN.PASS by its rule's verdicts, and RETURN.GET by the kinds of the message in flight. -/
theorem returnRequests : Obligations.ReturnRequests := by
  unfold Obligations.ReturnRequests
  intro p s
  have hret : (completeFrame p s).ret = s.ret := completeFrame_ret s p
  refine ⟨fun l b hm => ?pass, ?get, ?items⟩
  case pass =>
    have refusal {st} (h : returnPassRule l b (completeFrame p s) = .refuse st) :
        exec (.returnPass p l b) s = .next (refusedWith p .returnPass st s) := congrArg _ (takeRequest_refused hm h)
    have hverdict (hl : l ≤ 63) (hpos : 1 ≤ b.length) (hlen : b.length ≤ 16) :=
      returnPassRule_of_fields (s := completeFrame p s) hl hpos hlen
    rw [isCamera_of_entry (entry_completeFrame s p l)] at hverdict
    refine ⟨fun hl hpos hlen hc hroom => ?accepted, fun h => refusal (returnPassRule_badField h),
      fun hl hpos hlen hc => refusal ?badState, fun hl hpos hlen hc hfull => refusal ?full⟩
    case badState => rw [hverdict hl hpos hlen, if_pos hc]
    case full => rw [hverdict hl hpos hlen, if_neg (by rw [hc]; nofun), if_pos (by rwa [hret])]
    case accepted =>
      have haccept := hverdict hl hpos hlen
      rw [if_neg (by rw [hc]; nofun), if_neg (by rw [hret]; exact not_le.2 hroom)] at haccept
      refine (congrArg _ (takeRequest_answered hm haccept)).trans ?_
      cases p <;> rfl
  case get =>
    have hread : returnGetRule (completeFrame p s) = .accept (returnItems s.ret) (completeFrame p s) := by
      rw [returnGetRule, hret]
    exact congrArg _ (takeRequest_answered (maySend_read rfl) hread)
  case items =>
    intro r set
    unfold returnItems
    rcases r.inFlight with _ | ⟨l, n, content, d⟩
    · rfl
    · cases content <;> rfl

end Sys2Proof.Proofs
end

section
/-! SUPPORT. The sends of the return port, and how a message in flight ends (R166 to R170). -/

namespace Sys2Proof.Machine

section
variable {s : State} {l n : Nat} {e : EnrolledLink} {r : RetuneRecord} {c : Carrier} {m : FlyingMessage}

/-! ## The choice of the message (R166, R167) -/

/-- A TUNE carries the centre and half width of the new carrier of its link in ORDERED. -/
theorem tuneContent_ordered (he : entry s l = .enrolled e) (hp : e.phase = .ordered r n)
    (hc : (planRecord s n).carrier = some c) : tuneContent s l = .tune c.centre c.halfWidth := by
  have hnew : newCarrierOf s l = some n := by rw [newCarrierOf_enrolled he, hp]; rfl
  rw [tuneContent, hnew, Option.map_some, Option.bind_some, hc, Option.getD_some]

theorem startReturn_tune (hfree : s.ret.inFlight = none) (hnext : cyclicNext s.ret.lastTune s.ret.tunePending = some l) :
    startReturn s = fly l (tuneContent s l) (removeTunePending l { s with ret.lastTune := some l }) := by
  rw [startReturn, hfree, hnext]

theorem startReturn_cue (hfree : s.ret.inFlight = none) (htune : s.ret.tunePending = [])
    (hnext : cyclicNext s.ret.lastCue s.ret.cuePending = some l) :
    startReturn s = fly l (.cue (heldCue s l)) (removeCuePending l { s with ret.lastCue := some l }) := by
  rw [startReturn, hfree, htune, cyclicNext_nil, hnext]

theorem startReturn_pass {p : PassEntry} {rest : List PassEntry} (hfree : s.ret.inFlight = none)
    (htune : s.ret.tunePending = []) (hcue : s.ret.cuePending = []) (hqueue : s.ret.passQueue = p :: rest) :
    startReturn s = fly p.link (.pass p.payload) { s with ret.passQueue := rest } := by
  rw [startReturn, hfree, htune, hcue, cyclicNext_nil, cyclicNext_nil, hqueue]

/-! ## DONE and the timeout (R169, R170) -/

theorem takeDone_named (hm : s.ret.inFlight = some m) :
    takeDone m.number s = { s with ret.inFlight := none } := by
  rw [takeDone, hm]
  exact if_pos rfl

/-- DONE that names no message in flight is discarded. -/
theorem takeDone_other (h : ∀ m, s.ret.inFlight = some m → m.number ≠ n) : takeDone n s = s := by
  unfold takeDone
  split
  · next m hm => exact if_neg (h m hm)
  · rfl

theorem exec_returnTimeout_reached (hm : s.ret.inFlight = some m) (hd : reached m.deadline s.clock = true) :
    exec .returnTimeout s = .next (requeue m (raise .returnFault { s with ret.inFlight := none })) := by
  show execReturnTimeout s = _
  rw [execReturnTimeout, hm]
  exact congrArg _ (if_pos hd)

end

end Sys2Proof.Machine
end

section
namespace Sys2Proof.Proofs
open Sys2Proof.Machine

/-- Settles O42: a start by the link that `cyclicNext` chooses of each pending set, and the ends by the equations of
their operations. -/
theorem returnSendsAndEnds : Obligations.ReturnSendsAndEnds := by
  unfold Obligations.ReturnSendsAndEnds
  refine ⟨fun s hfree => ?starts, fun s => ⟨fun m hm => ?_, fun n hother => ?_, fun m hm hd => ?timeout⟩⟩
  case starts =>
    intro first message next
    refine ⟨fun l n r e c hset hfirst he hp hc => ?tune, fun l hset htune hfirst => ?cue,
      fun e rest htune hcue hqueue => congrArg _ (startReturn_pass hfree htune hcue hqueue)⟩
    case tune =>
      obtain ⟨hsorted, -⟩ := hset
      obtain ⟨hmem, hleast⟩ := hfirst
      have hstart := startReturn_tune hfree (cyclicNext_eq_some _ _ l hsorted hmem hleast)
      rw [tuneContent_ordered he hp hc] at hstart
      exact congrArg _ hstart
    case cue =>
      obtain ⟨hsorted, -⟩ := hset
      obtain ⟨hmem, hleast⟩ := hfirst
      exact congrArg _ (startReturn_cue hfree htune (cyclicNext_eq_some _ _ l hsorted hmem hleast))
  · exact congrArg _ (takeDone_named (s := { s with ports.ret := none }) hm)
  · exact congrArg _ (takeDone_other (s := { s with ports.ret := none }) hother)
  case timeout =>
    intro t
    rw [exec_returnTimeout_reached hm hd]
    unfold requeue
    cases m.content <;> rfl

end Sys2Proof.Proofs
end

section
/-! SUPPORT. Every request is taken with the rule of its own, and so is answered: with the rule's verdict, or refused
for want of authority (R179, R180). -/

namespace Sys2Proof.Machine

/-- The rule that decides a request; a command that is no request has none. -/
def ruleOf : Instr → State → Verdict
  | .groupSet _ g lo up gs gp two three st lim => groupSetRule g lo up gs gp two three st lim
  | .groupGet _ g => groupGetRule g
  | .planPut _ i st c h g => planPutRule i st c h g
  | .planDrop _ i => planDropRule i
  | .planGet _ i => planGetRule i
  | .planList _ g => planListRule g
  | .checkStart _ target => checkStartRule target
  | .findStart _ g lo up st h lim => findStartRule g lo up st h lim
  | .checkRead _ k => checkReadRule k
  | .checkCancel _ k => checkCancelRule k
  | .surveySetup _ a w x => surveySetupRule a w x
  | .surveyStart _ j r b n m x => surveyStartRule j r b n m x
  | .surveyStop _ j => surveyStopRule j
  | .surveyRead _ j => surveyReadRule j
  | .binsRead _ a b => binsReadRule a b
  | .binsClear _ a b => binsClearRule a b
  | .linkNote _ l x k => linkNoteRule l x k
  | .linkEnroll _ l x k i q o => linkEnrollRule l x k i q o
  | .linkSet _ l q => linkSetRule l q
  | .linkRetire _ l => linkRetireRule l
  | .linkErase _ l => linkEraseRule l
  | .linkGet _ l => linkGetRule l
  | .linkProbe _ x => linkProbeRule x
  | .linkChanges _ => linkChangesRule
  | .directoryPin _ b => directoryPinRule b
  | .directoryAdmit _ x => directoryAdmitRule x
  | .directoryGet _ => directoryGetRule
  | .captureRead _ => captureReadRule
  | .clockRead _ => clockReadRule
  | .linkTimers _ l => linkTimersRule l
  | .linkRetune _ l n k => linkRetuneRule l n k
  | .linkHalt _ l => linkHaltRule l
  | .retuneLimit _ x => retuneLimitRule x
  | .retuneGet _ l => retuneGetRule l
  | .retuneQueue _ => retuneQueueRule
  | .tallyMap _ a l => tallyMapRule a l
  | .tallyOverride _ l o => tallyOverrideRule l o
  | .tallySources _ a b => tallySourcesRule a b
  | .tallyGet _ l => tallyGetRule l
  | .lampSet _ n l c d v => lampSetRule n l c d v
  | .lampGet _ n => lampGetRule n
  | .keySet _ k v m lk src ds => keySetRule k v m lk src ds
  | .keyPress _ k => keyPressRule k
  | .keyLift _ k => keyLiftRule k
  | .keyGet _ k => keyGetRule k
  | .feedDefault _ l i => feedDefaultRule l i
  | .feedGet _ l => feedGetRule l
  | .matrixGet _ o => matrixGetRule o
  | .returnPass _ l b => returnPassRule l b
  | .returnGet _ => returnGetRule
  | .authorityYield p => authorityYieldRule p
  | .causeRead _ => causeReadRule
  | .causeClear _ n => causeClearRule n
  | .causeMask _ n => causeMaskRule n
  | .portFaults _ => portFaultsRule
  | .runRestart _ => runRestartRule
  | _ => fun _ => .refuse .badField

section
variable {i : Instr} {p : Port} {c : RequestCode} {raws : List Raw} {rule : State → Verdict}

/-- A request is taken on its port, with its code and its rule (R180). -/
theorem exec_request (h : requestParts i = some (p, c, raws)) (s : State) :
    exec i s = .next (takeRequest p c (ruleOf i) s) := by
  cases i
  case checkStart q target => cases target <;> cases h <;> rfl
  all_goals cases h
  all_goals rfl

/-- The rule of a request that reads leaves the state as it was (R179). -/
theorem after_ruleOf_read (h : requestParts i = some (p, c, raws)) (hread : isRead c = true) (s : State) :
    (ruleOf i s).after s = s := by
  cases i
  case checkStart q target => cases target <;> cases h <;> cases hread
  all_goals cases h
  all_goals cases hread
  case groupGet g => exact after_groupGetRule s g
  case planGet k => exact after_planGetRule s k
  case planList g => exact after_planListRule s g
  case surveyRead j => exact after_surveyReadRule s j
  case binsRead a b => exact after_binsReadRule s a b
  case linkGet l => exact after_linkGetRule s l
  case linkProbe x => exact after_linkProbeRule s x
  case linkTimers l => exact after_linkTimersRule s l
  case retuneGet l => exact after_retuneGetRule s l
  case tallySources a b => exact after_tallySourcesRule s a b
  case tallyGet l => exact after_tallyGetRule s l
  case lampGet n => exact after_lampGetRule s n
  case keyGet k => exact after_keyGetRule s k
  case feedGet l => exact after_feedGetRule s l
  case matrixGet o => exact after_matrixGetRule s o
  all_goals rfl

/-- A mutating request on the port without authority is refused before its rule is asked (R179, R180 step 2). -/
theorem takeRequest_unauthorised {s : State} (hm : mutating c = true) (ho : s.ctl.owner ≠ p) :
    takeRequest p c rule s = refusedWith p c .notAuthority s := by
  have hauth : authorised p c (completeFrame p s) = false := by simpa [authorised, hm] using ho
  rw [takeRequest, hauth]
  rfl

/-- A request is answered with its own code; without OK the answer has no fields and nothing else changes (R180). -/
theorem takeRequest_answers (p : Port) (c : RequestCode) (rule : State → Verdict) (s : State) :
    ∃ st items u, takeRequest p c rule s = respond p ⟨c.number, st, items⟩ u ∧
      (st ≠ .ok → items = [] ∧ u = completeFrame p s) := by
  rcases takeRequest_cases p c rule s with ⟨-, ht⟩ | ⟨st, -, -, ht⟩ | ⟨items, t, -, -, ht⟩
  · exact ⟨_, _, _, ht, fun _ => ⟨rfl, rfl⟩⟩
  · exact ⟨_, _, _, ht, fun _ => ⟨rfl, rfl⟩⟩
  · exact ⟨_, _, _, ht, fun hne => absurd rfl hne⟩

/-- A request whose rule leaves the state as it was changes nothing but its response. -/
theorem takeRequest_reads (h : ∀ u, (rule u).after u = u) (p : Port) (c : RequestCode) (s : State) :
    ∃ st items, takeRequest p c rule s = respond p ⟨c.number, st, items⟩ (completeFrame p s) := by
  rcases takeRequest_cases p c rule s with ⟨-, ht⟩ | ⟨st, -, -, ht⟩ | ⟨items, t, -, hr, ht⟩
  · exact ⟨_, _, ht⟩
  · exact ⟨_, _, ht⟩
  · have hkept : t = completeFrame p s := by simpa [hr] using h (completeFrame p s)
    exact ⟨_, _, hkept ▸ ht⟩

end

end Sys2Proof.Machine
end

section
namespace Sys2Proof.Proofs
open Sys2Proof.Machine

/-- Settles O5: the test of authority comes before the request's own rule. -/
theorem mutatingNeedsAuthority : Obligations.MutatingNeedsAuthority := by
  unfold Obligations.MutatingNeedsAuthority
  intro i p c raws s hparts hmutating howner
  rw [exec_request hparts, takeRequest_unauthorised hmutating howner]

/-- Settles O6: every request goes through `takeRequest`, and the rule of a read leaves the state as it was. -/
theorem refusalsAndReadsChangeNothing : Obligations.RefusalsAndReadsChangeNothing := by
  unfold Obligations.RefusalsAndReadsChangeNothing
  constructor
  · intro i p c raws s hparts
    obtain ⟨st, items, u, ht, hrefused⟩ := takeRequest_answers p c (ruleOf i) s
    exact ⟨st, items, u, by rw [exec_request hparts, ht], hrefused⟩
  · intro i p c raws s hparts hread
    obtain ⟨st, items, ht⟩ := takeRequest_reads (after_ruleOf_read hparts hread) p c s
    exact ⟨st, items, by rw [exec_request hparts, ht]⟩

end Sys2Proof.Proofs
end

section
/-! SUPPORT. What every command leaves of the command queue, the arrivals, the authority owner and the causes that are
set, but for the few that give authority away or clear causes: the shared operations (R177, R178, R181). -/

namespace Sys2Proof.Machine

/-- From `s` to `t` the queue, the arrivals and the authority owner stay. A conjunction and no structure, so that a
write to another field keeps it by unfolding alone. -/
def QueueKept (s t : State) : Prop :=
  t.pending = s.pending ∧ t.arriving = s.arriving ∧ t.ctl.owner = s.ctl.owner

/-- From `s` to `t` the queue, the arrivals and the authority owner stay, and no cause is cleared. -/
def Steady (s t : State) : Prop := QueueKept s t ∧ ∀ c, causeIsSet c s = true → causeIsSet c t = true

section
variable {s t u : State}

/-! ## What is kept -/

theorem QueueKept.pending (h : QueueKept s t) : t.pending = s.pending := h.1

theorem QueueKept.arriving (h : QueueKept s t) : t.arriving = s.arriving := h.2.1

theorem QueueKept.owner (h : QueueKept s t) : t.ctl.owner = s.ctl.owner := h.2.2

theorem Steady.queueKept (h : Steady s t) : QueueKept s t := h.1

theorem Steady.causes (h : Steady s t) : ∀ c, causeIsSet c s = true → causeIsSet c t = true := h.2

theorem QueueKept.trans (h : QueueKept s t) (h' : QueueKept t u) : QueueKept s u :=
  ⟨h'.pending.trans h.pending, h'.arriving.trans h.arriving, h'.owner.trans h.owner⟩

theorem Steady.refl (s : State) : Steady s s := ⟨⟨rfl, rfl, rfl⟩, fun _ => id⟩

/-- The control block stays. -/
theorem Steady.of_ctl (hp : t.pending = s.pending) (ha : t.arriving = s.arriving) (hc : t.ctl = s.ctl) : Steady s t :=
  ⟨⟨hp, ha, by rw [hc]⟩, fun c h => by rwa [causeIsSet, hc]⟩

theorem Steady.trans (h : Steady s t) (h' : Steady t u) : Steady s u :=
  ⟨h.queueKept.trans h'.queueKept, fun c => h'.causes c ∘ h.causes c⟩

theorem steady_raise (c : Cause) (s : State) : Steady s (raise c s) :=
  ⟨⟨rfl, rfl, rfl⟩, fun _ => causeIsSet_of_or rfl⟩

/-- A run of operations that each keep the queue and the causes keeps them. -/
theorem steady_foldl {α : Type} {f : State → α → State} (hf : ∀ s a, Steady s (f s a)) (as : List α) (s : State) :
    Steady s (as.foldl f s) := by
  induction as generalizing s with
  | nil => exact .refl s
  | cons a as ih => exact (hf s a).trans (ih _)

/-! ## Frames, responses and partial messages -/

theorem steady_completeFrame (p : Port) (s : State) : Steady s (completeFrame p s) := by
  cases p <;> exact .refl s

theorem steady_respond (p : Port) (r : Response) (s : State) : Steady s (respond p r s) := by
  unfold respond
  split
  · exact .refl s
  · split <;> exact .refl s

theorem steady_setPortPartial (line : InPort) (v : Option Partial) (s : State) :
    Steady s (setPortPartial line v s) := by
  cases line <;> exact .refl s

theorem steady_framingFault (line : SerialLine) (s : State) : Steady s (framingFault line s) :=
  ⟨⟨rfl, rfl, rfl⟩, fun _ => causeIsSet_of_or rfl⟩

theorem steady_parityFault (line : SerialLine) (s : State) : Steady s (parityFault line s) :=
  ⟨⟨rfl, rfl, rfl⟩, fun _ => causeIsSet_of_or rfl⟩

theorem steady_discardMalformed (line : InPort) (s : State) : Steady s (discardMalformed line s) :=
  (steady_setPortPartial line none s).trans (steady_framingFault _ _)

/-- A request keeps what its rule keeps. -/
theorem steady_takeRequest {p : Port} {c : RequestCode} {rule : State → Verdict}
    (h : ∀ u, Steady u ((rule u).after u)) (s : State) : Steady s (takeRequest p c rule s) := by
  have hframe := steady_completeFrame p s
  obtain ⟨r, ht | ht⟩ := takeRequest_after s p c rule
  · rw [ht]
    exact (hframe.trans (h _)).trans (steady_respond ..)
  · rw [ht]
    exact hframe.trans (steady_respond ..)

theorem queueKept_takeRequest {p : Port} {c : RequestCode} {rule : State → Verdict}
    (h : ∀ u, QueueKept u ((rule u).after u)) (s : State) : QueueKept s (takeRequest p c rule s) := by
  have hframe := (steady_completeFrame p s).queueKept
  obtain ⟨r, ht | ht⟩ := takeRequest_after s p c rule
  · rw [ht]
    exact (hframe.trans (h _)).trans (steady_respond ..).queueKept
  · rw [ht]
    exact hframe.trans (steady_respond ..).queueKept

/-! ## Feeds, tally and return port -/

theorem steady_orderFeed (l : Nat) (s : State) : Steady s (orderFeed l s) := by
  rw [orderFeed_frame]
  exact .refl s

theorem steady_writeFeed (l : Nat) (x : Arbiter × Bool) (s : State) : Steady s (writeFeed l x s) :=
  .of_ctl rfl rfl rfl

theorem steady_requestFeed (k l : Nat) (s : State) : Steady s (requestFeed k l s) := by
  rw [requestFeed_eq]
  exact steady_writeFeed ..

theorem steady_withdrawFeed (k l : Nat) (s : State) : Steady s (withdrawFeed k l s) := by
  rw [withdrawFeed_eq]
  exact steady_writeFeed ..

theorem steady_refreshStatuses (s : State) : Steady s (refreshStatuses s) := by
  rw [refreshStatuses_frame]
  exact .of_ctl rfl rfl rfl

theorem steady_recomputeCue (l : Nat) (s : State) : Steady s (recomputeCue l s) := by
  unfold recomputeCue
  dsimp only
  split_ifs <;> exact .refl s

theorem steady_recomputeCues (ls : List Nat) (s : State) : Steady s (recomputeCues ls s) :=
  steady_foldl (fun s l => steady_recomputeCue l s) ls s

theorem steady_activateKey (k : Nat) (s : State) : Steady s (activateKey k s) :=
  Steady.trans (t := setKey k _ s) (.refl s) (((steady_foldl (fun s l => steady_requestFeed k l s) _ _).trans
    (steady_recomputeCues _ _)).trans (steady_refreshStatuses _))

theorem steady_deactivateKey (k : Nat) (s : State) : Steady s (deactivateKey k s) :=
  Steady.trans (t := setKey k _ s) (.refl s) (((steady_foldl (fun s l => steady_withdrawFeed k l s) _ _).trans
    (steady_recomputeCues _ _)).trans (steady_refreshStatuses _))

theorem steady_pressKey (k : Nat) (s : State) : Steady s (pressKey k s) := by
  unfold pressKey
  dsimp only
  split
  · exact steady_activateKey k s
  · exact steady_deactivateKey k s
  · exact .refl s

theorem steady_liftKey (k : Nat) (s : State) : Steady s (liftKey k s) := by
  unfold liftKey
  dsimp only
  split
  · exact steady_deactivateKey k s
  · exact .refl s

theorem steady_becomeDestination (l : Nat) (s : State) : Steady s (becomeDestination l s) := by
  have h := (feedsChanged_becomeDestination l s).frame
  rw [h]
  exact .refl s

theorem steady_statusesAfter (camera : Bool) (s : State) : Steady s (statusesAfter camera s) := by
  rw [statusesAfter_frame]
  exact .refl s

theorem steady_leaveDestination (l : Nat) (output : Option Nat) (s : State) :
    Steady s (leaveDestination l output s) := by
  rw [leaveDestination_frame]
  exact .refl s

theorem steady_takeTally (a : Nat) (f : SourceFlags) (s : State) : Steady s (takeTally a f s) := by
  unfold takeTally
  split
  · exact .refl s
  · dsimp only
    split
    · exact steady_recomputeCue _ _
    · exact .refl s

theorem steady_startKeyStatus (s : State) : Steady s (startKeyStatus s) := by
  unfold startKeyStatus
  split <;> exact .refl s

theorem steady_startOrder (s : State) : Steady s (startOrder s) := by
  unfold startOrder
  split
  · split <;> exact .refl s
  · exact .refl s

theorem steady_takeOrderAck (o : Nat) (i : MatrixInput) (s : State) : Steady s (takeOrderAck o i s) := by
  unfold takeOrderAck
  split
  · split <;> exact .refl s
  · exact .refl s

theorem steady_startReturn (s : State) : Steady s (startReturn s) := by
  unfold startReturn
  split
  · exact .refl s
  · split
    · exact .refl s
    · split
      · exact .refl s
      · split <;> exact .refl s

theorem steady_takeDone (n : Nat) (s : State) : Steady s (takeDone n s) := by
  unfold takeDone
  split
  · split <;> exact .refl s
  · exact .refl s

theorem steady_requeue (m : FlyingMessage) (s : State) : Steady s (requeue m s) := by
  unfold requeue
  split
  · split <;> exact .refl s
  · split <;> exact .refl s
  · exact .refl s

theorem steady_fileSample (j : Nat) (r : JobRun) (x : Int) (s : State) : Steady s (fileSample j r x s) := by
  unfold fileSample
  extract_lets r' job survey filed
  have hfiled : Steady s filed := .refl s
  split
  · exact hfiled
  · exact hfiled.trans (steady_raise .surveyEnd filed)

theorem steady_takeSample (r : Nat) (x : Int) (s : State) : Steady s (takeSample r x s) := by
  unfold takeSample
  split
  · exact .refl s
  · split
    · exact steady_fileSample ..
    · exact .refl s

/-! ## Plan records and link entries -/

theorem steady_promoteRecord (n : Nat) (s : State) : Steady s (promoteRecord n s) := by
  unfold promoteRecord
  split <;> exact .refl s

theorem steady_releaseOldRecord (n : Nat) (keep : Bool) (s : State) : Steady s (releaseOldRecord n keep s) := by
  unfold releaseOldRecord
  split <;> exact .refl s

theorem steady_closeRecord (n : Nat) (s : State) : Steady s (closeRecord n s) := by
  unfold closeRecord
  split <;> exact .refl s

theorem steady_releaseRecord (n : Nat) (s : State) : Steady s (releaseRecord n s) := by
  unfold releaseRecord
  split <;> exact .refl s

theorem steady_updateLink (f : EnrolledLink → EnrolledLink) (l : Nat) (s : State) : Steady s (updateLink l f s) := by
  rw [updateLink_frame]
  exact .refl s

theorem steady_compareEcho (l : Nat) (echo : Option Cue) (s : State) : Steady s (compareEcho l echo s) := by
  unfold compareEcho
  split
  · split
    · exact .refl s
    · dsimp only
      split_ifs
      · exact steady_updateLink _ l s
      · exact .refl s
      · exact (steady_updateLink _ l s).trans (steady_raise .tallyFault _)
      · exact steady_updateLink _ l s
  · exact .refl s

theorem steady_setPresence (l : Nat) (p : Presence) (s : State) : Steady s (setPresence l p s) := by
  unfold setPresence
  split
  · exact .refl s
  · split
    · exact .refl s
    · extract_lets marked raised
      have hmarked : Steady s marked := steady_updateLink _ l s
      have hraised : Steady s raised := by
        unfold raised
        split
        · exact hmarked.trans (steady_raise .presence marked)
        · exact hmarked
      split <;> exact hraised

theorem steady_applyPresence (l : Nat) (e : EnrolledLink) (r : HeardReport) (s : State) :
    Steady s (applyPresence l e r s) := by
  unfold applyPresence goodReport weakReport
  dsimp only
  split
  · exact (((steady_updateLink _ l s).trans (steady_updateLink _ l _)).trans (steady_updateLink _ l _)).trans
      (steady_setPresence l .live _)
  · split
    · exact (steady_updateLink _ l s).trans (steady_setPresence l _ _)
    · exact steady_updateLink _ l s

/-! ## Searches and the engine -/

theorem steady_setPlace (place : SearchPlace) (l : Nat) (s : State) : Steady s (setPlace place l s) :=
  steady_updateLink _ l s

theorem steady_serveWaitList (s : State) : Steady s (serveWaitList s) := by
  rw [serveWaitList_frame]
  exact .refl s

theorem steady_startSeeking (o : Origin) (keep : Bool) (l : Nat) (s : State) : Steady s (startSeeking o keep l s) := by
  rw [startSeeking_frame]
  exact .refl s

theorem steady_enterOrdered (rec_ : RetuneRecord) (n l : Nat) (s : State) : Steady s (enterOrdered rec_ n l s) := by
  rw [enterOrdered_eq]
  exact .refl s

theorem steady_endRetune (result : RetuneResult) (l : Nat) (s : State) : Steady s (endRetune result l s) := by
  rw [endRetune_eq]
  exact steady_raise .retuneEnd s

theorem steady_applySearchResult (l : Nat) (f : FindResult) (s : State) : Steady s (applySearchResult l f s) := by
  unfold applySearchResult
  split
  · split
    · split
      · exact steady_setPlace .waiting l _
      · split
        · exact steady_endRetune _ l s
        · dsimp only
          split
          · exact steady_endRetune _ l s
          · exact steady_endRetune _ l s
          · next n t ho =>
            obtain ⟨-, -, -, rfl⟩ := openFromSearch_inv ho
            exact Steady.trans (t := markStale (setRecord n _ s)) (.refl s) (steady_enterOrdered _ n l _)
    · exact .refl s
  · exact .refl s

theorem steady_deliverResult (q : EngineRequest) (r : EngineResult) (s : State) : Steady s (deliverResult q r s) := by
  unfold deliverResult
  split
  · exact steady_raise .checkEnd _
  · cases r with
    | find f => exact (steady_applySearchResult _ f { s with engine.running := none }).trans (steady_serveWaitList _)
    | check c => exact steady_serveWaitList _

theorem steady_beginRequest (q : EngineRequest) (rest : List EngineRequest) (s : State) :
    Steady s (beginRequest q rest s) := by
  unfold beginRequest
  split <;> exact .refl s

theorem steady_startHeads (n : Nat) (s : State) : Steady s (startHeads n s) := by
  induction n generalizing s with
  | zero => exact .refl s
  | succ n ih =>
    unfold startHeads
    split
    · next q rest _ _ =>
      have hbegin := steady_beginRequest q rest s
      dsimp only
      split
      · exact (hbegin.trans (steady_deliverResult q _ _)).trans (ih _)
      · exact hbegin
    · exact .refl s

theorem steady_startHead (s : State) : Steady s (startHead s) := steady_startHeads _ s

theorem steady_completeRequest (q : EngineRequest) (r : EngineResult) (s : State) : Steady s (completeRequest q r s) :=
  (steady_deliverResult q r s).trans (steady_startHead _)

theorem steady_evaluateRunning (s : State) : Steady s (evaluateRunning s) := by
  unfold evaluateRunning
  split
  · exact .refl s
  · split
    · exact steady_completeRequest ..
    · dsimp only
      split
      · exact steady_completeRequest ..
      · split
        · exact steady_completeRequest ..
        · exact .refl s

theorem steady_cancelSearch (l : Nat) (s : State) : Steady s (cancelSearch l s) := by
  have hleft : Steady s (serveWaitList (cancelInternal l s)) := steady_serveWaitList (cancelInternal l s)
  unfold cancelSearch
  dsimp only
  split
  · exact hleft.trans (steady_startHead _)
  · exact hleft

theorem steady_abortRetune (result : RetuneResult) (l : Nat) (s : State) : Steady s (abortRetune result l s) := by
  unfold abortRetune
  split
  · split
    · exact .refl s
    · exact (steady_endRetune result l s).trans (steady_cancelSearch l _)
    · exact steady_endRetune result l s
    · exact (steady_closeRecord _ s).trans (steady_endRetune result l (removeTunePending l _))
  · exact .refl s

theorem steady_completeRetune (rec_ : RetuneRecord) (n l : Nat) (s : State) :
    Steady s (completeRetune rec_ n l s) := by
  unfold completeRetune
  split
  · next e _ =>
    have hrecords := (steady_promoteRecord n s).trans (steady_releaseOldRecord e.carrier rec_.keepOld _)
    exact (hrecords.trans (steady_updateLink _ l _)).trans (steady_endRetune .done l (removeTunePending l _))
  · exact .refl s

/-! ## Reports, expiries and the directory -/

theorem steady_capture (kind : CaptureKind) (r : HeardReport) (s : State) : Steady s (capture kind r s) :=
  steady_raise _ _

theorem steady_reportEnrolled (l : Nat) (e : EnrolledLink) (r : HeardReport) (s : State) :
    Steady s (reportEnrolled l e r s) := by
  have hpresence := steady_applyPresence l e r s
  unfold reportEnrolled
  split
  · exact steady_capture .mistuned r s
  · exact hpresence.trans (steady_compareEcho ..)
  · next rec_ n _ =>
    dsimp only
    refine Steady.trans ?_ (steady_compareEcho ..)
    split
    · exact hpresence.trans (steady_completeRetune rec_ n l _)
    · exact hpresence

theorem steady_admitStranger (r : HeardReport) (s : State) : Steady s (admitStranger r s) := by
  unfold admitStranger
  split <;> exact .refl s

theorem steady_handleReport (r : HeardReport) (s : State) : Steady s (handleReport r s) := by
  unfold handleReport
  split
  · split
    · exact steady_reportEnrolled ..
    · exact .refl s
    · exact .refl s
  · dsimp only
    split
    · exact (steady_capture .unknown r s).trans (steady_admitStranger r _)
    · exact steady_capture .unknown r s

theorem steady_fade (l : Nat) (e : EnrolledLink) (s : State) : Steady s (fade l e s) := by
  unfold fade
  split
  · exact steady_setPresence l .lost s
  · have hfading := steady_setPresence l .fading s
    unfold startDelay
    split
    · split
      · exact hfading.trans (steady_startSeeking ..)
      · exact hfading.trans (steady_updateLink _ l _)
    · exact hfading

theorem steady_enroll (l : Nat) (e : EnrolledLink) (s : State) : Steady s (enroll l e s) :=
  Steady.trans (t := markChanged l (setEntry l (.enrolled e) s)) (.refl s)
    (((steady_becomeDestination l _).trans (steady_recomputeCue l _)).trans (steady_statusesAfter _ _))

theorem steady_unbind (l : Nat) (s : State) : Steady s (unbind l s) := by
  unfold unbind
  split
  · exact steady_releaseRecord _ s
  · exact .refl s

theorem steady_retire (l : Nat) (s : State) : Steady s (retire l s) :=
  (((steady_abortRetune .retired l s).trans (steady_unbind l _)).trans
    (steady_leaveDestination l (cameraOutput s l) (darken l _))).trans
    (steady_statusesAfter _ (removePasses l (removeCuePending l _)))

end

end Sys2Proof.Machine
end

section
/-! SUPPORT. Every command keeps the queue, the arrivals, the authority owner and the causes that are set, but for those
that give authority away or clear causes (R177, R178, R181, R185). -/

namespace Sys2Proof.Machine

section
variable {s t : State}

/-! ## The rules that write no cause -/

theorem steady_groupSetRule (g lo up gs gp two three st lim : Nat) (s : State) :
    Steady s ((groupSetRule g lo up gs gp two three st lim s).after s) := by
  unfold groupSetRule
  split
  · exact .refl s
  · split
    · dsimp only
      split <;> exact .refl s
    · exact .refl s

theorem steady_planPutRule (i st c h g : Nat) (s : State) : Steady s ((planPutRule i st c h g s).after s) := by
  unfold planPutRule
  split
  · exact .refl s
  · split
    · exact .refl s
    · dsimp only
      split_ifs <;> exact .refl s

theorem steady_planDropRule (i : Nat) (s : State) : Steady s ((planDropRule i s).after s) := by
  unfold planDropRule
  split
  · exact .refl s
  · split <;> exact .refl s

theorem steady_checkStartRule (target : CheckTarget) (s : State) :
    Steady s ((checkStartRule target s).after s) := by
  unfold checkStartRule
  dsimp only
  split
  · split
    · exact .refl s
    · split <;> exact .refl s
  · split
    · exact .refl s
    · split
      · exact .refl s
      · split <;> exact .refl s

theorem steady_findStartRule (g lo up st h lim : Nat) (s : State) :
    Steady s ((findStartRule g lo up st h lim s).after s) := by
  unfold findStartRule
  split
  · exact .refl s
  · split <;> exact .refl s

theorem steady_checkReadRule (k : Nat) (s : State) : Steady s ((checkReadRule k s).after s) := by
  unfold checkReadRule
  split
  · exact .refl s
  · dsimp only [after_accept]
    split <;> exact .refl s

theorem steady_surveySetupRule (a w : Nat) (x : Int) (s : State) :
    Steady s ((surveySetupRule a w x s).after s) := by
  unfold surveySetupRule
  split <;> exact .refl s

theorem steady_surveyStartRule (j r b n m : Nat) (x : Int) (s : State) :
    Steady s ((surveyStartRule j r b n m x s).after s) := by
  unfold surveyStartRule
  split
  · exact .refl s
  · split
    · exact .refl s
    · split_ifs <;> exact .refl s

theorem steady_surveyStopRule (j : Nat) (s : State) : Steady s ((surveyStopRule j s).after s) := by
  unfold surveyStopRule
  split
  · exact .refl s
  · split <;> exact .refl s

theorem steady_binsClearRule (a b : Nat) (s : State) : Steady s ((binsClearRule a b s).after s) := by
  unfold binsClearRule
  split
  · exact .refl s
  · rw [after_accept]
    exact .of_ctl rfl rfl rfl

theorem steady_linkNoteRule (l x k : Nat) (s : State) : Steady s ((linkNoteRule l x k s).after s) := by
  unfold linkNoteRule
  split
  · exact .refl s
  · split
    · exact .refl s
    · dsimp only
      split
      · exact .refl s
      · split
        · exact .refl s
        · rw [after_accept]
          split <;> exact .refl s

theorem steady_linkSetRule (l : Nat) (q : LinkParams) (s : State) : Steady s ((linkSetRule l q s).after s) := by
  unfold linkSetRule
  split
  · exact .refl s
  · split
    · split <;> exact .refl s
    · exact .refl s

theorem steady_directoryPinRule (b : Nat) (s : State) : Steady s ((directoryPinRule b s).after s) := by
  unfold directoryPinRule
  split <;> exact .refl s

theorem steady_directoryAdmitRule (x : Nat) (s : State) : Steady s ((directoryAdmitRule x s).after s) := by
  unfold directoryAdmitRule
  split <;> exact .refl s

theorem steady_tallyMapRule (a l : Nat) (s : State) : Steady s ((tallyMapRule a l s).after s) := by
  unfold tallyMapRule
  dsimp only
  split
  · exact .refl s
  · exact steady_recomputeCues _ { s with tally.map := put s.tally.map a (optIndex l) }

theorem steady_tallyOverrideRule (l o : Nat) (s : State) : Steady s ((tallyOverrideRule l o s).after s) := by
  unfold tallyOverrideRule
  split
  · exact .refl s
  · split
    · exact .refl s
    · split
      · exact steady_recomputeCue l (setEntry l _ s)
      · exact .refl s

theorem steady_lampSetRule (n l c d v : Nat) (s : State) : Steady s ((lampSetRule n l c d v s).after s) := by
  unfold lampSetRule
  dsimp only
  split
  · exact .refl s
  · split <;> exact .refl s

theorem steady_keySetRule (k v m lk src : Nat) (ds : List Nat) (s : State) :
    Steady s ((keySetRule k v m lk src ds s).after s) := by
  unfold keySetRule
  split
  · exact .refl s
  · split
    · dsimp only
      split <;> exact .refl s
    · exact .refl s

theorem steady_keyPressRule (k : Nat) (s : State) : Steady s ((keyPressRule k s).after s) := by
  unfold keyPressRule
  split
  · exact .refl s
  · exact steady_pressKey k s

theorem steady_keyLiftRule (k : Nat) (s : State) : Steady s ((keyLiftRule k s).after s) := by
  unfold keyLiftRule
  split
  · exact .refl s
  · exact steady_liftKey k s

theorem steady_feedDefaultRule (l i : Nat) (s : State) : Steady s ((feedDefaultRule l i s).after s) := by
  unfold feedDefaultRule
  dsimp only
  split
  · exact .refl s
  · rw [after_accept]
    split
    · exact steady_orderFeed l (setArbiter l _ s)
    · exact .refl s

theorem steady_returnPassRule (l : Nat) (b : List Byte) (s : State) :
    Steady s ((returnPassRule l b s).after s) := by
  unfold returnPassRule
  split_ifs <;> exact .refl s

theorem steady_causeMaskRule (n : BitVec 16) (s : State) : Steady s ((causeMaskRule n s).after s) := by
  unfold causeMaskRule
  split <;> exact .refl s

/-! ## The rules that may raise a cause -/

theorem steady_checkCancelRule (k : Nat) (s : State) : Steady s ((checkCancelRule k s).after s) := by
  unfold checkCancelRule
  split
  · exact .refl s
  · split
    · exact .refl s
    · exact .refl s
    · exact steady_startHead (setSlot k .empty { s with
        engine.running := s.engine.running.filter fun r => r.request.client != .host k })
    · exact .refl s

theorem steady_linkEnrollRule (l x k i : Nat) (q : LinkParams) (o : Nat) (s : State) :
    Steady s ((linkEnrollRule l x k i q o s).after s) := by
  unfold linkEnrollRule
  split
  · exact .refl s
  · split
    · split
      · exact .refl s
      · split
        · exact .refl s
        · split
          · exact .refl s
          · split
            · exact .refl s
            · next v hbind =>
              obtain ⟨c, -, rfl⟩ := bindRecord_eq_some.1 hbind
              exact Steady.trans (t := markStale (setRecord i _ s)) (.refl s) (steady_enroll l _ _)
    · exact .refl s

theorem steady_linkRetireRule (l : Nat) (s : State) : Steady s ((linkRetireRule l s).after s) := by
  unfold linkRetireRule
  split
  · exact .refl s
  · split
    · exact steady_retire l s
    · exact .refl s

theorem steady_linkEraseRule (l : Nat) (s : State) : Steady s ((linkEraseRule l s).after s) := by
  unfold linkEraseRule
  split
  · exact .refl s
  · split
    · exact .refl s
    · exact .refl s
    · exact (steady_retire l s).trans (.refl _)

theorem steady_linkRetuneRule (l n k : Nat) (s : State) : Steady s ((linkRetuneRule l n k s).after s) := by
  unfold linkRetuneRule
  dsimp only
  split
  · exact .refl s
  · split
    · exact .refl s
    · split
      · split
        · have hstop : Steady s (updateLink l (fun e => { e with delayTimer := none }) s) := steady_updateLink _ l s
          split
          · exact hstop.trans (steady_startSeeking ..)
          · split
            · exact .refl s
            · next v hopen =>
              obtain ⟨c, -, rfl⟩ := openOnTarget_eq_some.1 hopen
              exact hstop.trans (steady_enterOrdered _ _ l (markStale (setRecord _ _ _)))
        · exact .refl s
      · exact .refl s

theorem steady_linkHaltRule (l : Nat) (s : State) : Steady s ((linkHaltRule l s).after s) := by
  unfold linkHaltRule
  split
  · exact .refl s
  · split
    · split
      · exact .refl s
      · exact steady_abortRetune .halted l s
    · exact .refl s

/-! ## Every command -/

/-- The commands that may give authority away or clear a cause. -/
def movesAuthorityOrClears : Instr → Bool
  | .hardwareReset | .runRestart _ | .authorityYield _ | .causeClear _ _ | .lineBreak => true
  | _ => false

theorem steady_ruleOf_write {i : Instr} {p : Port} {c : RequestCode} {raws : List Raw}
    (h : requestParts i = some (p, c, raws)) (hread : isRead c = false) (hi : movesAuthorityOrClears i = false)
    (s : State) : Steady s ((ruleOf i s).after s) := by
  cases i
  case checkStart q target => exact steady_checkStartRule target s
  all_goals cases h
  all_goals cases hread
  all_goals cases hi
  case groupSet g lo up gs gp two three st lim => exact steady_groupSetRule g lo up gs gp two three st lim s
  case planPut i st c h g => exact steady_planPutRule i st c h g s
  case planDrop i => exact steady_planDropRule i s
  case findStart g lo up st h lim => exact steady_findStartRule g lo up st h lim s
  case checkRead k => exact steady_checkReadRule k s
  case checkCancel k => exact steady_checkCancelRule k s
  case surveySetup a w x => exact steady_surveySetupRule a w x s
  case surveyStart j r b n m x => exact steady_surveyStartRule j r b n m x s
  case surveyStop j => exact steady_surveyStopRule j s
  case binsClear a b => exact steady_binsClearRule a b s
  case linkNote l x k => exact steady_linkNoteRule l x k s
  case linkEnroll l x k i q o => exact steady_linkEnrollRule l x k i q o s
  case linkSet l q => exact steady_linkSetRule l q s
  case linkRetire l => exact steady_linkRetireRule l s
  case linkErase l => exact steady_linkEraseRule l s
  case linkChanges => exact .refl s
  case directoryPin b => exact steady_directoryPinRule b s
  case directoryAdmit x => exact steady_directoryAdmitRule x s
  case captureRead => exact .refl s
  case linkRetune l n k => exact steady_linkRetuneRule l n k s
  case linkHalt l => exact steady_linkHaltRule l s
  case retuneLimit x => exact .refl s
  case tallyMap a l => exact steady_tallyMapRule a l s
  case tallyOverride l o => exact steady_tallyOverrideRule l o s
  case lampSet n l c d v => exact steady_lampSetRule n l c d v s
  case keySet k v m lk src ds => exact steady_keySetRule k v m lk src ds s
  case keyPress k => exact steady_keyPressRule k s
  case keyLift k => exact steady_keyLiftRule k s
  case feedDefault l i => exact steady_feedDefaultRule l i s
  case returnPass l b => exact steady_returnPassRule l b s
  case causeMask n => exact steady_causeMaskRule n s
  case portFaults => exact .refl s

theorem steady_ruleOf {i : Instr} {p : Port} {c : RequestCode} {raws : List Raw}
    (h : requestParts i = some (p, c, raws)) (hi : movesAuthorityOrClears i = false) (s : State) :
    Steady s ((ruleOf i s).after s) := by
  cases hread : isRead c with
  | true =>
    rw [after_ruleOf_read h hread]
    exact .refl s
  | false => exact steady_ruleOf_write h hread hi s

/-- The events that no port requests. -/
theorem steady_event {i : Instr} (hreq : requestParts i = none) (hi : movesAuthorityOrClears i = false)
    (h : exec i s = .next t) : Steady s t := by
  cases i
  case checkStart p target => cases target <;> cases hreq
  all_goals cases hreq
  all_goals cases hi
  all_goals cases h
  case engineStart => exact steady_startHead s
  case candidateEvaluation => exact steady_evaluateRunning s
  case sample r x =>
    split
    · exact steady_discardMalformed .receiver s
    · exact (steady_setPortPartial .receiver none s).trans (steady_takeSample r _ _)
  case heard r =>
    split
    · exact steady_discardMalformed .receiver s
    · exact (steady_setPortPartial .receiver none s).trans (steady_handleReport r _)
  case fadeExpiry l =>
    split
    · split
      · exact steady_fade ..
      · exact .refl s
    · exact .refl s
  case lossExpiry l =>
    split
    · split
      · exact (steady_updateLink _ l s).trans (steady_setPresence l .lost _)
      · exact .refl s
    · exact .refl s
  case retuneDelayExpiry l =>
    split
    · split
      · have hstop : Steady s (stopDelay l s) := steady_updateLink _ l s
        dsimp only
        split
        · exact hstop.trans (steady_startSeeking ..)
        · exact hstop
      · exact .refl s
    · exact .refl s
  case retuneLimitExpiry l =>
    split
    · split
      · split
        · exact steady_abortRetune .timeout l s
        · exact .refl s
      · exact .refl s
    · exact .refl s
  case mixerTallyMessage a f =>
    split
    · exact steady_discardMalformed .mixer s
    · exact (steady_setPortPartial .mixer none s).trans (steady_takeTally a _ _)
  case keyDown k =>
    split
    · exact steady_discardMalformed .keypanel s
    · exact (steady_setPortPartial .keypanel none s).trans (steady_pressKey k _)
  case keyUp k =>
    split
    · exact steady_discardMalformed .keypanel s
    · exact (steady_setPortPartial .keypanel none s).trans (steady_liftKey k _)
  case keyStatusSendStart => exact steady_startKeyStatus s
  case keyStatusSendEnd => exact .refl s
  case orderSendStart => exact steady_startOrder s
  case orderAck o i =>
    split
    · exact steady_discardMalformed .matrix s
    · exact (steady_setPortPartial .matrix none s).trans (steady_takeOrderAck o _ _)
  case orderTimeout =>
    split
    · split
      · exact steady_raise .matrixFault { s with talk.orderInFlight := none, talk.confirmed := _ }
      · exact .refl s
    · exact .refl s
  case returnSendStart => exact steady_startReturn s
  case doneMessage n => exact (steady_setPortPartial .ret none s).trans (steady_takeDone n _)
  case returnTimeout =>
    split
    · split
      · exact (steady_raise .returnFault { s with ret.inFlight := none }).trans (steady_requeue ..)
      · exact .refl s
    · exact .refl s
  case badFrame p bytes =>
    split
    · exact (steady_completeFrame p s).trans (steady_respond ..)
    · exact .refl s
  case readTransaction n => exact .refl s
  case serviceCharacterError e =>
    cases e with
    | parity => exact steady_parityFault .service (discardPartial s)
    | noStop => exact steady_framingFault .service (discardPartial s)
  case serviceGapExpiry =>
    split
    · split
      · exact steady_framingFault .service (discardPartial s)
      · exact .refl s
    · exact .refl s
  case serviceResponseEnd => split <;> exact .refl s
  case portByteError line e =>
    cases e with
    | parity => exact (steady_setPortPartial line none s).trans (steady_parityFault (.port line) _)
    | noStop => exact steady_discardMalformed line s
    | unknownType =>
      dsimp only
      split
      · exact steady_framingFault (.port line) s
      · exact .refl s
  case inputGapExpiry line =>
    split
    · split
      · exact steady_discardMalformed line s
      · exact .refl s
    · exact .refl s
  case malformedMessage line bytes =>
    split
    · exact steady_discardMalformed line s
    · exact .refl s

theorem exec_steady {i : Instr} (hi : movesAuthorityOrClears i = false) (h : exec i s = .next t) : Steady s t := by
  cases hreq : requestParts i with
  | none => exact steady_event hreq hi h
  | some parts =>
    obtain ⟨p, c, raws⟩ := parts
    rw [exec_request hreq] at h
    cases h
    exact steady_takeRequest (steady_ruleOf hreq hi) s

/-! ## The commands that give authority away or clear causes -/

theorem queueKept_runRestartRule (s : State) : QueueKept s ((runRestartRule s).after s) := by
  rw [runRestartRule, after_accept, warmRestart_eq]
  exact ⟨rfl, rfl, rfl⟩

/-- A warm restart keeps the owner (R185). -/
theorem exec_runRestart_queueKept {p : Port} (h : exec (.runRestart p) s = .next t) : QueueKept s t := by
  cases h
  exact queueKept_takeRequest queueKept_runRestartRule s

theorem queueKept_causeClearRule (n : BitVec 16) (s : State) : QueueKept s ((causeClearRule n s).after s) := by
  unfold causeClearRule
  split <;> exact ⟨rfl, rfl, rfl⟩

theorem exec_causeClear_queueKept {p : Port} {n : BitVec 16} (h : exec (.causeClear p n) s = .next t) :
    QueueKept s t := by
  cases h
  exact queueKept_takeRequest (queueKept_causeClearRule n) s

theorem causeBit_lt (k : Cause) : causeBit k < 11 := by
  cases k <;> decide

/-- CAUSE.CLEAR keeps the causes that it does not name (R181). -/
theorem causeIsSet_causeClearRule {n : BitVec 16} {k : Cause} (hn : n.getLsbD (causeBit k) = false)
    (hk : causeIsSet k s = true) : causeIsSet k ((causeClearRule n s).after s) = true := by
  unfold causeClearRule
  split
  · simpa [causeIsSet, hn, causeBit_lt] using hk
  · exact hk

theorem exec_causeClear_keeps {p : Port} {n : BitVec 16} {k : Cause} (hn : n.getLsbD (causeBit k) = false)
    (hk : causeIsSet k s = true) (h : exec (.causeClear p n) s = .next t) : causeIsSet k t = true := by
  cases h
  have hframe : causeIsSet k (completeFrame p s) = true := (steady_completeFrame p s).causes k hk
  obtain ⟨r, ht | ht⟩ := takeRequest_after s p .causeClear (causeClearRule n)
  · rw [ht]
    exact (steady_respond ..).causes k (causeIsSet_causeClearRule hn hframe)
  · rw [ht]
    exact (steady_respond ..).causes k hframe

/-- Authority moves to the owner `o`: AUTHORITY is raised, and no cause is cleared (R177, R178). -/
structure AuthorityMoves (o : Port) (s t : State) : Prop where
  pending : t.pending = s.pending
  arriving : t.arriving = s.arriving
  owner : t.ctl.owner = o
  raised : causeIsSet .authority t = true
  causes : ∀ c, causeIsSet c s = true → causeIsSet c t = true

theorem authorityMoves_raise (o : Port) (s : State) :
    AuthorityMoves o s (raise .authority { s with ctl.owner := o }) :=
  ⟨rfl, rfl, rfl, causeIsSet_raise_self .authority _, fun _ => causeIsSet_of_or rfl⟩

theorem AuthorityMoves.after {o : Port} {u : State} (h : Steady s t) (h' : AuthorityMoves o t u) :
    AuthorityMoves o s u := by
  obtain ⟨⟨hp, ha, -⟩, hc⟩ := h
  exact ⟨h'.pending.trans hp, h'.arriving.trans ha, h'.owner, h'.raised, fun c => h'.causes c ∘ hc c⟩

theorem AuthorityMoves.then_steady {o : Port} {u : State} (h : AuthorityMoves o s t) (h' : Steady t u) :
    AuthorityMoves o s u := by
  obtain ⟨⟨hp, ha, ho⟩, hc⟩ := h'
  exact ⟨hp.trans h.pending, ha.trans h.arriving, ho.trans h.owner, hc _ h.raised, fun c => hc c ∘ h.causes c⟩

/-- A break takes authority from the primary port, and from the service port nothing (R177). -/
theorem exec_lineBreak (h : exec .lineBreak s = .next t) : Steady s t ∨ AuthorityMoves .service s t := by
  cases h
  unfold takeAuthority
  split
  · exact .inr ((authorityMoves_raise .service (discardPartial s)).after (t := discardPartial s) (.refl s))
  · exact .inl (.refl s)

/-- AUTHORITY.YIELD gives authority to the primary port from the service port alone (R178). -/
theorem exec_authorityYield {p : Port} (h : exec (.authorityYield p) s = .next t) :
    Steady s t ∨ p = .service ∧ AuthorityMoves .primary s t := by
  cases h
  have hframe := steady_completeFrame p s
  obtain ⟨r, ht | ht⟩ := takeRequest_after s p .authorityYield (authorityYieldRule p)
  · rw [ht]
    cases p with
    | primary => exact .inl (hframe.trans (steady_respond ..))
    | service =>
      exact .inr ⟨rfl, ((authorityMoves_raise .primary (completeFrame .service s)).after hframe).then_steady
        (steady_respond ..)⟩
  · rw [ht]
    exact .inl (hframe.trans (steady_respond ..))

/-! ## What holds of every command -/

/-- What a command does to the queue, the arrivals, the authority owner and the causes that are set. -/
inductive ControlEffect (s t : State) : Instr → Prop where
  | steady {i : Instr} (h : Steady s t) : ControlEffect s t i
  | reset (hp : t.pending = s.pending) (ha : t.arriving = s.arriving) (ho : t.ctl.owner = .primary) :
      ControlEffect s t .hardwareReset
  | restart {p : Port} (h : QueueKept s t) : ControlEffect s t (.runRestart p)
  | clear {p : Port} {n : BitVec 16} (h : QueueKept s t)
      (hc : ∀ k, n.getLsbD (causeBit k) = false → causeIsSet k s = true → causeIsSet k t = true) :
      ControlEffect s t (.causeClear p n)
  | yield (h : AuthorityMoves .primary s t) : ControlEffect s t (.authorityYield .service)
  | breaks (h : AuthorityMoves .service s t) : ControlEffect s t .lineBreak

theorem exec_controlEffect {i : Instr} (h : exec i s = .next t) : ControlEffect s t i := by
  cases i
  case hardwareReset =>
    cases h
    exact .reset rfl rfl rfl
  case runRestart p => exact .restart (exec_runRestart_queueKept h)
  case causeClear p n => exact .clear (exec_causeClear_queueKept h) fun k hn hk => exec_causeClear_keeps hn hk h
  case authorityYield p =>
    obtain hsteady | ⟨rfl, hmoves⟩ := exec_authorityYield h
    · exact .steady hsteady
    · exact .yield hmoves
  case lineBreak => exact (exec_lineBreak h).elim .steady .breaks
  all_goals exact .steady (exec_steady rfl h)

/-- No command writes the queue or what has arrived (log entries 2 and 4). -/
theorem ControlEffect.queue {i : Instr} (h : ControlEffect s t i) :
    t.pending = s.pending ∧ t.arriving = s.arriving := by
  cases h with
  | steady h => exact ⟨h.queueKept.pending, h.queueKept.arriving⟩
  | reset hp ha _ => exact ⟨hp, ha⟩
  | restart h => exact ⟨h.pending, h.arriving⟩
  | clear h _ => exact ⟨h.pending, h.arriving⟩
  | yield h => exact ⟨h.pending, h.arriving⟩
  | breaks h => exact ⟨h.pending, h.arriving⟩

/-- The owner changes by a reset, a break and a yield alone (R177, R178). -/
theorem ControlEffect.owner {i : Instr} (h : ControlEffect s t i) (hne : t.ctl.owner ≠ s.ctl.owner) :
    i = .hardwareReset ∧ t.ctl.owner = .primary ∨
    i = .lineBreak ∧ t.ctl.owner = .service ∧ causeIsSet .authority t = true ∨
    i = .authorityYield .service ∧ t.ctl.owner = .primary ∧ causeIsSet .authority t = true := by
  cases h with
  | steady h => exact absurd h.queueKept.owner hne
  | reset _ _ ho => exact .inl ⟨rfl, ho⟩
  | restart h => exact absurd h.owner hne
  | clear h _ => exact absurd h.owner hne
  | yield h => exact .inr (.inr ⟨rfl, h.owner, h.raised⟩)
  | breaks h => exact .inr (.inl ⟨rfl, h.owner, h.raised⟩)

/-- A set cause is cleared by CAUSE.CLEAR naming it and by the resets alone (R181). -/
theorem ControlEffect.cause {i : Instr} {k : Cause} (h : ControlEffect s t i) (hk : causeIsSet k s = true) :
    causeIsSet k t = true ∨ i = .hardwareReset ∨ (∃ p, i = .runRestart p) ∨
    ∃ p n, i = .causeClear p n ∧ n.getLsbD (causeBit k) = true := by
  cases h with
  | steady h => exact .inl (h.causes k hk)
  | reset _ _ _ => exact .inr (.inl rfl)
  | @restart p h => exact .inr (.inr (.inl ⟨p, rfl⟩))
  | @clear p n h hc =>
    cases hn : n.getLsbD (causeBit k) with
    | true => exact .inr (.inr (.inr ⟨p, n, rfl, hn⟩))
    | false => exact .inl (hc k hn hk)
  | yield h => exact .inl (h.causes k hk)
  | breaks h => exact .inl (h.causes k hk)

end

end Sys2Proof.Machine
end

section
namespace Sys2Proof.Proofs
open Sys2Proof.Machine

/-- Settles O3: `exec` answers every command with a next state, and no case of `ControlEffect` writes the queue
or the arrivals. -/
theorem commandsComplete : Obligations.CommandsComplete := by
  unfold Obligations.CommandsComplete
  refine ⟨fun c s => ?_, fun c s t h => ?_⟩
  · cases c <;> exact ⟨_, rfl⟩
  · exact (exec_controlEffect h).queue

/-- Settles O50: what a command does to the owner and the causes is one of the cases of `ControlEffect`. -/
theorem authorityAndCausesHold : Obligations.AuthorityAndCausesHold := by
  unfold Obligations.AuthorityAndCausesHold
  exact ⟨fun c s t h hne => (exec_controlEffect h).owner hne, fun c k s t h hk => (exec_controlEffect h).cause hk⟩

end Sys2Proof.Proofs
end

section
/-! SUPPORT. The control block's requests, frames and transactions, and the damage on the serial lines (R173 to R177,
R181 to R183, R187, R190, R191). -/

namespace Sys2Proof.Machine

section
variable {s : State} {p : Port}

/-! ## Causes and the attention line (R181, R182) -/

theorem exists_causeBit {i : Nat} (h : i < 11) : ∃ c, causeBit c = i := by
  interval_cases i
  exacts [⟨.heardUnknown, rfl⟩, ⟨.mistuned, rfl⟩, ⟨.presence, rfl⟩, ⟨.retuneEnd, rfl⟩, ⟨.surveyEnd, rfl⟩,
    ⟨.checkEnd, rfl⟩, ⟨.tallyFault, rfl⟩, ⟨.matrixFault, rfl⟩, ⟨.returnFault, rfl⟩, ⟨.inputFault, rfl⟩,
    ⟨.authority, rfl⟩]

/-- The attention line is asserted while a cause is both set and unmasked (R182). -/
theorem attention_iff : attention s = true ↔ ∃ c, causeIsSet c s = true ∧ causeIsUnmasked c s = true := by
  rw [attention, bne_iff_ne]
  constructor
  · intro hne
    by_contra hnone
    refine hne (BitVec.eq_of_getLsbD_eq fun i hi => ?_)
    obtain ⟨c, rfl⟩ := exists_causeBit hi
    have hbit : ¬ (s.ctl.causes.getLsbD (causeBit c) = true ∧ s.ctl.unmasked.getLsbD (causeBit c) = true) :=
      fun h => hnone ⟨c, h⟩
    simpa using hbit
  · rintro ⟨c, hset, hunmasked⟩ hzero
    have hbit : (s.ctl.causes &&& s.ctl.unmasked).getLsbD (causeBit c) = true := by
      rw [BitVec.getLsbD_and]
      exact Bool.and_eq_true_iff.2 ⟨hset, hunmasked⟩
    simp [hzero] at hbit

theorem causeClearRule_of_lt {n : BitVec 16} (h : n.toNat < 2048) (s : State) :
    causeClearRule n s = .accept [.one (.causes (s.ctl.causes &&& ~~~(n.setWidth 11)))]
      { s with ctl.causes := s.ctl.causes &&& ~~~(n.setWidth 11) } :=
  if_pos (decide_eq_true h)

theorem causeClearRule_of_le {n : BitVec 16} (h : 2048 ≤ n.toNat) (s : State) :
    causeClearRule n s = .refuse .badField :=
  if_neg fun hn => absurd (of_decide_eq_true hn) (not_lt.2 h)

theorem causeMaskRule_of_lt {n : BitVec 16} (h : n.toNat < 2048) (s : State) :
    causeMaskRule n s = .accept [] { s with ctl.unmasked := n.setWidth 11 } :=
  if_pos (decide_eq_true h)

theorem causeMaskRule_of_le {n : BitVec 16} (h : 2048 ≤ n.toNat) (s : State) : causeMaskRule n s = .refuse .badField :=
  if_neg fun hn => absurd (of_decide_eq_true hn) (not_lt.2 h)

@[simp] theorem attention_completeFrame (p : Port) (s : State) : attention (completeFrame p s) = attention s := by
  cases p <;> rfl

/-! ## Frames and transactions (R173, R175, R187) -/

theorem execBadFrame_of_ended {bytes : List Byte} (he : frameEnded p bytes = true) (hd : decodeFrame p bytes = none)
    (s : State) : execBadFrame p bytes s = .next (answerBadFrame p bytes s) :=
  congrArg _ (if_pos (by rw [frameMalformed, he, hd]; rfl))

/-- The host clocks the response and then FFh, as many bytes as it asks for (R174, R187). -/
theorem length_clockedOut (r : Response) (n : Nat) : (clockedOut r n).length = n := by
  simp [clockedOut]

theorem getElem?_clockedOut (r : Response) {n i : Nat} (hi : i < n) :
    (clockedOut r n)[i]? = some ((r.frame[i]?).getD 0xFF#8) := by
  rw [clockedOut, List.getElem?_take_of_lt hi]
  by_cases hframe : i < r.frame.length
  · rw [List.getElem?_append_left hframe, List.getElem?_eq_getElem hframe, Option.getD_some]
  · have hpad : i - r.frame.length < n := by omega
    rw [List.getElem?_append_right (not_lt.1 hframe), List.getElem?_replicate_of_lt hpad,
      List.getElem?_eq_none (not_lt.1 hframe), Option.getD_none]

/-! ## Damage on the lines (R183, R190, R191) -/

@[simp] theorem portPartial_setPortPartial_self (line : InPort) (v : Option Partial) (s : State) :
    portPartial (setPortPartial line v s) line = v := by
  cases line <;> rfl

theorem portPartial_setPortPartial_ne {line m : InPort} (h : m ≠ line) (v : Option Partial) (s : State) :
    portPartial (setPortPartial line v s) m = portPartial s m := by
  cases line <;> cases m <;> simp [portPartial, setPortPartial] at h ⊢

theorem setPortPartial_of_none {line : InPort} (h : portPartial s line = none) : setPortPartial line none s = s := by
  cases line <;> (rw [setPortPartial, ← h]; rfl)

@[simp] theorem lineFaults_setLineFaults_self (line : SerialLine) (v : LineFaults) (f : PortFaults) :
    lineFaults (setLineFaults line v f) line = v := by
  cases line with
  | service => rfl
  | port line => cases line <;> rfl

theorem lineFaults_setLineFaults_ne {line m : SerialLine} (h : m ≠ line) (v : LineFaults) (f : PortFaults) :
    lineFaults (setLineFaults line v f) m = lineFaults f m := by
  rcases line with _ | line
  · rcases m with _ | m
    · exact absurd rfl h
    · cases m <;> rfl
  · rcases m with _ | m
    · cases line <;> rfl
    · cases line <;> cases m <;> simp [lineFaults, setLineFaults] at h ⊢

@[simp] theorem directoryFull_setLineFaults (line : SerialLine) (v : LineFaults) (f : PortFaults) :
    (setLineFaults line v f).directoryFull = f.directoryFull := by
  cases line with
  | service => rfl
  | port line => cases line <;> rfl

/-- A line's flags with the parity flag set, or else the framing flag (R183). -/
def faulted (parity : Bool) (f : LineFaults) : LineFaults :=
  if parity then { f with parity := true } else { f with framing := true }

/-- From `s` to `t` the message that an input port is in is discarded, and the damage flagged (R183, R190, R191). -/
def PortDamaged (line : InPort) (s : State) (parity : Bool) (t : State) : Prop :=
  t = { s with ports := t.ports, ctl := t.ctl } ∧ portPartial t line = none ∧
  (∀ m, m ≠ line → portPartial t m = portPartial s m) ∧
  t.ctl = { s.ctl with faults := t.ctl.faults, causes := s.ctl.causes ||| causeOnly .inputFault } ∧
  lineFaults t.ctl.faults (.port line) = faulted parity (lineFaults s.ctl.faults (.port line)) ∧
  (∀ m, m ≠ .port line → lineFaults t.ctl.faults m = lineFaults s.ctl.faults m) ∧
  t.ctl.faults.directoryFull = s.ctl.faults.directoryFull

theorem setPortPartial_frame (line : InPort) (v : Option Partial) (s : State) :
    setPortPartial line v s = { s with ports := (setPortPartial line v s).ports } := by
  cases line <;> rfl

theorem portDamaged_of_flags (line : InPort) (s : State) (parity : Bool) :
    PortDamaged line s parity (raise .inputFault { s with
      ports := (setPortPartial line none s).ports
      ctl.faults := setLineFaults (.port line) (faulted parity (lineFaults s.ctl.faults (.port line)))
        s.ctl.faults }) :=
  ⟨rfl, portPartial_setPortPartial_self line none s, fun _ hm => portPartial_setPortPartial_ne hm none s, rfl,
    lineFaults_setLineFaults_self .., fun _ hm => lineFaults_setLineFaults_ne hm .., directoryFull_setLineFaults ..⟩

theorem portDamaged_parityFault (line : InPort) (s : State) :
    PortDamaged line s true (parityFault (.port line) (setPortPartial line none s)) := by
  rw [setPortPartial_frame]
  exact portDamaged_of_flags line s true

theorem portDamaged_framingFault (line : InPort) (s : State) :
    PortDamaged line s false (framingFault (.port line) (setPortPartial line none s)) := by
  rw [setPortPartial_frame]
  exact portDamaged_of_flags line s false

end

end Sys2Proof.Machine
end

section
namespace Sys2Proof.Proofs
open Sys2Proof.Machine

/-- Settles O4: `respond` on each port, by what is in transmission. -/
theorem responsesArePlaced : Obligations.ResponsesArePlaced := by
  unfold Obligations.ResponsesArePlaced
  intro r s
  refine ⟨rfl, fun hnone => ?_, fun q hsome => ?_⟩
  · simp only [respond, hnone]
  · simp only [respond, hsome]

/-- Settles O43: the test of authority comes first, then the rule of the port. -/
theorem authorityYield : Obligations.AuthorityYield := by
  unfold Obligations.AuthorityYield
  refine ⟨rfl, fun s => ⟨fun ho => ?_, fun ho => ?_, fun ho => ?_, fun ho => ?_, fun t h => ?_, fun p t h => ?_⟩⟩
  · exact congrArg Host.Outcome.next (takeRequest_answered (rule := authorityYieldRule .service) (fun _ => ho) rfl)
  · exact congrArg _ (takeRequest_unauthorised rfl (by rw [ho]; exact nofun))
  · exact congrArg _ (takeRequest_refused (fun _ => ho) rfl)
  · exact congrArg _ (takeRequest_unauthorised rfl (by rw [ho]; exact nofun))
  · cases h
    rfl
  · exact (exec_runRestart_queueKept h).owner

/-- Settles O44: each request by its rule's verdict, and the attention line by `attention_iff`. -/
theorem causesAndFaults : Obligations.CausesAndFaults := by
  unfold Obligations.CausesAndFaults
  intro p s
  refine ⟨?read, attention_iff, fun n hn => ?clear, fun n hm hn => ?mask, fun n hn => ⟨?badClear, fun hm => ?badMask⟩,
    ?faults⟩
  case read =>
    refine congrArg _ (takeRequest_answered (maySend_read rfl) ?_)
    simp only [causeReadRule, attention_completeFrame, completeFrame_ctl_causes, completeFrame_ctl_unmasked,
      completeFrame_ctl_owner]
  case clear =>
    refine ⟨s.ctl.causes &&& ~~~(n.setWidth 11), congrArg _ (takeRequest_answered (maySend_read rfl) ?_),
      fun i hi => ?_⟩
    · rw [causeClearRule_of_lt hn, completeFrame_ctl_causes]
    · simp [hi]
  case mask =>
    refine ⟨n.setWidth 11, congrArg _ (takeRequest_answered hm (causeMaskRule_of_lt hn _)), fun i hi => ?_⟩
    simp [hi]
  case badClear => exact congrArg _ (takeRequest_refused (maySend_read rfl) (causeClearRule_of_le hn _))
  case badMask => exact congrArg _ (takeRequest_refused hm (causeMaskRule_of_le hn _))
  case faults =>
    refine congrArg _ (takeRequest_answered (maySend_read rfl) ?_)
    rw [portFaultsRule, completeFrame_ctl_faults]
    rfl

/-- Settles O45: a completed malformed frame by its code, and a read transaction by the bytes clocked out. -/
theorem framesAndTransactions : Obligations.FramesAndTransactions := by
  unfold Obligations.FramesAndTransactions
  refine ⟨fun b rest s hb hd => ?_, fun b rest s hlength hd => ?_, fun n s => ?_⟩
  · have hended : frameEnded .primary (b :: rest) = true := bne_iff_ne.2 hb
    exact (execBadFrame_of_ended hended hd s).trans (by cases rest <;> rfl)
  · have hended : frameEnded .service (b :: rest) = true := beq_iff_eq.2 hlength
    exact (execBadFrame_of_ended hended hd s).trans (by cases rest <;> rfl)
  · exact ⟨_, rfl, length_clockedOut _ n, rfl, fun i hi => getElem?_clockedOut _ hi⟩

/-- Settles O46: the service port's events by the state they find, and every damage on an input port as one write of
its flags (`portDamaged_of_flags`). -/
theorem lineEvents : Obligations.LineEvents := by
  unfold Obligations.LineEvents
  refine ⟨fun s => ⟨fun ho => ?_, fun ho => ?_, rfl, rfl, fun f hf hreached => ?_, fun r hr => ?_⟩, fun line s => ?_⟩
  · simp only [exec, execLineBreak, takeAuthority, discardPartial, ho]
    rfl
  · simp only [exec, execLineBreak, takeAuthority, discardPartial, ho]
  · simp only [exec, execServiceGapExpiry, hf, hreached, if_true]
    rfl
  · simp only [exec, execServiceResponseEnd, hr]
  · refine ⟨⟨_, rfl, portDamaged_parityFault line s⟩, ⟨_, rfl, portDamaged_framingFault line s⟩, fun hnone => ?_,
      fun m hm hreached => ?_, fun bytes hbad => ?_⟩
    · refine ⟨framingFault (.port line) s, ?_, ?_⟩
      · simp only [exec, execPortByteError, hnone, Option.isNone_none, if_true]
      · have hdamaged := portDamaged_framingFault line s
        rw [setPortPartial_of_none hnone] at hdamaged
        exact hdamaged
    · refine ⟨_, ?_, portDamaged_framingFault line s⟩
      simp only [exec, execInputGapExpiry, hm, hreached, if_true]
    · exact ⟨_, congrArg Host.Outcome.next (if_pos hbad), portDamaged_framingFault line s⟩

end Sys2Proof.Proofs
end

section
/-! SUPPORT. The fields of a request frame: each value that fits its field is read back from its own bytes, and the bytes
are the only ones it is read from (R186, R187). -/

namespace Sys2Proof.Machine

/-! ## Numbers -/

/-- Runs of `width` bytes and the numbers that fit them spell each other (R186). -/
structure Numeral (width : Nat) (fits : Nat → Bool) (bytes : Nat → List Byte) : Prop where
  length_bytes : ∀ n, (bytes n).length = width
  fits_beNat : ∀ bs : List Byte, bs.length = width → fits (beNat bs) = true
  bytes_beNat : ∀ bs : List Byte, bs.length = width → bytes (beNat bs) = bs
  beNat_bytes : ∀ n, fits n = true → beNat (bytes n) = n

theorem ofNat_eq_of_toNat_mod {n : Nat} {b : Byte} (h : n % 256 = b.toNat) : BitVec.ofNat 8 n = b :=
  BitVec.eq_of_toNat_eq ((BitVec.toNat_ofNat n 8).trans h)

theorem toNat_ofNat_of_fits8 {n : Nat} (h : fits8 n = true) : (BitVec.ofNat 8 n).toNat = n :=
  Nat.mod_eq_of_lt (of_decide_eq_true h)

theorem numeral_bytes1 : Numeral 1 fits8 bytes1 where
  length_bytes _ := rfl
  fits_beNat bs h := by
    obtain ⟨a, rfl⟩ := List.length_eq_one_iff.1 h
    simp [beNat, fits8, a.isLt]
  bytes_beNat bs h := by
    obtain ⟨a, rfl⟩ := List.length_eq_one_iff.1 h
    simp [beNat, bytes1]
  beNat_bytes n h := by simpa [beNat, bytes1, fits8] using h

theorem numeral_bytes2 : Numeral 2 fits16 bytes2 where
  length_bytes _ := rfl
  fits_beNat bs h := by
    obtain ⟨a, b, rfl⟩ := List.length_eq_two.1 h
    refine decide_eq_true ?_
    simp only [beNat, List.foldl]
    omega
  bytes_beNat bs h := by
    obtain ⟨a, b, rfl⟩ := List.length_eq_two.1 h
    simp only [beNat, bytes2, List.foldl]
    rw [ofNat_eq_of_toNat_mod (b := a) (by omega), ofNat_eq_of_toNat_mod (b := b) (by omega)]
  beNat_bytes n h := by
    have hn : n < 65536 := of_decide_eq_true h
    simp only [beNat, bytes2, List.foldl, BitVec.toNat_ofNat]
    omega

theorem numeral_bytes3 : Numeral 3 fits24 bytes3 where
  length_bytes _ := rfl
  fits_beNat bs h := by
    obtain ⟨a, b, c, rfl⟩ := List.length_eq_three.1 h
    refine decide_eq_true ?_
    simp only [beNat, List.foldl]
    omega
  bytes_beNat bs h := by
    obtain ⟨a, b, c, rfl⟩ := List.length_eq_three.1 h
    simp only [beNat, bytes3, List.foldl]
    rw [ofNat_eq_of_toNat_mod (b := a) (by omega), ofNat_eq_of_toNat_mod (b := b) (by omega),
      ofNat_eq_of_toNat_mod (b := c) (by omega)]
  beNat_bytes n h := by
    have hn : n < 16777216 := of_decide_eq_true h
    simp only [beNat, bytes3, List.foldl, BitVec.toNat_ofNat]
    omega

/-- A level's byte is read back as the level (R186). -/
theorem toInt_ofInt_level {x : Int} (h : fitsLevel x = true) : (BitVec.ofInt 8 x).toInt = x := by
  simp only [fitsLevel, Bool.and_eq_true, decide_eq_true_iff] at h
  rw [BitVec.toInt_ofInt]
  exact Int.bmod_eq_of_le (by omega) (by omega)

theorem fitsLevel_toInt (b : Byte) : fitsLevel b.toInt = true := by
  simp only [fitsLevel, Bool.and_eq_true, decide_eq_true_iff]
  have := b.le_toInt
  have := b.toInt_lt
  omega

/-! ## Optional parameters -/

section
variable {width : Nat} {fits : Nat → Bool} {bytes : Nat → List Byte} {bs rest : List Byte}

/-- A number is read from the front of a run of bytes exactly when the run begins with the bytes of that number. -/
theorem Numeral.take_iff (h : Numeral width fits bytes) {n : Nat} :
    (width ≤ bs.length ∧ beNat (bs.take width) = n ∧ bs.drop width = rest) ↔ fits n = true ∧ bs = bytes n ++ rest := by
  constructor
  · rintro ⟨hlength, rfl, rfl⟩
    have htake : (bs.take width).length = width := List.length_take_of_le hlength
    exact ⟨h.fits_beNat _ htake, by rw [h.bytes_beNat _ htake, List.take_append_drop]⟩
  · rintro ⟨hn, rfl⟩
    have hlength := h.length_bytes n
    exact ⟨by simp [hlength], by rw [List.take_left' hlength, h.beNat_bytes n hn], List.drop_left' hlength⟩

theorem takeOptional_eq_some_iff (h : Numeral width fits bytes) {present : Bool} {v : Option Nat} :
    takeOptional present width bs = some (v, rest) ↔
      present = v.isSome ∧ fitsOpt fits v = true ∧ bs = optionalBytes bytes v ++ rest := by
  cases present with
  | false =>
    cases v with
    | none => simp [takeOptional, fitsOpt, optionalBytes]
    | some n => simp [takeOptional]
  | true =>
    cases v with
    | none => simp [takeOptional]
    | some n => simpa [takeOptional, fitsOpt, optionalBytes] using h.take_iff

end

/-- An optional number takes no more bytes than the number. -/
theorem Numeral.length_optionalBytes_le {width : Nat} {fits : Nat → Bool} {bytes : Nat → List Byte}
    (h : Numeral width fits bytes) (v : Option Nat) : (optionalBytes bytes v).length ≤ width := by
  cases v with
  | none => exact Nat.zero_le _
  | some n => exact (h.length_bytes n).le

/-- The presence byte of five optional fields has their bits and none above them (R186, R187). -/
theorem presenceByte_eq_iff (m : Byte) (a b c d e : Bool) :
    presenceByte [a, b, c, d, e] = m ↔
      m.toNat < 32 ∧ m.getLsbD 0 = a ∧ m.getLsbD 1 = b ∧ m.getLsbD 2 = c ∧ m.getLsbD 3 = d ∧ m.getLsbD 4 = e := by
  constructor
  · rintro rfl
    revert a b c d e
    decide
  · rintro ⟨hm, rfl, rfl, rfl, rfl, rfl⟩
    revert m
    decide

theorem takeParams_eq_some_iff {m : Byte} {bs rest : List Byte} {q : LinkParams} :
    takeParams m bs = some (q, rest) ↔ q.fits = true ∧ m :: bs = paramsBytes q ++ rest := by
  obtain ⟨floor, fade, loss, auto, delay⟩ := q
  simp only [takeParams, ge_iff_le, Option.ite_none_left_eq_some, Option.bind_eq_some_iff, Prod.exists,
    takeOptional_eq_some_iff numeral_bytes1, takeOptional_eq_some_iff numeral_bytes2, Option.some.injEq,
    Prod.mk.injEq, LinkParams.mk.injEq, paramsBytes, LinkParams.fits, Bool.and_eq_true, List.cons_append,
    List.cons.injEq, eq_comm (a := m), presenceByte_eq_iff, not_le, List.append_assoc]
  constructor
  · rintro ⟨hm, v0, bs0, ⟨h0, f0, rfl⟩, v1, bs1, ⟨h1, f1, rfl⟩, v2, bs2, ⟨h2, f2, rfl⟩, v3, bs3, ⟨h3, f3, rfl⟩,
      v4, bs4, ⟨h4, f4, rfl⟩, ⟨rfl, rfl, rfl, rfl, rfl⟩, rfl⟩
    exact ⟨⟨⟨⟨⟨f0, f1⟩, f2⟩, f3⟩, f4⟩, ⟨hm, h0, h1, h2, h3, h4⟩, rfl⟩
  · rintro ⟨⟨⟨⟨⟨f0, f1⟩, f2⟩, f3⟩, f4⟩, ⟨hm, h0, h1, h2, h3, h4⟩, rfl⟩
    exact ⟨hm, _, _, ⟨h0, f0, rfl⟩, _, _, ⟨h1, f1, rfl⟩, _, _, ⟨h2, f2, rfl⟩, _, _, ⟨h3, f3, rfl⟩,
      _, _, ⟨h4, f4, rfl⟩, ⟨rfl, rfl, rfl, rfl, rfl⟩, rfl⟩

/-! ## Fields -/

/-- The value fits a field of the type (R186). -/
@[simp] def fieldFits : FieldType → Raw → Bool
  | .u8, .nat n => fits8 n
  | .u16, .nat n => fits16 n
  | .u24, .nat n => fits24 n
  | .s8, .level x => fitsLevel x
  | .list, .list bs => fits8 bs.length
  | .params, .params q => q.fits
  | _, _ => false

/-- The values fit the fields of a form, one each. -/
@[simp] def fieldsFit : List FieldType → List Raw → Bool
  | [], [] => true
  | t :: ts, r :: rs => fieldFits t r && fieldsFit ts rs
  | _, _ => false

/-- A field that holds a number of `width` bytes is read from its own bytes. -/
theorem Numeral.takeField_iff {width : Nat} {fits : Nat → Bool} {bytes : Nat → List Byte} (h : Numeral width fits bytes)
    {t : FieldType} {bs rest : List Byte} {n : Nat}
    (ht : takeField t bs = if width ≤ bs.length then some (.nat (beNat (bs.take width)), bs.drop width) else none) :
    takeField t bs = some (.nat n, rest) ↔ fits n = true ∧ bs = bytes n ++ rest := by
  rw [ht, ← h.take_iff]
  simp

theorem takeField_u8 (bs : List Byte) :
    takeField .u8 bs = if 1 ≤ bs.length then some (.nat (beNat (bs.take 1)), bs.drop 1) else none := by
  rcases bs with _ | ⟨a, bs⟩ <;> simp [takeField, beNat]

theorem takeField_u16 (bs : List Byte) :
    takeField .u16 bs = if 2 ≤ bs.length then some (.nat (beNat (bs.take 2)), bs.drop 2) else none := by
  rcases bs with _ | ⟨a, _ | ⟨b, bs⟩⟩ <;> simp [takeField]

theorem takeField_u24 (bs : List Byte) :
    takeField .u24 bs = if 3 ≤ bs.length then some (.nat (beNat (bs.take 3)), bs.drop 3) else none := by
  rcases bs with _ | ⟨a, _ | ⟨b, _ | ⟨c, bs⟩⟩⟩ <;> simp [takeField]

theorem takeField_s8_iff {bs rest : List Byte} {x : Int} :
    takeField .s8 bs = some (.level x, rest) ↔ fitsLevel x = true ∧ bs = BitVec.ofInt 8 x :: rest := by
  cases bs with
  | nil => simp [takeField]
  | cons b bs =>
    simp only [takeField, Option.some.injEq, Prod.mk.injEq, Raw.level.injEq, List.cons.injEq]
    constructor
    · rintro ⟨rfl, rfl⟩
      exact ⟨fitsLevel_toInt b, (BitVec.ofInt_toInt).symm, rfl⟩
    · rintro ⟨hx, rfl, rfl⟩
      exact ⟨toInt_ofInt_level hx, rfl⟩

theorem takeField_list_iff {bs rest items : List Byte} :
    takeField .list bs = some (.list items, rest) ↔
      fits8 items.length = true ∧ bs = BitVec.ofNat 8 items.length :: items ++ rest := by
  cases bs with
  | nil => simp [takeField]
  | cons n bs =>
    simp only [takeField, Option.ite_none_right_eq_some, Option.some.injEq, Prod.mk.injEq, Raw.list.injEq,
      List.cons_append, List.cons.injEq]
    constructor
    · rintro ⟨hn, rfl, rfl⟩
      rw [List.length_take_of_le hn, BitVec.ofNat_toNat, BitVec.setWidth_eq, List.take_append_drop]
      exact ⟨decide_eq_true n.isLt, rfl, rfl⟩
    · rintro ⟨hlength, rfl, rfl⟩
      have hn : (BitVec.ofNat 8 items.length).toNat = items.length := toNat_ofNat_of_fits8 hlength
      simp [hn]

/-- A field is read exactly from its own bytes (R186, R187). -/
theorem takeField_eq_some_iff {t : FieldType} {bs rest : List Byte} {r : Raw} :
    takeField t bs = some (r, rest) ↔ fieldFits t r = true ∧ bs = fieldBytes t r ++ rest := by
  cases t with
  | u8 =>
    cases r with
    | nat n => exact numeral_bytes1.takeField_iff (takeField_u8 bs)
    | _ => simp [takeField_u8, fieldFits]
  | u16 =>
    cases r with
    | nat n => exact numeral_bytes2.takeField_iff (takeField_u16 bs)
    | _ => simp [takeField_u16, fieldFits]
  | u24 =>
    cases r with
    | nat n => exact numeral_bytes3.takeField_iff (takeField_u24 bs)
    | _ => simp [takeField_u24, fieldFits]
  | s8 =>
    cases r with
    | level x => exact takeField_s8_iff
    | _ => cases bs <;> simp [takeField, fieldFits]
  | list =>
    cases r with
    | list items => exact takeField_list_iff
    | _ => cases bs <;> simp [takeField, fieldFits]
  | params =>
    cases bs with
    | nil => cases r <;> simp [takeField, fieldFits, fieldBytes, paramsBytes]
    | cons m bs =>
      cases r with
      | params q => simpa [takeField, fieldFits, fieldBytes] using takeParams_eq_some_iff
      | _ => simp [takeField, fieldFits]

/-- The fields of a form are read exactly from their own bytes (R187). -/
theorem takeFields_eq_some_iff {ts : List FieldType} {bs : List Byte} {rs : List Raw} :
    takeFields ts bs = some rs ↔ fieldsFit ts rs = true ∧ bs = fieldsBytes ts rs := by
  induction ts generalizing bs rs with
  | nil => cases bs <;> cases rs <;> simp [takeFields, fieldsFit, fieldsBytes]
  | cons t ts ih =>
    simp only [takeFields, Option.bind_eq_some_iff, Prod.exists, takeField_eq_some_iff, Option.map_eq_some_iff, ih]
    cases rs with
    | nil => simp [fieldsFit]
    | cons r rs =>
      simp only [List.cons.injEq, fieldsFit, Bool.and_eq_true, fieldsBytes]
      constructor
      · rintro ⟨r, bs, ⟨hr, rfl⟩, rs, ⟨hrs, rfl⟩, rfl, rfl⟩
        exact ⟨⟨hr, hrs⟩, rfl⟩
      · rintro ⟨⟨hr, hrs⟩, rfl⟩
        exact ⟨r, _, ⟨hr, rfl⟩, rs, ⟨hrs, rfl⟩, rfl, rfl⟩

end Sys2Proof.Machine
end

section
/-! SUPPORT. Request frames: the code of a request, the form of its fields, and the requests that the fields spell (R186,
R187). -/

namespace Sys2Proof.Machine

/-! ## Codes -/

theorem mem_requestIndex (c : RequestCode) : c ∈ requestIndex := by
  cases c <;> decide

theorem nodup_requestIndex : requestIndex.Nodup := by decide

theorem requestIndex_idxOf (c : RequestCode) : requestIndex[requestIndex.idxOf c]? = some c :=
  List.getElem?_idxOf (mem_requestIndex c)

/-- A code names the request whose number it is (R187). -/
theorem requestOfNumber_eq_some_iff {n : Nat} {c : RequestCode} : requestOfNumber n = some c ↔ n = c.number := by
  rw [requestOfNumber, RequestCode.number]
  constructor
  · intro h
    obtain ⟨hzero, hget⟩ := Option.ite_none_left_eq_some.1 h
    obtain ⟨hlt, rfl⟩ := List.getElem?_eq_some_iff.1 hget
    rw [nodup_requestIndex.idxOf_getElem]
    omega
  · rintro rfl
    exact requestIndex_idxOf c

theorem number_lt (c : RequestCode) : c.number < 256 := by
  have hlt : requestIndex.idxOf c < 56 := List.idxOf_lt_length_iff.2 (mem_requestIndex c)
  rw [RequestCode.number]
  omega

theorem requestOfNumber_toNat_eq_some_iff {code : Byte} {c : RequestCode} :
    requestOfNumber code.toNat = some c ↔ code = BitVec.ofNat 8 c.number := by
  rw [requestOfNumber_eq_some_iff, ← BitVec.toNat_inj, BitVec.toNat_ofNat, Nat.mod_eq_of_lt (number_lt c)]

/-! ## Forms -/

/-- The value that CHECK.START's form depends on: the first field's. -/
def leadingNumber : List Raw → Nat
  | .nat k :: _ => k
  | _ => 0

/-- The fields fit the form of the request. -/
def fitsForm (c : RequestCode) (raws : List Raw) : Bool := (c.form (leadingNumber raws)).any (fieldsFit · raws)

theorem bodyBytes_of_form {c : RequestCode} {raws : List Raw} {form : List FieldType}
    (h : c.form (leadingNumber raws) = some form) :
    bodyBytes c raws = BitVec.ofNat 8 c.number :: fieldsBytes form raws := by
  have hbody : bodyBytes c raws = bytes1 c.number ++ fieldsBytes ((c.form (leadingNumber raws)).getD []) raws := by
    rcases raws with _ | ⟨_ | _ | _ | _, _⟩ <;> rfl
  rw [hbody, h]
  rfl

/-- CHECK.START alone has a form that depends on its first field (R187). -/
theorem form_eq_of_ne {c : RequestCode} (h : c ≠ .checkStart) (j k : Nat) : c.form j = c.form k := by
  cases c with
  | checkStart => exact absurd rfl h
  | _ => rfl

theorem form_checkStart_leads {k : Nat} {form : List FieldType} (h : RequestCode.checkStart.form k = some form) :
    ∃ types, form = .u8 :: types := by
  simp only [RequestCode.form] at h
  split_ifs at h <;> exact ⟨_, (Option.some.inj h).symm⟩

/-- The first byte of fields that begin with a number of one byte is that number. -/
theorem headD_fieldsBytes_u8 {types : List FieldType} {raws : List Raw} (h : fieldsFit (.u8 :: types) raws = true) :
    ((fieldsBytes (.u8 :: types) raws).headD 0).toNat = leadingNumber raws := by
  rcases raws with _ | ⟨_ | _ | _ | _, raws⟩
  case cons.nat n =>
    have hn : fits8 n = true := (Bool.and_eq_true_iff.1 h).1
    exact toNat_ofNat_of_fits8 hn
  all_goals cases h

/-- The frame's first field byte chooses the same form as the first field read from it. -/
theorem form_headD {c : RequestCode} {k : Nat} {form : List FieldType} {raws : List Raw} (h : c.form k = some form)
    (hfit : fieldsFit form raws = true) :
    c.form ((fieldsBytes form raws).headD 0).toNat = c.form (leadingNumber raws) := by
  by_cases hc : c = .checkStart
  · subst hc
    obtain ⟨types, rfl⟩ := form_checkStart_leads h
    rw [headD_fieldsBytes_u8 hfit]
  · exact form_eq_of_ne hc _ _

/-! ## Frames -/

/-- A frame's body is read as a request exactly when it is the body written for a code and fields that spell it. -/
theorem decodeBody_eq_some_iff {p : Port} {code : Byte} {fields : List Byte} {i : Instr} :
    decodeBody p code fields = some i ↔
      ∃ c raws, fitsForm c raws = true ∧ requestCommand p c raws = some i ∧ code :: fields = bodyBytes c raws := by
  simp only [decodeBody, Option.bind_eq_some_iff, requestOfNumber_toNat_eq_some_iff, takeFields_eq_some_iff, fitsForm,
    Option.any_eq_true]
  constructor
  · rintro ⟨c, rfl, form, hform, raws, ⟨hfit, rfl⟩, hcommand⟩
    have hlead : c.form (leadingNumber raws) = some form := (form_headD hform hfit).symm.trans hform
    exact ⟨c, raws, ⟨form, hlead, hfit⟩, hcommand, (bodyBytes_of_form hlead).symm⟩
  · rintro ⟨c, raws, ⟨form, hlead, hfit⟩, hcommand, hbody⟩
    rw [bodyBytes_of_form hlead] at hbody
    obtain ⟨rfl, rfl⟩ := List.cons.inj hbody
    exact ⟨c, rfl, form, (form_headD hlead hfit).trans hlead, raws, ⟨hfit, rfl⟩, hcommand⟩

/-- A frame is read as a request exactly when it is a body that is read so, of at most 255 bytes, behind the length byte
of that body. -/
theorem decodeFrame_eq_some_iff {p : Port} {bytes : List Byte} {i : Instr} :
    decodeFrame p bytes = some i ↔
      ∃ code fields, fields.length + 1 ≤ maxFrame ∧ decodeBody p code fields = some i ∧
        bytes = BitVec.ofNat 8 (fields.length + 1) :: code :: fields := by
  constructor
  · intro h
    rcases bytes with _ | ⟨len, _ | ⟨code, fields⟩⟩
    case cons.cons =>
      obtain ⟨hlength, hbody⟩ := Option.ite_none_right_eq_some.1 h
      have hmax : len.toNat ≤ maxFrame := Nat.le_of_lt_succ len.isLt
      exact ⟨code, fields, hlength ▸ hmax, hbody, by rw [← hlength, BitVec.ofNat_toNat, BitVec.setWidth_eq]⟩
    all_goals cases h
  · rintro ⟨code, fields, hmax, hbody, rfl⟩
    exact (if_pos (Nat.mod_eq_of_lt (Nat.lt_succ_of_le hmax))).trans hbody

theorem encodeFrame_eq_some_iff {i : Instr} {p : Port} {bytes : List Byte} :
    encodeFrame i = some (p, bytes) ↔ ∃ c raws, requestParts i = some (p, c, raws) ∧
      bytes = BitVec.ofNat 8 (bodyBytes c raws).length :: bodyBytes c raws := by
  simp only [encodeFrame, Option.map_eq_some_iff, Prod.exists, Prod.mk.injEq]
  constructor
  · rintro ⟨_, c, raws, hparts, rfl, rfl⟩
    exact ⟨c, raws, hparts, rfl⟩
  · rintro ⟨c, raws, hparts, rfl⟩
    exact ⟨p, c, raws, hparts, rfl, rfl⟩

/-! ## The request that fields spell -/

/-- A number of two bytes is kept as the causes that CAUSE.CLEAR or CAUSE.MASK names. -/
theorem toNat_ofNat_of_fits16 {n : Nat} (h : fits16 n = true) : (BitVec.ofNat 16 n).toNat = n :=
  Nat.mod_eq_of_lt (of_decide_eq_true h)

/-- A request that fields of its form spell has those fields: KEY.SET keeps its destinations as numbers, CAUSE.CLEAR and
CAUSE.MASK keep their number as a set of causes, and every other request keeps its fields as they are. -/
theorem requestParts_of_requestCommand {p : Port} {c : RequestCode} {raws : List Raw} {i : Instr}
    (hfit : fitsForm c raws = true) (h : requestCommand p c raws = some i) : requestParts i = some (p, c, raws) := by
  unfold requestCommand at h
  split at h <;> obtain ⟨⟩ := h <;> try rfl
  next k v m lk src ds =>
    have hds : (ds.map BitVec.toNat).map (BitVec.ofNat 8) = ds := by simp [Function.comp_def]
    rw [requestParts, hds]
  all_goals
    rename_i n
    have hn : fits16 n = true := (Bool.and_eq_true_iff.1 hfit).1
    rw [requestParts, toNat_ofNat_of_fits16 hn]

/-! ## Lengths -/

@[simp] theorem length_fieldsBytes_nil : (fieldsBytes [] []).length = 0 := rfl

@[simp] theorem length_fieldsBytes_cons (t : FieldType) (ts : List FieldType) (r : Raw) (rs : List Raw) :
    (fieldsBytes (t :: ts) (r :: rs)).length = (fieldsBytes ts rs).length + (fieldBytes t r).length :=
  List.length_append.trans (Nat.add_comm _ _)

@[simp] theorem length_fieldBytes_u8 (n : Nat) : (fieldBytes .u8 (.nat n)).length = 1 := rfl
@[simp] theorem length_fieldBytes_u16 (n : Nat) : (fieldBytes .u16 (.nat n)).length = 2 := rfl
@[simp] theorem length_fieldBytes_u24 (n : Nat) : (fieldBytes .u24 (.nat n)).length = 3 := rfl
@[simp] theorem length_fieldBytes_s8 (x : Int) : (fieldBytes .s8 (.level x)).length = 1 := rfl
@[simp] theorem length_fieldBytes_list (bs : List Byte) : (fieldBytes .list (.list bs)).length = bs.length + 1 := rfl

/-- The parameters of LINK.ENROLL and LINK.SET take at most nine bytes. -/
theorem length_fieldBytes_params_le (q : LinkParams) : (fieldBytes .params (.params q)).length ≤ 9 := by
  have h1 := numeral_bytes1.length_optionalBytes_le
  have h2 := numeral_bytes2.length_optionalBytes_le
  have := h1 q.floor
  have := h2 q.fadeTime
  have := h2 q.lossTime
  have := h1 q.autoRetune
  have := h2 q.retuneDelay
  simp only [fieldBytes, paramsBytes, List.length_cons, List.length_append]
  omega

/-- A list of numbers is read back from its bytes exactly when each of them fits a byte. -/
theorem map_toNat_map_ofNat_eq_iff (ds : List Nat) :
    (ds.map (BitVec.ofNat 8)).map BitVec.toNat = ds ↔ ds.all fits8 = true := by
  induction ds with
  | nil => simp
  | cons d ds ih =>
    have hd : d % 2 ^ 8 = d ↔ fits8 d = true := (Nat.mod_eq_iff_lt (by decide)).trans decide_eq_true_iff.symm
    simp only [List.map_cons, List.cons.injEq, BitVec.toNat_ofNat, hd, ih, List.all_cons, Bool.and_eq_true]

/-- Each number that CAUSE.CLEAR and CAUSE.MASK carry fits two bytes. -/
@[simp] theorem fits16_toNat (n : BitVec 16) : fits16 n.toNat = true := decide_eq_true n.isLt

theorem fits_frame_iff_of_form {c : RequestCode} {raws : List Raw} {form : List FieldType}
    (h : c.form (leadingNumber raws) = some form) :
    (fitsForm c raws = true ∧ (bodyBytes c raws).length ≤ maxFrame) ↔
      fieldsFit form raws = true ∧ (fieldsBytes form raws).length < maxFrame := by
  rw [fitsForm, bodyBytes_of_form h, h]
  rfl

/-- A request is well formed exactly when its fields fit their form and its frame, and spell it (R186, R187). -/
theorem wellFormed_iff_of_requestParts {p : Port} {c : RequestCode} {raws : List Raw} {i : Instr}
    (h : requestParts i = some (p, c, raws)) : i.wellFormed = true ↔
      (fitsForm c raws = true ∧ (bodyBytes c raws).length ≤ maxFrame) ∧ requestCommand p c raws = some i := by
  cases i with
  | keySet q k v m lk src ds =>
    obtain ⟨⟩ := h
    have hlist : ds.length ≤ 248 ↔ fits8 ds.length = true ∧ ds.length + 1 + 1 + 1 + 1 + 1 + 1 < 255 := by
      rw [fits8, decide_eq_true_iff]
      omega
    rw [fits_frame_iff_of_form rfl, requestCommand, Option.some.injEq, Instr.keySet.injEq, map_toNat_map_ofNat_eq_iff]
    simp [Instr.wellFormed, maxFrame, and_assoc, hlist]
    tauto
  | returnPass q l payload =>
    obtain ⟨⟩ := h
    have hlist : payload.length ≤ 252 ↔ fits8 payload.length = true ∧ payload.length + 1 + 1 < 255 := by
      rw [fits8, decide_eq_true_iff]
      omega
    rw [fits_frame_iff_of_form rfl]
    simp [Instr.wellFormed, requestCommand, maxFrame, and_assoc, hlist]
  | linkEnroll q i id k r params o =>
    obtain ⟨⟩ := h
    have hlength : 1 + (fieldBytes .params (.params params)).length + 1 + 1 + 3 + 1 < 255 := by
      have := length_fieldBytes_params_le params
      omega
    rw [fits_frame_iff_of_form rfl]
    simp [Instr.wellFormed, requestCommand, maxFrame, and_assoc, hlength]
  | linkSet q i params =>
    obtain ⟨⟩ := h
    have hlength : (fieldBytes .params (.params params)).length + 1 < 255 := by
      have := length_fieldBytes_params_le params
      omega
    rw [fits_frame_iff_of_form rfl]
    simp [Instr.wellFormed, requestCommand, maxFrame, hlength]
  | checkStart q target =>
    have hkind : fits8 0 = true ∧ fits8 1 = true := by decide
    cases target
    all_goals
      obtain ⟨⟩ := h
      rw [fits_frame_iff_of_form rfl]
      simp [Instr.wellFormed, requestCommand, maxFrame, and_assoc, hkind]
  | _ =>
    obtain ⟨⟩ := h
    -- The commands that are no requests are gone; each request left has fields of a fixed length.
    all_goals
      rw [fits_frame_iff_of_form rfl]
      simp [Instr.wellFormed, requestCommand, maxFrame, and_assoc]

end Sys2Proof.Machine
end

section
namespace Sys2Proof.Proofs
open Sys2Proof.Machine

/-- Settles O7: a frame is read as the request that its fields spell, and a request's own fields spell it exactly when
it is well formed. -/
theorem frameCodec : Obligations.FrameCodec := by
  unfold Obligations.FrameCodec
  intro i p bytes
  rw [decodeFrame_eq_some_iff, encodeFrame_eq_some_iff]
  constructor
  · rintro ⟨code, fields, hmax, hdecode, rfl⟩
    obtain ⟨c, raws, hfit, hcommand, hbody⟩ := decodeBody_eq_some_iff.1 hdecode
    have hparts := requestParts_of_requestCommand hfit hcommand
    have hlength : fields.length + 1 = (bodyBytes c raws).length := congrArg List.length hbody
    exact ⟨(wellFormed_iff_of_requestParts hparts).2 ⟨⟨hfit, hlength ▸ hmax⟩, hcommand⟩, c, raws, hparts,
      by rw [hlength, hbody]⟩
  · rintro ⟨hwell, c, raws, hparts, rfl⟩
    obtain ⟨⟨hfit, hmax⟩, hcommand⟩ := (wellFormed_iff_of_requestParts hparts).1 hwell
    obtain ⟨form, hform, -⟩ := Option.any_eq_true _ _ |>.1 hfit
    have hbody := bodyBytes_of_form hform
    rw [hbody] at hmax ⊢
    exact ⟨_, _, hmax, decodeBody_eq_some_iff.2 ⟨c, raws, hfit, hcommand, hbody.symm⟩, rfl⟩

end Sys2Proof.Proofs
end

section
/-! SUPPORT. Port messages: the message written for a command spells that command and ends by its count (R189, R190), and
what a complete message is taken as (R191). -/

namespace Sys2Proof.Machine

section
variable {i : Instr} {line : InPort} {bytes : List Byte}

theorem beNat_of_fits24 {n : Nat} (h : fits24 n = true) :
    beNat [BitVec.ofNat 8 (n / 65536), BitVec.ofNat 8 (n / 256), BitVec.ofNat 8 n] = n :=
  numeral_bytes3.beNat_bytes n h

/-- The echo byte of a HEARD message, where it has one, is read back from the bytes that end the message. -/
theorem head?_optionalBytes {v : Option Nat} (h : fitsOpt fits8 v = true) :
    (optionalBytes bytes1 v).head?.map BitVec.toNat = v := by
  cases v with
  | none => rfl
  | some n => exact congrArg some (toNat_ofNat_of_fits8 h)

theorem messageCommand_heard (r i1 i2 i3 k f1 f2 f3 x m : Byte) (rest : List Byte) :
    messageCommand .receiver (0x48#8 :: r :: i1 :: i2 :: i3 :: k :: f1 :: f2 :: f3 :: x :: m :: rest) =
      some (.heard ⟨r.toNat, beNat [i1, i2, i3], k.toNat, beNat [f1, f2, f3], x.toInt, m.toNat,
        rest.head?.map BitVec.toNat⟩) := rfl

theorem messageCommand_sample (r x : Byte) :
    messageCommand .receiver [0x53#8, r, x] = some (.sample r.toNat x.toInt) := rfl

theorem messageCommand_mixer (a f : Byte) :
    messageCommand .mixer [0x54#8, a, f] = some (.mixerTallyMessage a.toNat f.toNat) := rfl

theorem messageCommand_keyDown (k : Byte) : messageCommand .keypanel [0x44#8, k] = some (.keyDown k.toNat) := rfl

theorem messageCommand_keyUp (k : Byte) : messageCommand .keypanel [0x55#8, k] = some (.keyUp k.toNat) := rfl

theorem messageCommand_matrix (o i : Byte) :
    messageCommand .matrix [0x41#8, o, i] = some (.orderAck o.toNat i.toNat) := rfl

theorem messageCommand_ret (n : Byte) : messageCommand .ret [0x64#8, n] = some (.doneMessage n.toNat) := rfl

/-- The message written for a well-formed command spells that command (R189). -/
theorem messageCommand_of_encodeMessage (hwell : i.wellFormed = true) (h : encodeMessage i = some (line, bytes)) :
    messageCommand line bytes = some i := by
  cases i with
  | heard r =>
    obtain ⟨⟩ := h
    simp only [Instr.wellFormed, HeardReport.fits, Bool.and_eq_true] at hwell
    obtain ⟨⟨⟨⟨⟨⟨⟨hreceiver, hident⟩, hkind⟩, hfreq⟩, hlevel⟩, hmargin⟩, hecho⟩, -⟩ := hwell
    refine (messageCommand_heard (rest := optionalBytes bytes1 r.echo) ..).trans ?_
    rw [toNat_ofNat_of_fits8 hreceiver, beNat_of_fits24 hident, toNat_ofNat_of_fits8 hkind, beNat_of_fits24 hfreq,
      toInt_ofInt_level hlevel, toNat_ofNat_of_fits8 hmargin, head?_optionalBytes hecho]
  | sample receiver level =>
    obtain ⟨⟩ := h
    obtain ⟨hreceiver, hlevel⟩ := Bool.and_eq_true_iff.1 hwell
    exact (messageCommand_sample ..).trans (by rw [toNat_ofNat_of_fits8 hreceiver, toInt_ofInt_level hlevel])
  | mixerTallyMessage source flags =>
    obtain ⟨⟩ := h
    obtain ⟨hsource, hflags⟩ := Bool.and_eq_true_iff.1 hwell
    exact (messageCommand_mixer ..).trans (by rw [toNat_ofNat_of_fits8 hsource, toNat_ofNat_of_fits8 hflags])
  | orderAck output input =>
    obtain ⟨⟩ := h
    obtain ⟨houtput, hinput⟩ := Bool.and_eq_true_iff.1 hwell
    exact (messageCommand_matrix ..).trans (by rw [toNat_ofNat_of_fits8 houtput, toNat_ofNat_of_fits8 hinput])
  | keyDown key =>
    obtain ⟨⟩ := h
    exact (messageCommand_keyDown ..).trans (by rw [toNat_ofNat_of_fits8 hwell])
  | keyUp key =>
    obtain ⟨⟩ := h
    exact (messageCommand_keyUp ..).trans (by rw [toNat_ofNat_of_fits8 hwell])
  | doneMessage number =>
    obtain ⟨⟩ := h
    exact (messageCommand_ret ..).trans (by rw [toNat_ofNat_of_fits8 hwell])
  | _ => cases h

/-- A HEARD report of the two kinds has the bytes of its count: an echo byte for kind CAMERA alone (R189, R190). -/
theorem heardCount_of_fits {r : HeardReport} (hfits : r.fits = true) (hkind : r.kind ≤ 1) :
    heardCount r.kind = 11 + (optionalBytes bytes1 r.echo).length := by
  obtain ⟨-, hecho⟩ := Bool.and_eq_true_iff.1 hfits
  obtain hcamera | hmic : r.kind = 0 ∨ r.kind = 1 := by omega
  · rw [hcamera] at hecho ⊢
    obtain ⟨e, he⟩ := Option.isSome_iff_exists.1 (beq_iff_eq.1 hecho)
    rw [he]
    rfl
  · rw [hmic] at hecho ⊢
    have hnone : r.echo = none := Option.isSome_eq_false_iff.1 (beq_iff_eq.1 hecho) |> Option.isNone_iff_eq_none.1
    rw [hnone]
    rfl

/-- The message written for a well-formed command ends by its count (R190). -/
theorem messageComplete_of_encodeMessage (hwell : i.wellFormed = true) (h : encodeMessage i = some (line, bytes))
    (hkind : ∀ r, i = .heard r → r.kind ≤ 1) : messageComplete line bytes = true := by
  cases i with
  | heard r =>
    obtain ⟨⟩ := h
    have hcount := heardCount_of_fits hwell (hkind r rfl)
    have hbyte : r.kind % 256 = r.kind := Nat.mod_eq_of_lt (by have := hkind r rfl; omega)
    simp [messageComplete, messageCount, InPort.types, bytes1, bytes3, hbyte, hcount]
    omega
  | sample | mixerTallyMessage | orderAck | keyDown | keyUp | doneMessage =>
    obtain ⟨⟩ := h
    rfl
  | _ => cases h

/-- A complete message of a command is malformed exactly when the command's content is (R191). -/
theorem messageMalformed_eq (hcomplete : messageComplete line bytes = true) (h : messageCommand line bytes = some i) :
    messageMalformed line bytes = contentMalformed i := by
  rw [messageMalformed, hcomplete, h, Bool.true_and]

end

end Sys2Proof.Machine
end

section
namespace Sys2Proof.Proofs
open Sys2Proof.Machine

/-- Settles O8: the message written for a command is complete and spells it, so its content decides what it is taken
as. -/
theorem portMessagesReadBack : Obligations.PortMessagesReadBack := by
  unfold Obligations.PortMessagesReadBack
  intro i line bytes hwell hencode hkind
  have hcomplete := messageComplete_of_encodeMessage hwell hencode hkind
  have hcommand := messageCommand_of_encodeMessage hwell hencode
  have hmalformed := messageMalformed_eq hcomplete hcommand
  exact ⟨hcomplete, fun hgood => (decodeMessage_wellFormed (hmalformed.trans hgood)).trans hcommand,
    fun hbad => decodeMessage_malformed (hmalformed.trans hbad)⟩

/-- Settles O9: the frames and messages in are decoded, and each message out is the bytes it is written as. -/
theorem exampleBytes : Obligations.ExampleBytes := by
  unfold Obligations.ExampleBytes
  refine ⟨by decide, by decide, by decide, by decide, by decide, by decide, by decide, fun k => ⟨rfl, rfl, rfl, rfl⟩,
    fun o i d => rfl, fun o d => rfl, fun l n c h d => rfl, fun l n iso talk d => ?_, fun l n payload d => rfl⟩
  cases iso <;> cases talk <;> exact ⟨rfl, rfl, rfl⟩

end Sys2Proof.Proofs
end
